-- ==== Sys2Proof/Word.lean ====
section
/-!
DEFINITION. The words of the chassis bus and the bytes of memory (12_formats.md, introduction).
-/

namespace Sys2Proof

/-- A 32-bit word of the chassis bus; bit 0 is the least significant. -/
abbrev Word := BitVec 32

/-- One byte. -/
abbrev Byte := BitVec 8

end Sys2Proof
end

