-- ==== Sys2Proof/Syntax.lean ====
section
/-!
DEFINITION. The commands of the part: one constructor for each row of spec/opcode_table.json.
A command is one indivisible step (95_what_each_step_holds.md).
-/

namespace Sys2Proof

/-- A whole-word access to the port window (R168). -/
inductive Access where
  | read
  | write (w : Word)
  deriving DecidableEq, Repr

/-- The eight word offsets of the port window (R168). -/
inductive PortOffset where
  /-- 0x00 -/
  | requestStart
  /-- 0x04 -/
  | requestWord
  /-- 0x08 -/
  | reply
  /-- 0x0C -/
  | portStatus
  /-- 0x10 -/
  | attentionAck
  /-- 0x14 -/
  | portReset
  /-- 0x18 -/
  | spare18
  /-- 0x1C -/
  | spare1C
  deriving DecidableEq, Repr

/-- The commands. `slot` is a bus master number, the number of the station slot that makes the access or whose head record
is taken (log 2: a taken record's words stand in the slot's request queue). -/
inductive Instr where
  -- resets (11_start_up_and_recovery.md)
  | powerOnReset
  | startUp
  | chassisReset
  | recoveryScan
  -- time (10_time_base_and_timers.md, R41, R139, R73)
  | uptimeTick
  | idleTimerExpiry (ctx : Nat)
  | holdExpiry (doc pos : Nat)
  | retentionExpiry (doc : Nat)
  -- port window accesses (09, R167 to R182; R194)
  | requestStart (slot : Nat) (acc : Access)
  | requestWord (slot : Nat) (acc : Access)
  | reply (slot : Nat)
  | portStatus (slot : Nat)
  | attentionAck (slot : Nat) (acc : Access)
  | portReset (slot : Nat) (acc : Access)
  | writeIgnored (slot : Nat) (off : PortOffset) (acc : Access)
  | unusedSlotAccess (slot : Nat) (off : PortOffset) (acc : Access)
  | portAccessRetry (slot : Nat) (off : PortOffset) (acc : Access)
  -- taken records: stations
  | badCommand (slot : Nat)
  | echo (slot : Nat)
  | readStatus (slot : Nat)
  | stationConfig (slot : Nat)
  | stationReset (slot : Nat)
  | clearFault (slot : Nat)
  -- taken records: block store and time base
  | storeStatus (slot : Nat)
  | setStoreMarks (slot : Nat)
  | setIntakeHold (slot : Nat)
  | setClock (slot : Nat)
  | readClock (slot : Nat)
  -- taken records: receptions and profiles
  | openReception (slot : Nat)
  | setSender (slot : Nat)
  | pageData (slot : Nat)
  | pageEnd (slot : Nat)
  | endReception (slot : Nat)
  | abortReception (slot : Nat)
  | setProfile (slot : Nat)
  | getProfile (slot : Nat)
  -- taken records: document table
  | docInfo (slot : Nat)
  | pageInfo (slot : Nat)
  | setDocAttr (slot : Nat)
  | purge (slot : Nat)
  | listDocs (slot : Nat)
  | setRetention (slot : Nat)
  -- taken records: routing
  | routeSet (slot : Nat)
  | routeClear (slot : Nat)
  | routeGet (slot : Nat)
  | routeLookup (slot : Nat)
  | setDefaultRoute (slot : Nat)
  | setFallback (slot : Nat)
  -- taken records: destinations
  | destConfig (slot : Nat)
  | destOpen (slot : Nat)
  | destPause (slot : Nat)
  | destClose (slot : Nat)
  | destStatus (slot : Nat)
  | reroute (slot : Nat)
  -- taken records: checkout and delivery
  | take (slot : Nat)
  | fetchPages (slot : Nat)
  | confirm (slot : Nat)
  | returnCheckout (slot : Nat)
  | withdraw (slot : Nat)
  -- taken records: transfer engine
  | cancelTransfer (slot : Nat)
  | setBusPolicy (slot : Nat)
  -- the chassis bus as the Transfer Engine masters it (08, R149, R150)
  | busGrant
  | burstComplete (words : List Word)
  | burstRetry
  | burstError
  deriving DecidableEq, Repr

end Sys2Proof
end

