-- ==== Sys2Proof/Decode.lean ====
section
/-!
DEFINITION. The command a word spells by the bits of spec/opcode_table.json. No row of the table gives bits
(98_reader.md: no row with fixed bits, none with fields), so no word spells a command.
-/

namespace Sys2Proof

/-- The command whose bits are `w`: none, for no row gives bits. -/
def decodeTableWord (_nbits _w : Nat) : Option Instr := none

end Sys2Proof
end

