-- ==== Sys2Proof/Config.lean ====
section
/-!
DEFINITION. What is fixed for the part: the capacities of its tables (00_scope.md, "Block diagram"),
and the free values, which the manual leaves open. A free value has no body, so no proof can lean on it.
-/

namespace Sys2Proof.Config

/-- Blocks of the store memory (R1). -/
def blocks : Nat := 131072

/-- Bytes of one block (R1). -/
def blockBytes : Nat := 4096

/-- Station slots (R167). -/
def slots : Nat := 16

/-- Reception contexts (R19). -/
def contexts : Nat := 64

/-- Document records (R64). -/
def documents : Nat := 4096

/-- Page records (R66). -/
def pageRecords : Nat := 32768

/-- Destinations (R108). -/
def destinations : Nat := 32

/-- Route entries (R90). -/
def routes : Nat := 1024

/-- Channels of the Transfer Engine (R148). -/
def channels : Nat := 4

/-- Jobs the job queue can hold (R146). -/
def jobQueue : Nat := 32

/-- Jobs of one station in the engine (R146, R147). -/
def jobsPerStation : Nat := 4

/-- Complete records a request queue can hold (R169). -/
def requestQueue : Nat := 8

/-- Queued replies and reserved slots of one station together (R172). -/
def replyQueue : Nat := 32

/-- Bytes of one burst at most (R149). -/
def burstBytes : Nat := 256

/-- Descriptors of one chain at most (R153). -/
def descriptors : Nat := 64

/-- Lines of one page at most (R49). -/
def pageLines : Nat := 32767

/-- Blocks of one page at most (R49). -/
def pageBlocks : Nat := 256

/-- Committed pages of one document at most (R29, R49). -/
def documentPages : Nat := 255

/-- The greatest uptime (R187). -/
def maxUptime : Nat := 281474976710655

/-- FREE VALUE (log 12, DESIGN CHOICE). R43: "For each such reception, in any order among them". The key by which
reception context `ctx` is ordered at the `n`-th such moment: nothing is known of it, so every order is possible. -/
opaque receptionOrder (n ctx : Nat) : Nat

/-- How far a run of the recovery scan has come (R196): the stage last finished, and within stages 3 and 7 how many
contexts, PURGE_PENDING documents and release tests are behind it. -/
inductive ScanPoint where
  | notBegun
  /-- stage 1, which R197 carries out together -/
  | stations
  /-- stage 2 -/
  | engine
  /-- so many contexts of stage 3 -/
  | contexts (done : Nat)
  /-- stage 3, the unlisted page records returned -/
  | pages
  /-- stage 4 -/
  | reservation
  /-- stage 5 -/
  | stack
  /-- stage 6 -/
  | hold
  /-- so many PURGE_PENDING documents of stage 7 -/
  | purges (done : Nat)
  /-- so many release tests of stage 7 -/
  | releases (done : Nat)
  deriving DecidableEq, Repr, Inhabited

/-- FREE VALUE (log 7, DESIGN CHOICE). R197: a chassis reset "abandons the scan where it stands". Where the `n`-th reset that
breaks a scan found it: nothing is known of it, so every point is possible. -/
opaque scanReached (n : Nat) : ScanPoint

/-- FREE VALUE (log 17, DESIGN CHOICE). Word `i` of a completed bus read whose answer carries no such word. -/
opaque undrivenWord (i : Nat) : Word

/-- FREE VALUE (log 21, DESIGN CHOICE). The 48 bits a reply shows for a deadline `v` above the greatest uptime. -/
opaque uptimeBeyond (v : Nat) : Nat

end Sys2Proof.Config
end

