-- ==== Sys2Proof/Machine/State.lean ====
section
/-!
DEFINITION. The state of the part, block by block, as plain data, and the state right after power-on reset.
A table of the part is a list of (number, value) pairs in one canonical form (Machine/Ops.lean): numbers strictly rising,
no pair equal to what an unlisted number reads as.
-/

namespace Sys2Proof.Machine

/-- A number of a block of the store memory, 0 to 131,071 (R1). -/
abbrev Block := Fin 131072

/-- A sparsely held table; what an unlisted number reads as is given where the table is read. -/
structure Table (α : Type) where
  cells : List (Nat × α)
  deriving DecidableEq, Repr

/-! ## Status codes, records and replies (09) -/

/-- The status field of a reply or a notice (R186). -/
inductive Status where
  | ok | empty | emptyDocument
  | badCommand | badLength | noRight | badField | staleHandle | wrongState | notOwner | notVisible
  | storeLow | tableFull | contextFull | pageLimit | noPageRecord | intakeBusy | engineFull
  | duplicatePrefix | setTooLarge | isFallback | lastAdmin | held
  | destUnavailable | checkoutLimit | notCheckedOut | transferActive
  | shortBuffer | cancelled | apertureFault | busError | chainFault | storeFull
  | receptionTimeout | checkoutExpired | descriptorDone | destState | storeState | unroutedDoc | undeliverable | noticeOverrun
  | noReply
  deriving DecidableEq, Repr

/-- The fields of a request header as the part holds them (R169, R198): the tag after its clamping. -/
structure Header where
  code : Nat
  length : Nat
  tag : Nat
  deriving DecidableEq, Repr

/-- A complete request record: its header and its further words (R169). -/
structure Record where
  header : Header
  words : List Word
  deriving DecidableEq, Repr

/-- A reply record (R172): status, command code of the request (0 for a notice), tag and further words. -/
structure Reply where
  status : Status
  code : Nat
  tag : Nat
  words : List Word
  deriving DecidableEq, Repr

/-- The rights of a slot (R167). -/
structure Rights where
  intake : Bool
  deliver : Bool
  administer : Bool
  deriving DecidableEq, Repr

/-- The attention enables of a slot (R167, R178). -/
structure Enables where
  reply : Bool
  work : Bool
  fault : Bool
  deriving DecidableEq, Repr

/-- A station slot: its configuration (R167) and its port state (R169 to R178). -/
structure Station where
  rights : Rights
  /-- aperture start, a 64 KiB unit -/
  apertureStart : Nat
  /-- aperture end, a 64 KiB unit -/
  apertureEnd : Nat
  relocationBase : BitVec 16
  selectMask : BitVec 16
  enables : Enables
  /-- the assembly buffer; `some` is OPEN, and reserves one place of the request queue -/
  assembly : Option Record
  requests : List Record
  replies : List Reply
  /-- reserved reply slots -/
  reserved : Nat
  /-- the reply latch: `some k` holds the oldest reply, of which k words (the header counted) have been read -/
  latch : Option Nat
  work : Bool
  framing : Bool
  noticeLost : Bool
  deriving DecidableEq, Repr

/-- A slot of 1 to 15 at power-on (R167): UNUSED. -/
def Station.unused : Station where
  rights := ⟨false, false, false⟩
  apertureStart := 0
  apertureEnd := 0
  relocationBase := 0
  selectMask := 0
  enables := ⟨false, false, false⟩
  assembly := none
  requests := []
  replies := []
  reserved := 0
  latch := none
  work := false
  framing := false
  noticeLost := false

/-- Slot 0 at power-on (R167): ADMINISTER, and an aperture over the whole bus. -/
def Station.first : Station :=
  { Station.unused with rights := ⟨false, false, true⟩, apertureEnd := 65535 }

/-- The Station Port Unit. -/
structure Spu where
  stations : Table Station
  /-- the part fault condition (R177); it is also the FAULT hold cause (R11) and the fault output -/
  fault : Bool
  /-- the slots whose station reset is being carried out (R175); empty between commands -/
  underReset : List Nat
  deriving DecidableEq, Repr

/-! ## The block store (01) -/

/-- The Block Store Manager with the store memory. -/
structure Bsm where
  lowMark : Nat
  releaseMark : Nat
  floor : Nat
  intakeReserve : Nat
  storeHold : Bool
  adminHold : Bool
  /-- the free-block stack, top first, above its untouched tail -/
  freeTop : List Block
  /-- the tail of the free-block stack is `fresh`, `fresh + 1`, …, 131,071, the lowest on top -/
  fresh : Nat
  /-- S, the reserved blocks -/
  reserved : Nat
  /-- the block link table; `none` is END, which an unlisted block reads as -/
  links : Table (Option Block)
  /-- the store memory by byte address; an unlisted byte reads 0 (log 9) -/
  store : Table Byte
  deriving DecidableEq, Repr

/-! ## Receptions (02, 03) -/

/-- What a POOR page calls for (R60). -/
inductive PoorAction where
  | keep | drop
  deriving DecidableEq, Repr

/-- The acceptance fields of a profile (R60), copied into a profile snapshot at page open (R30, R61). -/
structure Acceptance where
  acceptLimit : Nat
  runLimit : Nat
  minimumLines : Nat
  poorAction : PoorAction
  retryLimit : Nat
  deriving DecidableEq, Repr

/-- A reception profile (R60); the idle timeout is in seconds. -/
structure Profile where
  acceptance : Acceptance
  idleTimeout : Nat
  deriving DecidableEq, Repr

/-- A profile at power-on (R60). -/
def Profile.powerOn : Profile := ⟨⟨50, 12, 16, .drop, 3⟩, 60⟩

/-- The states of a reception context in use (R20). -/
inductive ContextState where
  | betweenPages | pageOpen | intakeActive
  deriving DecidableEq, Repr

/-- The parser of a reception's page stream (R46). -/
inductive Parser where
  | empty
  /-- the words of the record now being assembled, its header first -/
  | assembling (words : List Word)
  | stopped
  deriving DecidableEq, Repr

/-- The causes of TRUNCATED (R52). -/
inductive Truncation where
  | lineLimit | sizeLimit | storeExhausted
  deriving DecidableEq, Repr

/-- The flags of a page (R51, R52). -/
structure PageFlags where
  truncated : Option Truncation
  framingError : Bool
  ragged : Bool
  poorForced : Bool
  deriving DecidableEq, Repr

/-- No flag. -/
def PageFlags.clear : PageFlags := ⟨none, false, false, false⟩

/-- The line counts of a page (R48). -/
structure Counts where
  lines : Nat
  bad : Nat
  repaired : Nat
  /-- the present run of BAD lines -/
  run : Nat
  /-- R, the longest run -/
  longest : Nat
  deriving DecidableEq, Repr

/-- The open-page state of a reception context (R19, R30). -/
structure OpenPage where
  /-- the number of the page record taken for the page -/
  record : Nat
  /-- the chain of blocks so far -/
  blocks : List Block
  storedBytes : Nat
  counts : Counts
  flags : PageFlags
  deriving DecidableEq, Repr

/-- A document handle (R64, R65): record index and generation. -/
structure Handle where
  index : Nat
  generation : Nat
  deriving DecidableEq, Repr

/-- A reception context in use (R19). -/
structure Context where
  handle : Handle
  openingSlot : Nat
  lineId : Nat
  profile : Nat
  snapshot : Option Acceptance
  parser : Parser
  openPage : Option OpenPage
  /-- reservation remaining -/
  reservation : Nat
  dropCounter : Nat
  idleDeadline : Option Nat
  state : ContextState
  deriving DecidableEq, Repr

/-- The Intake Unit: 64 contexts, `none` is FREE. -/
structure Iu where
  contexts : Table (Option Context)
  deriving DecidableEq, Repr

/-! ## The time base (10) -/

/-- The clock (R188). -/
structure Clock where
  day : Nat
  dayOfWeek : Nat
  minute : Nat
  millisecond : Nat
  isSet : Bool
  deriving DecidableEq, Repr

/-- The Time Base: uptime (R187) and the clock. -/
structure Tb where
  uptime : Nat
  clock : Clock
  deriving DecidableEq, Repr

/-! ## The document table (04) -/

/-- The states of a document record (R64, R69). -/
inductive DocState where
  | free | receiving | queued | unrouted | done | purgePending
  deriving DecidableEq, Repr

/-- The route a document was resolved through (R64). -/
inductive RouteSource where
  | entry (index : Nat)
  | default
  | none
  deriving DecidableEq, Repr

/-- The priority of a document (R24). -/
inductive Priority where
  | normal | urgent
  deriving DecidableEq, Repr

/-- The states of a delivery entry (R67). -/
inductive EntryState where
  | waiting | queued | checkedOut | delivered | undeliverable | withdrawn
  deriving DecidableEq, Repr

/-- A delivery entry (R67). -/
structure Entry where
  destination : Nat
  original : Option Nat
  state : EntryState
  attempts : Nat
  ticket : Nat
  deadline : Option Nat
  settleTime : Option Nat
  deriving DecidableEq, Repr

/-- The verdicts on a page (R57). -/
inductive Verdict where
  | empty | short | clean | acceptable | poor
  deriving DecidableEq, Repr

/-- A page record in use (R66). -/
structure PageRecord where
  number : Nat
  firstBlock : Option Block
  blockCount : Nat
  storedBytes : Nat
  lines : Nat
  bad : Nat
  repaired : Nat
  longest : Nat
  quality : Nat
  verdict : Verdict
  flags : PageFlags
  deriving DecidableEq, Repr

/-- The record of a page while it is open (R66): page number 0 and no block; the counts stand in the context (log 31). -/
def PageRecord.opened : PageRecord := ⟨0, none, 0, 0, 0, 0, 0, 0, 0, .empty, PageFlags.clear⟩

/-- A document record (R64). A string that is absent is empty; a time stamp that is absent is `none`. -/
structure Document where
  generation : Nat
  state : DocState
  openingSlot : Option Nat
  lineId : Nat
  calledDigits : List Byte
  callerNumber : List Byte
  sender : List Byte
  receiveTime : Option Clock
  endTime : Option Clock
  routeSource : RouteSource
  priority : Priority
  retentionClass : Nat
  confidential : Bool
  legalHold : Bool
  matter : List Byte
  incomplete : Bool
  poorPages : Bool
  truncatedPages : Bool
  /-- page record numbers in page number order -/
  pages : List Nat
  totalBlocks : Nat
  /-- the delivery list, positions 1 to 8 -/
  entries : Table (Option Entry)
  settleTime : Option Nat
  retentionDeadline : Option Nat
  deriving DecidableEq, Repr

/-- A document record never yet taken (R64, R89). -/
def Document.free : Document where
  generation := 0
  state := .free
  openingSlot := none
  lineId := 0
  calledDigits := []
  callerNumber := []
  sender := []
  receiveTime := none
  endTime := none
  routeSource := .none
  priority := .normal
  retentionClass := 0
  confidential := false
  legalHold := false
  matter := []
  incomplete := false
  poorPages := false
  truncatedPages := false
  pages := []
  totalBlocks := 0
  entries := ⟨[]⟩
  settleTime := none
  retentionDeadline := none

/-- The Document Table. -/
structure Dt where
  documents : Table Document
  /-- the pool of page records; `none` is FREE -/
  pages : Table (Option PageRecord)
  /-- the duration of each retention class in minutes -/
  retention : Table Nat
  deriving DecidableEq, Repr

/-! ## Routing (05) -/

/-- The fields of a route but its prefix (R90, R91). A destination set is its set word, a day set its day set word (R98). -/
structure Route where
  business : Word
  afterHours : Word
  days : BitVec 7
  start : Nat
  stop : Nat
  priority : Priority
  retentionClass : Nat
  confidential : Bool
  deriving DecidableEq, Repr

/-- A VALID route entry (R90): the digits of its prefix and its route. -/
structure RouteEntry where
  digits : List Byte
  route : Route
  deriving DecidableEq, Repr

/-- The default route at power-on (R91). -/
def Route.powerOn : Route := ⟨0, 0, 0, 0, 0, .normal, 0, false⟩

/-- The Route Table Unit. -/
structure Rtu where
  /-- `none` is EMPTY -/
  routes : Table (Option RouteEntry)
  defaultRoute : Route
  fallback : Option Nat
  profiles : Table Profile
  deriving DecidableEq, Repr

/-! ## Destinations (06, 07) -/

/-- The states of a destination (R109). -/
inductive DestState where
  | closed | opened | paused | draining
  deriving DecidableEq, Repr

/-- An item of a destination's queue (R111): a document and a delivery position. -/
structure QueueItem where
  handle : Handle
  position : Nat
  deriving DecidableEq, Repr

/-- An item of a checkout list (R125). -/
structure Checkout where
  handle : Handle
  position : Nat
  takingSlot : Nat
  ticket : Nat
  deriving DecidableEq, Repr

/-- A destination record (R108). Its queue is the URGENT class followed by the NORMAL class (R111). -/
structure Destination where
  state : DestState
  label : List Byte
  bound : Option Nat
  holdTime : Nat
  attemptLimit : Nat
  checkoutLimit : Nat
  urgent : List QueueItem
  normal : List QueueItem
  checkouts : List Checkout
  deriving DecidableEq, Repr

/-- A destination record at power-on (R108). -/
def Destination.powerOn : Destination := ⟨.closed, [], none, 300, 8, 4, [], [], []⟩

/-- The Delivery Queue Unit. -/
structure Dqu where
  destinations : Table Destination
  deriving DecidableEq, Repr

/-! ## The transfer engine (08) -/

/-- The delivery part of a job (R146); `page` and `byte` are the stream position. -/
structure Delivery where
  handle : Handle
  position : Nat
  ticket : Nat
  firstPage : Nat
  pageCount : Nat
  page : Nat
  byte : Nat
  whole : Nat
  deriving DecidableEq, Repr

/-- The kind of a job with the part of its kind (R146). -/
inductive JobKind where
  | intake (ctx : Nat)
  | delivery (d : Delivery)
  deriving DecidableEq, Repr

/-- The descriptor a job has fetched, with the relocated start of its region and the bytes of it already moved (R146). -/
structure Descriptor where
  /-- the descriptor's own station address -/
  address : Word
  notify : Bool
  /-- the END mark, or the reserved end flag -/
  last : Bool
  /-- the next descriptor address -/
  next : Word
  /-- the station address of the region -/
  region : Word
  count : Nat
  start : Word
  moved : Nat
  deriving DecidableEq, Repr

/-- A job of the Transfer Engine (R146). -/
structure Job where
  kind : JobKind
  slot : Nat
  tag : Nat
  chain : Word
  /-- `none` is QUEUED, `some c` is RUNNING on channel c -/
  channel : Option Nat
  cancelled : Bool
  detached : Bool
  suppressed : Bool
  /-- descriptors fetched -/
  fetched : Nat
  /-- the descriptor to be fetched next, once checked: its station address and its relocated address -/
  fetch : Option (Word × Word)
  current : Option Descriptor
  /-- bytes moved -/
  moved : Nat
  deriving DecidableEq, Repr

/-- The mode of the bus tenure setting (R150). -/
inductive BusMode where
  | fair | hold
  deriving DecidableEq, Repr

/-- A bus request at the level and mode read when it was made (R150). -/
structure BusRequest where
  level : Nat
  mode : BusMode
  deriving DecidableEq, Repr

/-- The kinds of burst (R149). -/
inductive BurstKind where
  | fetch | intakeRead | deliveryWrite
  deriving DecidableEq, Repr

/-- A burst (R149): its bus address, its length in bytes and, for a delivery write, the bytes driven. -/
structure Burst where
  kind : BurstKind
  address : Word
  length : Nat
  data : List Byte
  deriving DecidableEq, Repr

/-- A tenure of the chassis bus (R150) with the burst under way and the channel it was granted to. -/
structure Tenure where
  mode : BusMode
  channel : Nat
  burst : Burst
  deriving DecidableEq, Repr

/-- The Transfer Engine. -/
structure Te where
  /-- the job queue, oldest first -/
  jobs : List Job
  lastGranted : Nat
  level : Nat
  mode : BusMode
  request : Option BusRequest
  tenure : Option Tenure
  deriving DecidableEq, Repr

/-! ## The part -/

/-- The states of the part (R193). -/
inductive PartState where
  | starting | recovering | ready
  deriving DecidableEq, Repr

/-- The answer on the chassis bus to the last port window access (R168, R194). -/
inductive Answer where
  | none
  | done
  | word (w : Word)
  | retry
  | busError
  deriving DecidableEq, Repr

/-- The state of the part, and the queue of waiting commands. -/
structure State where
  part : PartState
  spu : Spu
  bsm : Bsm
  iu : Iu
  dt : Dt
  rtu : Rtu
  dqu : Dqu
  te : Te
  tb : Tb
  /-- the value of held when the part last left READY (R196, R197) -/
  heldAtLeave : Bool
  /-- the answer to the last port window access -/
  answer : Answer
  /-- MODEL'S OWN: counts the moments at which an open order was used (log 12) -/
  choice : Nat
  /-- MODEL'S OWN: the commands that wait, first in, first out (log 1) -/
  pending : List Instr
  deriving DecidableEq, Repr

/-- The reasons a step can stop the part: there is none, for the manual stops it nowhere. -/
inductive Fault : Type where
  deriving DecidableEq, Repr

/-- The refusals of exec: an arm of Dispatch that has no meaning yet (safe; no arm of this model answers it). -/
inductive Refusal where
  | notModelled (mnemonic : String)
  deriving DecidableEq, Repr

/-- Power-on values of the Block Store Manager (R17), with the free-block stack 0, 1, …, 131,071. -/
def Bsm.powerOn : Bsm where
  lowMark := 8192
  releaseMark := 16384
  floor := 1024
  intakeReserve := 64
  storeHold := false
  adminHold := false
  freeTop := []
  fresh := 0
  reserved := 0
  links := ⟨[]⟩
  store := ⟨[]⟩

/-- Power-on values of the Station Port Unit (R167, R169, R172 to R178). -/
def Spu.powerOn : Spu := ⟨⟨[(0, Station.first)]⟩, false, []⟩

/-- Power-on values of the Transfer Engine (R166). -/
def Te.powerOn : Te := ⟨[], 3, 3, .fair, none, none⟩

/-- The clock at power-on (R188). -/
def Clock.powerOn : Clock := ⟨0, 0, 0, 0, false⟩

/-- The part right after power-on reset (R193): STARTING, every block at its power-on values (R195), uptime 0 (R187). -/
def State.reset : State where
  part := .starting
  spu := Spu.powerOn
  bsm := Bsm.powerOn
  iu := ⟨⟨[]⟩⟩
  dt := ⟨⟨[]⟩, ⟨[]⟩, ⟨[]⟩⟩
  rtu := ⟨⟨[]⟩, Route.powerOn, none, ⟨[]⟩⟩
  dqu := ⟨⟨[]⟩⟩
  te := Te.powerOn
  tb := ⟨0, Clock.powerOn⟩
  heldAtLeave := false
  answer := .none
  choice := 0
  pending := []

end Sys2Proof.Machine
end

