-- ==== Sys2Proof/Machine/Ops.lean ====
section
/-!
DEFINITION. The named operations over the tables, registers and counts of the part. Every read and every write of a table
goes through the accessors here; the operations of one block that need no other block's are here as well.
-/

namespace Sys2Proof.Machine

/-! ## Tables held sparsely -/

/-- The value of the first listed pair of number `i`, or `d`. -/
def readCells {α : Type} (d : α) : List (Nat × α) → Nat → α
  | [], _ => d
  | (k, v) :: rest, i => if i = k then v else readCells d rest i

/-- Insert `(i, v)` before the first listed number above `i`. -/
def insertCell {α : Type} (i : Nat) (v : α) : List (Nat × α) → List (Nat × α)
  | [] => [(i, v)]
  | (k, w) :: rest => if i < k then (i, v) :: (k, w) :: rest else (k, w) :: insertCell i v rest

/-- Drop every pair of number `i`. -/
def eraseCell {α : Type} (i : Nat) (cells : List (Nat × α)) : List (Nat × α) :=
  cells.filter (fun c => decide (c.1 ≠ i))

/-- What number `i` of the table reads as; an unlisted number reads `d`. -/
def Table.read {α : Type} (d : α) (t : Table α) (i : Nat) : α := readCells d t.cells i

/-- Write number `i`; writing `d` removes the pair. -/
def Table.write {α : Type} [DecidableEq α] (d : α) (t : Table α) (i : Nat) (v : α) : Table α :=
  ⟨if v = d then eraseCell i t.cells else insertCell i v (eraseCell i t.cells)⟩

/-- The canonical form: numbers strictly rising, no pair equal to what an unlisted number reads as. -/
abbrev Table.WF {α : Type} (d : α) (t : Table α) : Prop :=
  t.cells.Pairwise (fun a b => a.1 < b.1) ∧ ∀ c ∈ t.cells, c.2 ≠ d

/-- The least number among `i`, `i + 1`, … (`fuel` of them) that passes the test. -/
def firstFrom (p : Nat → Bool) : Nat → Nat → Option Nat
  | 0, _ => none
  | fuel + 1, i => if p i then some i else firstFrom p fuel (i + 1)

/-! ## Numbers and settings -/

/-- A setting outside its range is stored as the nearest end of the range (00_scope.md, "Settings"). -/
def clamp (lo hi v : Nat) : Nat := if v < lo then lo else if hi < v then hi else v

/-- A number as a word of a reply. -/
def word (n : Nat) : Word := BitVec.ofNat 32 n

/-- 1 or 0. -/
def bit (b : Bool) : Nat := if b then 1 else 0

/-- What a number field that is absent reads as (R82). -/
def absentWord : Word := 0xFFFFFFFF

/-- A number field that may be absent. -/
def optWord : Option Nat → Word
  | none => absentWord
  | some n => word n

/-! ## Station slots -/

/-- Station slot `n`. -/
def State.station (s : State) (n : Nat) : Station := s.spu.stations.read Station.unused n

/-- Write station slot `n`. -/
def State.setStation (s : State) (n : Nat) (st : Station) : State :=
  { s with spu := { s.spu with stations := s.spu.stations.write Station.unused n st } }

/-- A slot holding at least one right is in use (R167). -/
def Rights.any (r : Rights) : Bool := r.intake || r.deliver || r.administer

/-- The rights of slot `n`. -/
def State.rights (s : State) (n : Nat) : Rights := (s.station n).rights

/-- The slots whose rights pass the test, in ascending number. -/
def State.slotsWith (s : State) (p : Rights → Bool) : List Nat :=
  (List.range Config.slots).filter (fun n => p (s.rights n))

/-- The slots holding ADMINISTER. -/
def State.administrators (s : State) : List Nat := s.slotsWith (fun r => r.administer)

/-- Queued replies and reserved slots of slot `n` leave room for one more (R170, R172, R175). -/
def State.replyRoom (s : State) (n : Nat) : Bool :=
  decide ((s.station n).replies.length + (s.station n).reserved < Config.replyQueue)

/-- A reply joins the tail of slot `n`'s reply queue (R172). -/
def State.appendReply (s : State) (n : Nat) (r : Reply) : State :=
  s.setStation n { s.station n with replies := (s.station n).replies ++ [r] }

/-- One reply slot of slot `n` is reserved (R170). -/
def State.reserveReply (s : State) (n : Nat) : State :=
  s.setStation n { s.station n with reserved := (s.station n).reserved + 1 }

/-- A reply is posted into a reservation of slot `n` (R170, R172). -/
def State.fillReservation (s : State) (n : Nat) (r : Reply) : State :=
  s.setStation n { s.station n with reserved := (s.station n).reserved - 1, replies := (s.station n).replies ++ [r] }

/-- The DQU sets the WORK cause of slot `n` (R114, R178). -/
def State.setWork (s : State) (n : Nat) : State := s.setStation n { s.station n with work := true }

/-- The sticky NOTICE_LOST flag of slot `n` is set (R176). -/
def State.setNoticeLost (s : State) (n : Nat) : State := s.setStation n { s.station n with noticeLost := true }

/-! ## The block store -/

/-- F, the depth of the free-block stack (R4). -/
def Bsm.free (b : Bsm) : Nat := b.freeTop.length + (Config.blocks - b.fresh)

/-- A, the available blocks (R4). -/
def Bsm.available (b : Bsm) : Nat := b.free - b.reserved

/-- A block number is placed on top of the stack (R2). -/
def Bsm.push (b : Bsm) (n : Block) : Bsm :=
  if b.freeTop.isEmpty && decide (n.val + 1 = b.fresh) then { b with fresh := n.val }
  else { b with freeTop := n :: b.freeTop }

/-- Blocks are pushed in the order given, the last of them on top (R10). -/
def Bsm.pushAll (b : Bsm) (ns : List Block) : Bsm := ns.foldl Bsm.push b

/-- The block on top of the stack, and the stack without it (R2). -/
def Bsm.pop (b : Bsm) : Option (Block × Bsm) :=
  match b.freeTop with
  | n :: rest => some (n, { b with freeTop := rest })
  | [] => if h : b.fresh < 131072 then some (⟨b.fresh, h⟩, { b with fresh := b.fresh + 1 }) else none

/-- The free-block stack, top first: the list R2 speaks of. -/
def Bsm.stack (b : Bsm) : List Nat := b.freeTop.map Fin.val ++ List.range' b.fresh (Config.blocks - b.fresh)

/-- The stack rebuilt in descending order from every block not in use, the lowest on top (R18). -/
def Bsm.rebuild (b : Bsm) (inUse : List Block) : Bsm :=
  let fresh := (inUse.map (fun x => x.val + 1)).foldl max 0
  { b with
    freeTop := (List.range fresh).filterMap (fun n =>
      if h : n < 131072 then (if inUse.contains ⟨n, h⟩ then none else some ⟨n, h⟩) else none)
    fresh := fresh }

/-- The link of a block (R3): the next block, or END. -/
def Bsm.link (b : Bsm) (n : Block) : Option Block := b.links.read none n.val

/-- Write the link of a block (R3). -/
def Bsm.setLink (b : Bsm) (n : Block) (next : Option Block) : Bsm :=
  { b with links := b.links.write none n.val next }

/-- The chain of a page from its first block for its block count (R3). -/
def Bsm.chain (b : Bsm) : Option Block → Nat → List Block
  | some n, count + 1 => n :: b.chain (b.link n) count
  | _, _ => []

/-- The store address of byte `off` of a block (R1). -/
def storeAddress (n : Block) (off : Nat) : Nat := n.val * Config.blockBytes + off % Config.blockBytes

/-- Read one byte of the store memory; a byte nothing has written reads 0 (log 9). -/
def Bsm.readByte (b : Bsm) (address : Nat) : Byte := b.store.read 0 address

/-- Write one byte of the store memory. -/
def Bsm.writeByte (b : Bsm) (address : Nat) (v : Byte) : Bsm := { b with store := b.store.write 0 address v }

/-- The store address of byte `off` of the stream laid end to end across a chain of blocks (R49). -/
def chainAddress (chain : List Block) (off : Nat) : Option Nat :=
  (chain[off / Config.blockBytes]?).map (fun n => storeAddress n off)

/-- Write bytes into the stream of a chain from byte `off` (R49). -/
def Bsm.writeChain (chain : List Block) : Bsm → Nat → List Byte → Bsm
  | b, _, [] => b
  | b, off, v :: rest =>
    Bsm.writeChain chain ((chainAddress chain off).elim b (fun a => b.writeByte a v)) (off + 1) rest

/-- Read `n` bytes of the stream of a chain from byte `off`. -/
def Bsm.readChain (b : Bsm) (chain : List Block) (off : Nat) : Nat → List Byte
  | 0 => []
  | n + 1 => ((chainAddress chain off).elim 0 b.readByte) :: b.readChain chain (off + 1) n

/-- Intake is held while any of the three hold causes is set (R11); the FAULT cause is the part fault condition (R177). -/
def State.held (s : State) : Bool := s.bsm.storeHold || s.bsm.adminHold || s.spu.fault

/-! ## Contexts, documents, pages -/

/-- Reception context `c`; `none` is FREE. -/
def State.context (s : State) (c : Nat) : Option Context := s.iu.contexts.read none c

/-- Write reception context `c`. -/
def State.setContext (s : State) (c : Nat) (x : Option Context) : State :=
  { s with iu := ⟨s.iu.contexts.write none c x⟩ }

/-- The context carrying the reception of a document (R19, R27). -/
def State.contextOf (s : State) (h : Handle) : Option Nat :=
  firstFrom (fun c => (s.context c).any (fun x => decide (x.handle = h))) Config.contexts 0

/-- Document record `i`. -/
def State.document (s : State) (i : Nat) : Document := s.dt.documents.read Document.free i

/-- Write document record `i`. -/
def State.setDocument (s : State) (i : Nat) (d : Document) : State :=
  { s with dt := { s.dt with documents := s.dt.documents.write Document.free i d } }

/-- Page record `p`; `none` is FREE. -/
def State.page (s : State) (p : Nat) : Option PageRecord := s.dt.pages.read none p

/-- Write page record `p`; `none` returns it to the pool (R66). -/
def State.setPage (s : State) (p : Nat) (r : Option PageRecord) : State :=
  { s with dt := { s.dt with pages := s.dt.pages.write none p r } }

/-- Return page records to the pool (R66). -/
def State.freePages (s : State) (ps : List Nat) : State := ps.foldl (fun s p => s.setPage p none) s

/-- The chain of blocks of a committed page (R3, R66). -/
def State.pageChain (s : State) (p : Nat) : List Block :=
  (s.page p).elim [] (fun r => s.bsm.chain r.firstBlock r.blockCount)

/-- The blocks of a document's committed pages, in ascending page number, each page's in chain order (R10). -/
def State.documentBlocks (s : State) (d : Document) : List Block := d.pages.flatMap s.pageChain

/-- The delivery positions (R67). -/
def positions : List Nat := [1, 2, 3, 4, 5, 6, 7, 8]

/-- The delivery entry at a position. -/
def Document.entry (d : Document) (p : Nat) : Option Entry := d.entries.read none p

/-- Write the delivery entry at a position. -/
def Document.setEntry (d : Document) (p : Nat) (e : Option Entry) : Document :=
  { d with entries := d.entries.write none p e }

/-- The delivery entries with their positions, ascending. -/
def Document.entryList (d : Document) : List (Nat × Entry) :=
  positions.filterMap (fun p => (d.entry p).map (fun e => (p, e)))

/-- An entry is outstanding while WAITING, QUEUED or CHECKED_OUT (R67). -/
def Entry.outstanding (e : Entry) : Bool :=
  match e.state with
  | .waiting | .queued | .checkedOut => true
  | .delivered | .undeliverable | .withdrawn => false

/-- The outstanding set (R68): the destinations of the outstanding entries. -/
def Document.outstandingSet (d : Document) : List Nat :=
  (d.entryList.filter (fun x => x.2.outstanding)).map (fun x => x.2.destination)

/-- The document has an entry for a destination, in any state and at any position (R113, R120). -/
def Document.hasEntryFor (d : Document) (dest : Nat) : Bool :=
  d.entryList.any (fun x => decide (x.2.destination = dest))

/-- The number of entries in a state. -/
def Document.countIn (d : Document) (st : EntryState) : Nat :=
  (d.entryList.filter (fun x => decide (x.2.state = st))).length

/-- The entry of a document at a position is rewritten. -/
def State.setEntry (s : State) (i p : Nat) (e : Entry) : State :=
  s.setDocument i ((s.document i).setEntry p (some e))

/-- The duration of a retention class in minutes (R72). -/
def State.retentionMinutes (s : State) (c : Nat) : Nat := s.dt.retention.read 0 c

/-- Document records not FREE (R183). -/
def State.documentsInUse (s : State) : Nat :=
  (s.dt.documents.cells.filter (fun c => decide (c.2.state ≠ .free))).length

/-- Reception contexts in use (R183). -/
def State.contextsInUse (s : State) : Nat := s.iu.contexts.cells.length

/-! ## Routes and destinations -/

/-- Route entry `i`; `none` is EMPTY. -/
def State.routeEntry (s : State) (i : Nat) : Option RouteEntry := s.rtu.routes.read none i

/-- Write route entry `i`. -/
def State.setRouteEntry (s : State) (i : Nat) (r : Option RouteEntry) : State :=
  { s with rtu := { s.rtu with routes := s.rtu.routes.write none i r } }

/-- Reception profile `i`. -/
def State.profile (s : State) (i : Nat) : Profile := s.rtu.profiles.read Profile.powerOn i

/-- Write reception profile `i`. -/
def State.setProfile (s : State) (i : Nat) (p : Profile) : State :=
  { s with rtu := { s.rtu with profiles := s.rtu.profiles.write Profile.powerOn i p } }

/-- Destination `d`. -/
def State.destination (s : State) (d : Nat) : Destination := s.dqu.destinations.read Destination.powerOn d

/-- Write destination `d`. -/
def State.setDestination (s : State) (d : Nat) (x : Destination) : State :=
  { s with dqu := ⟨s.dqu.destinations.write Destination.powerOn d x⟩ }

/-- New work joins the queue of an OPEN or PAUSED destination (R109). -/
def Destination.accepting (d : Destination) : Bool :=
  match d.state with
  | .opened | .paused => true
  | .closed | .draining => false

/-- The queue (R111): the URGENT class, then the NORMAL class. -/
def Destination.queue (d : Destination) : List QueueItem := d.urgent ++ d.normal

/-- The fallback destination where it is usable: OPEN or PAUSED (R95, R113). -/
def State.usableFallback (s : State) : Option Nat :=
  match s.rtu.fallback with
  | none => none
  | some f => if (s.destination f).accepting then some f else none

/-! ## Jobs -/

/-- The job is an intake job. -/
def Job.isIntake (j : Job) : Bool :=
  match j.kind with
  | .intake _ => true
  | .delivery _ => false

/-- The job is a delivery job reading pages of document record `i`. -/
def Job.reads (j : Job) (i : Nat) : Bool :=
  match j.kind with
  | .intake _ => false
  | .delivery d => decide (d.handle.index = i)

/-- The job is a delivery job for a delivery position of document record `i`. -/
def Job.serves (j : Job) (i p : Nat) : Bool :=
  match j.kind with
  | .intake _ => false
  | .delivery d => decide (d.handle.index = i) && decide (d.position = p)

/-- The jobs of a station in the engine (R147). -/
def State.jobCount (s : State) (slot : Nat) : Nat := (s.te.jobs.filter (fun j => decide (j.slot = slot))).length

/-- The active job count of document record `i` (R76). -/
def State.activeJobs (s : State) (i : Nat) : Nat := (s.te.jobs.filter (fun j => j.reads i)).length

/-- The job mark of a delivery position of document record `i` (R125). -/
def State.jobMark (s : State) (i p : Nat) : Bool := s.te.jobs.any (fun j => j.serves i p)

/-- Channel `c` runs a job (R148). -/
def State.channelBusy (s : State) (c : Nat) : Bool := s.te.jobs.any (fun j => decide (j.channel = some c))

/-- The job on channel `c`. -/
def State.jobOn (s : State) (c : Nat) : Option Job := s.te.jobs.find? (fun j => decide (j.channel = some c))

/-- Replace a job of the queue by its new version. -/
def State.replaceJob (s : State) (j j' : Job) : State :=
  { s with te := { s.te with jobs := s.te.jobs.replace j j' } }

end Sys2Proof.Machine
end

