-- ==== Sys2Proof/Machine/Operands.lean ====
section
/-!
DEFINITION. The operand forms of the part: headers, handles, counted strings, set words, enumerated fields, time words
and the words of station memory (12_formats.md; R21, R98).
-/

namespace Sys2Proof.Machine

/-! ## Headers (R198, R199) -/

/-- The code of a status (R186). -/
def Status.code : Status → Nat
  | .ok => 0x00 | .empty => 0x01 | .emptyDocument => 0x02
  | .badCommand => 0x10 | .badLength => 0x11 | .noRight => 0x12 | .badField => 0x13 | .staleHandle => 0x14
  | .wrongState => 0x15 | .notOwner => 0x16 | .notVisible => 0x17
  | .storeLow => 0x20 | .tableFull => 0x21 | .contextFull => 0x22 | .pageLimit => 0x23 | .noPageRecord => 0x24
  | .intakeBusy => 0x25 | .engineFull => 0x26
  | .duplicatePrefix => 0x30 | .setTooLarge => 0x31 | .isFallback => 0x32 | .lastAdmin => 0x33 | .held => 0x34
  | .destUnavailable => 0x40 | .checkoutLimit => 0x41 | .notCheckedOut => 0x42 | .transferActive => 0x43
  | .shortBuffer => 0x60 | .cancelled => 0x61 | .apertureFault => 0x62 | .busError => 0x63 | .chainFault => 0x64
  | .storeFull => 0x65
  | .receptionTimeout => 0x80 | .checkoutExpired => 0x81 | .descriptorDone => 0x82 | .destState => 0x83
  | .storeState => 0x84 | .unroutedDoc => 0x85 | .undeliverable => 0x86 | .noticeOverrun => 0x87
  | .noReply => 0xFF

/-- The tag of every notice (R175). -/
def noticeTag : Nat := 0xFFFF

/-- The header a station writes to REQUEST_START (R198), its tag 0xFFFF taken as 0xFFFE (R169). -/
def decodeHeader (w : Word) : Header where
  code := w.toNat % 256
  length := w.toNat / 256 % 256
  tag := if w.toNat / 65536 = 0xFFFF then 0xFFFE else w.toNat / 65536

/-- The length field of a header makes a one-word bad-length record (R169). -/
def Header.badLength (h : Header) : Bool := decide (h.length = 0) || decide (64 < h.length)

/-- The header word of a reply (R199). -/
def Reply.header (r : Reply) : Word := word (r.status.code + 256 * r.code + 65536 * r.tag)

/-- The header of an empty REPLY read (R173). -/
def emptyHeader : Word := (Reply.mk .noReply 0 noticeTag []).header

/-- A notice (R175). -/
def notice (kind : Status) (words : List Word) : Reply := ⟨kind, 0, noticeTag, words⟩

/-! ## Handles (R198, R199) -/

/-- The handle a request word names. -/
def decodeHandle (w : Word) : Handle := ⟨w.toNat % 4096, w.toNat / 65536⟩

/-- The word of a handle. -/
def Handle.word (h : Handle) : Word := Machine.word (h.index + 65536 * h.generation)

/-- The present handle of document record `i` (R65). -/
def State.handleOf (s : State) (i : Nat) : Handle := ⟨i, (s.document i).generation⟩

/-- A handle whose generation differs from the record's is stale (R65). -/
def State.stale (s : State) (h : Handle) : Bool := decide (h.generation ≠ (s.document h.index).generation)

/-! ## Bytes of words -/

/-- The bytes of a word, lowest address first (12_formats.md: little-endian). -/
def wordBytes (w : Word) : List Byte :=
  [w.extractLsb' 0 8, w.extractLsb' 8 8, w.extractLsb' 16 8, w.extractLsb' 24 8]

/-- The bytes of a series of words. -/
def bytesOf (ws : List Word) : List Byte := ws.flatMap wordBytes

/-- The word of four bytes, lowest address first. -/
def bytesWord (a b c d : Byte) : Word := (d ++ c ++ b ++ a : BitVec 32)

/-- Bytes packed four to a word, the first in the least significant byte, the last word filled with 0 (R21). -/
def packBytes : List Byte → List Word
  | [] => []
  | [a] => [bytesWord a 0 0 0]
  | [a, b] => [bytesWord a b 0 0]
  | [a, b, c] => [bytesWord a b c 0]
  | a :: b :: c :: d :: rest => bytesWord a b c d :: packBytes rest

/-! ## Counted strings (R21) -/

/-- Take a counted string off the front of a request's words: the n supplied characters and the words behind. None
where the words end too early, which refuses the record BAD_LENGTH. -/
def takeString : List Word → Option (List Byte × List Word)
  | [] => none
  | count :: rest =>
    let n := count.toNat
    let k := (n + 3) / 4
    if rest.length < k then none else some ((bytesOf (rest.take k)).take n, rest.drop k)

/-- A character is a digit (R21). -/
def isDigit (c : Byte) : Bool := decide (0x30 ≤ c.toNat) && decide (c.toNat ≤ 0x39)

/-- The string is longer than its maximum and is cut. -/
def isCut (limit : Nat) (cs : List Byte) : Bool := decide (limit < cs.length)

/-- A string in a reply: the count word and the character words (R21). -/
def countedString (cs : List Byte) : List Word := word cs.length :: packBytes cs

/-- The most digits of called digits and of a prefix (R21, R90). -/
def digitLimit : Nat := 16

/-- The most characters of a caller number or a sender identification (R21). -/
def callerLimit : Nat := 20

/-- The most characters of a matter reference or a label (R84, R108). -/
def labelLimit : Nat := 16

/-! ## Set words (R98) -/

/-- Destination `d` is a member of a set word. -/
def member (w : Word) (d : Nat) : Bool := w.getLsbD d

/-- The members of a set word, ascending. -/
def members (w : Word) : List Nat := (List.range Config.destinations).filter (fun d => w.getLsbD d)

/-- The set word of the destinations that pass a test. -/
def setWord (p : Nat → Bool) : Word := BitVec.ofFnLE (fun i : Fin 32 => p i.val)

/-- A set word with more than 8 members (R98). -/
def tooLarge (w : Word) : Bool := decide (8 < (members w).length)

/-! ## Enumerated fields -/

/-- A priority word (R98): values of 2 and above are taken as NORMAL. -/
def decodePriority (w : Word) : Priority := if w.toNat = 1 then .urgent else .normal

/-- The code of a priority. -/
def Priority.code : Priority → Nat
  | .normal => 0
  | .urgent => 1

/-- A confidential word of a route (R98): values of 2 and above are taken as clear. -/
def decodeConfidential (w : Word) : Bool := decide (w.toNat = 1)

/-- Rights as the sum of 1, 2 and 4; higher values are ignored (R179). -/
def decodeRights (w : Word) : Rights := ⟨w.getLsbD 0, w.getLsbD 1, w.getLsbD 2⟩

/-- The sum of rights. -/
def Rights.sum (r : Rights) : Nat := bit r.intake + 2 * bit r.deliver + 4 * bit r.administer

/-- Attention enables as the sum of 1, 2 and 4; higher values are ignored (R179). -/
def decodeEnables (w : Word) : Enables := ⟨w.getLsbD 0, w.getLsbD 1, w.getLsbD 2⟩

/-- The sum of enables. -/
def Enables.sum (e : Enables) : Nat := bit e.reply + 2 * bit e.work + 4 * bit e.fault

/-- Document states (R82). -/
def DocState.code : DocState → Nat
  | .free => 0 | .receiving => 1 | .queued => 2 | .unrouted => 3 | .done => 4 | .purgePending => 5

/-- Entry states (R82). -/
def EntryState.code : EntryState → Nat
  | .waiting => 1 | .queued => 2 | .checkedOut => 3 | .delivered => 4 | .undeliverable => 5 | .withdrawn => 6

/-- Destination states (R115). -/
def DestState.code : DestState → Nat
  | .closed => 0 | .opened => 1 | .paused => 2 | .draining => 3

/-- Part states (R183). -/
def PartState.code : PartState → Nat
  | .starting => 0 | .recovering => 1 | .ready => 2

/-- Verdicts (R33). -/
def Verdict.code : Verdict → Nat
  | .empty => 0 | .short => 1 | .clean => 2 | .acceptable => 3 | .poor => 4

/-- Poor actions (R62): values of 2 and above are taken as DROP. -/
def decodePoorAction (w : Word) : PoorAction := if w.toNat = 0 then .keep else .drop

/-- The code of a poor action. -/
def PoorAction.code : PoorAction → Nat
  | .keep => 0
  | .drop => 1

/-- Bus modes (R151): values of 2 and above are taken as FAIR. -/
def decodeBusMode (w : Word) : BusMode := if w.toNat = 1 then .hold else .fair

/-- The code of a bus mode. -/
def BusMode.code : BusMode → Nat
  | .fair => 0
  | .hold => 1

/-- Route sources (R25, R82). -/
def RouteSource.code : RouteSource → Nat
  | .entry i => i
  | .default => 1024
  | .none => 1025

/-! ## Times in replies -/

/-- The 48 bits a reply shows of an uptime value (R187); above the greatest uptime they are a free value (log 21). -/
def shownUptime (v : Nat) : Nat := if v ≤ Config.maxUptime then v else Config.uptimeBeyond v

/-- An uptime value in a reply: the low 32 bits, then the high 16 bits (R187). -/
def uptimeWords (v : Nat) : List Word := [word (shownUptime v % 4294967296), word (shownUptime v / 4294967296 % 65536)]

/-- An uptime value that may be absent (R82). -/
def optUptime : Option Nat → List Word
  | none => [absentWord, absentWord]
  | some v => uptimeWords v

/-- A clock stamp in two words (R199). -/
def stampWords (c : Clock) : List Word :=
  [word (c.millisecond + 65536 * c.minute + 134217728 * c.dayOfWeek + 2147483648 * bit (!c.isSet)), word c.day]

/-- A clock stamp that may be absent (R82). -/
def optStamp : Option Clock → List Word
  | none => [absentWord, absentWord]
  | some c => stampWords c

/-! ## Words in station memory (R200) -/

/-- The length field of a line-record header. -/
def recordLength (w : Word) : Nat := w.toNat % 65536

/-- The status field of a line-record header. -/
def recordStatus (w : Word) : Nat := w.toNat / 65536

/-- The words of a line record with this header: the header, and its data and padding (R47). -/
def recordWords (w : Word) : Nat := 1 + (recordLength w + 3) / 4

/-- The NOTIFY flag of a descriptor's control word. -/
def controlNotify (w : Word) : Bool := w.getLsbD 0

/-- A descriptor carries the END mark (R152): in its next address, or by the reserved end flag of its control word. -/
def descriptorLast (control next : Word) : Bool := next.getLsbD 0 || control.getLsbD 1

/-- Word `i` of a completed bus read; a word that is not there is a free value (log 17). -/
def busWord (ws : List Word) (i : Nat) : Word := ws.getD i (Config.undrivenWord i)

/-- The first `n` words of a completed bus read. -/
def busWords (ws : List Word) (n : Nat) : List Word := (List.range n).map (busWord ws)

end Sys2Proof.Machine
end

