-- ==== Sys2Proof/Machine/Flags.lean ====
section
/-!
DEFINITION. The computed flags of the part: the page flags word (R52), the counts, the quality figure and the verdict of a
page (R48, R56, R57), the attention outputs (R178) and the PORT_STATUS word (R199).
-/

namespace Sys2Proof.Machine

/-! ## Page flags and verdicts -/

/-- The cause field of the page flags word (R52). -/
def truncationCode : Option Truncation → Nat
  | none => 0
  | some .lineLimit => 1
  | some .sizeLimit => 2
  | some .storeExhausted => 3

/-- The page flags word (R52). -/
def PageFlags.word (f : PageFlags) : Word :=
  Machine.word (bit f.truncated.isSome + 2 * truncationCode f.truncated + 8 * bit f.framingError + 16 * bit f.ragged
    + 32 * bit f.poorForced)

/-- TRUNCATED or FRAMING_ERROR is set: the page takes no more data (R29). -/
def PageFlags.stopped (f : PageFlags) : Bool := f.truncated.isSome || f.framingError

/-- All counts 0 (R48). -/
def Counts.zero : Counts := ⟨0, 0, 0, 0, 0⟩

/-- Counting a record by its status field (R48): 0 GOOD, 1 REPAIRED, every other value BAD. -/
def Counts.count (c : Counts) (status : Nat) : Counts :=
  if status = 0 then { c with lines := c.lines + 1, run := 0 }
  else if status = 1 then { c with lines := c.lines + 1, repaired := c.repaired + 1, run := 0 }
  else { c with lines := c.lines + 1, bad := c.bad + 1, run := c.run + 1, longest := max c.longest (c.run + 1) }

/-- The quality figure (R56): 1000 × B ÷ L rounded up, 0 when L is 0; so it is 1,000 also for a page of more than 1,000 lines
not quite all of them BAD, where R56's own sentences disagree (log 41). -/
def quality (c : Counts) : Nat := if c.lines = 0 then 0 else (1000 * c.bad + (c.lines - 1)) / c.lines

/-- The verdict (R57), from the counts, the stored bytes and the profile snapshot; the test on Q is made without division
(R56). -/
def verdict (a : Acceptance) (c : Counts) (storedBytes : Nat) : Verdict :=
  if c.lines = 0 ∨ storedBytes = 0 then .empty
  else if c.lines < a.minimumLines then .short
  else if c.bad = 0 then .clean
  else if 1000 * c.bad ≤ a.acceptLimit * c.lines ∧ c.longest ≤ a.runLimit then .acceptable
  else .poor

/-! ## Attention and fault outputs -/

/-- The REPLY cause (R178): the reply queue holds a reply. -/
def Station.replyPending (st : Station) : Bool := !st.replies.isEmpty

/-- The attention output of slot `n` (R178): a cause that is pending and enabled; an UNUSED slot has no enables
(log 39). -/
def State.attention (s : State) (n : Nat) : Bool :=
  let st := s.station n
  st.rights.any && ((st.replyPending && st.enables.reply) || (st.work && st.enables.work) || (s.spu.fault && st.enables.fault))

/-- The fault output (R177). -/
def State.faultOutput (s : State) : Bool := s.spu.fault

/-- The PORT_STATUS word of slot `n` (R174, R199). -/
def State.portStatusWord (s : State) (n : Nat) : Word :=
  let st := s.station n
  word (n + 16 * st.rights.sum + 128 * st.requests.length + 2048 * bit st.assembly.isSome + 4096 * st.replies.length
    + 262144 * bit st.latch.isSome + 524288 * bit st.replyPending + 1048576 * bit st.work + 2097152 * bit s.spu.fault
    + 4194304 * bit st.framing + 8388608 * bit st.noticeLost + 16777216 * bit s.spu.fault
    + 33554432 * s.jobCount n)

/-- The words of a STORE_STATE notice (R13). -/
def State.storeStateWords (s : State) : List Word :=
  [word (bit s.held), word (bit s.bsm.storeHold), word (bit s.bsm.adminHold), word (bit s.spu.fault), word s.bsm.available]

end Sys2Proof.Machine
end

