-- ==== Sys2Proof/Machine/Notices.lean ====
section
/-!
DEFINITION. Notices: posting a copy, losing one, escalating the loss (R175, R176), the part fault condition (R177), and the
intake hold test whose change of held sends STORE_STATE (R11, R13).
-/

namespace Sys2Proof.Machine

/-- What became of one copy of a notice (R175). -/
inductive Posting where
  | posted
  /-- addressed to a slot under reset: not posted, and not lost -/
  | muted
  | lost
  deriving DecidableEq, Repr

/-- What becomes of a copy for slot `n` (R175). -/
def State.postingOf (s : State) (n : Nat) : Posting :=
  if s.spu.underReset.contains n then .muted else if s.replyRoom n then .posted else .lost

/-- One copy of a notice for slot `n`: it joins the tail of the reply queue where it is posted (R175). -/
def State.postCopy (s : State) (n : Nat) (r : Reply) : State :=
  match s.postingOf n with
  | .posted => s.appendReply n r
  | .muted => s
  | .lost => s

/-- The copies of a notice, in the order of the recipients; each recipient receives its own (R175, log 10). -/
def State.postCopies (s : State) (r : Reply) : List Nat → State
  | [] => s
  | n :: rest => (s.postCopy n r).postCopies r rest

/-- The recipients whose copies are lost. The recipients are different slots, so no copy touches another's room. -/
def State.losers (s : State) (recipients : List Nat) : List Nat :=
  recipients.filter (fun n => decide (s.postingOf n = .lost))

/-- The slots other than `n` that hold ADMINISTER: the recipients of a NOTICE_OVERRUN (R176). -/
def State.overrunRecipients (s : State) (n : Nat) : List Nat := s.administrators.filter (fun m => decide (m ≠ n))

/-- Steps 1 and 2 of the escalation of a loss (R176): NOTICE_LOST of the recipient, and the NOTICE_OVERRUN copies. -/
def State.overrun (s : State) (kind : Status) (n : Nat) : State :=
  let s := s.setNoticeLost n
  s.postCopies (notice .noticeOverrun [word n, word kind.code]) (s.overrunRecipients n)

/-- No copy of the NOTICE_OVERRUN for a loss at slot `n` is posted (R176 step 3). -/
def State.overrunUnheard (s : State) (n : Nat) : Bool :=
  (s.overrunRecipients n).all (fun m => decide (s.postingOf m ≠ .posted))

/-- A notice whose losses escalate while the part fault condition is already set, so that step 3 changes nothing (R177). -/
def State.sendUnderFault (s : State) (kind : Status) (words : List Word) (recipients : List Nat) : State :=
  (s.losers recipients).foldl (fun s n => s.overrun kind n) (s.postCopies (notice kind words) recipients)

/-- The recipients of STORE_STATE (R13): every slot holding INTAKE or ADMINISTER. -/
def State.storeStateRecipients (s : State) : List Nat := s.slotsWith (fun r => r.intake || r.administer)

/-- The part fault condition is set (R177), and with it the FAULT hold cause; where that changes held, STORE_STATE is sent
(R13), and its losses find the condition set. -/
def State.setFault (s : State) : State :=
  if s.spu.fault then s
  else
    let s' := { s with spu := { s.spu with fault := true } }
    if s.held then s' else s'.sendUnderFault .storeState s'.storeStateWords s'.storeStateRecipients

/-- The escalation of one lost copy (R176). -/
def State.escalate (s : State) (kind : Status) (n : Nat) : State :=
  if s.overrunUnheard n then (s.overrun kind n).setFault else s.overrun kind n

/-- A notice is sent: first every copy, then the escalation of each loss (R175, R176, log 10). -/
def State.send (s : State) (kind : Status) (words : List Word) (recipients : List Nat) : State :=
  (s.losers recipients).foldl (fun s n => s.escalate kind n) (s.postCopies (notice kind words) recipients)

/-! ## The intake hold -/

/-- The STORE cause after the intake hold test (R11). -/
def Bsm.storeTest (b : Bsm) : Bool :=
  if b.available < b.lowMark then true else if b.releaseMark ≤ b.available then false else b.storeHold

/-- STORE_STATE is sent where held is not what it was (R13). -/
def State.announceHeld (s : State) (was : Bool) : State :=
  if s.held = was then s else s.send .storeState s.storeStateWords s.storeStateRecipients

/-- The intake hold test (R11), made while the part is READY (R4). -/
def State.holdTest (s : State) : State :=
  match s.part with
  | .ready => ({ s with bsm := { s.bsm with storeHold := s.bsm.storeTest } } : State).announceHeld s.held
  | .starting => s
  | .recovering => s

/-! ## Blocks and reservations -/

/-- Blocks of a page, or of a document, return to the stack: one change of F and A, then the test (R10). -/
def State.releaseBlocks (s : State) (ns : List Block) : State :=
  ({ s with bsm := s.bsm.pushAll ns } : State).holdTest

/-- The blocks a new reception is granted (R6). -/
def Bsm.grant (b : Bsm) : Nat := min b.intakeReserve (b.available - b.floor)

/-- A reservation of `k` blocks (R6). -/
def State.reserveBlocks (s : State) (k : Nat) : State :=
  ({ s with bsm := { s.bsm with reserved := s.bsm.reserved + k } } : State).holdTest

/-- The release of a reservation remainder of `k` blocks (R9). -/
def State.releaseReservation (s : State) (k : Nat) : State :=
  ({ s with bsm := { s.bsm with reserved := s.bsm.reserved - k } } : State).holdTest

/-- One block for the open page of a reception with `remaining` blocks reserved, whose chain ends at `last` (R7, R3): the
block, the reservation remaining and the block store after it; none where it is refused (R8). -/
def Bsm.allocate (b : Bsm) (remaining : Nat) (last : Option Block) : Option (Block × Nat × Bsm) :=
  if 0 < remaining ∨ b.floor < b.available then
    match b.pop with
    | none => none
    | some (n, b') =>
      let linked := (b'.setLink n none)
      let linked := last.elim linked (fun m => linked.setLink m (some n))
      if 0 < remaining then some (n, remaining - 1, { linked with reserved := linked.reserved - 1 })
      else some (n, remaining, linked)
  else none

end Sys2Proof.Machine
end

