-- ==== Sys2Proof/Machine/DocumentOps.lean ====
section
/-!
DEFINITION. What happens to a document record: settlement (R70), the UNROUTED_DOC notice (R71), the release test (R73),
freeing (R74) and visibility (R80).
-/

namespace Sys2Proof.Machine

/-- The fields of a freed record (R65, R74): the generation and the opening slot are kept (log 19). -/
def Document.freed (d : Document) : Document :=
  { Document.free with generation := d.generation, openingSlot := d.openingSlot }

/-- Freeing a document (R74): its blocks are pushed as one change with one intake hold test, its page records return to the
pool, and the record becomes FREE. -/
def State.freeDocument (s : State) (i : Nat) : State :=
  let d := s.document i
  ((s.releaseBlocks (s.documentBlocks d)).freePages d.pages).setDocument i d.freed

/-- A DONE document is released (R73): deadline passed, legal hold clear, no active job, nothing outstanding. -/
def State.releasable (s : State) (i : Nat) : Bool :=
  let d := s.document i
  decide (d.state = .done) && d.retentionDeadline.any (fun t => decide (t ≤ s.tb.uptime)) && !d.legalHold
    && decide (s.activeJobs i = 0) && d.outstandingSet.isEmpty

/-- The release test (R73). -/
def State.releaseTest (s : State) (i : Nat) : State := if s.releasable i then s.freeDocument i else s

/-- The UNROUTED_DOC notice (R71). -/
def State.sendUnrouted (s : State) (i cause : Nat) : State :=
  let d := s.document i
  s.send .unroutedDoc
    [(s.handleOf i).word, word d.pages.length, word cause, word (d.countIn .undeliverable), word (d.countIn .withdrawn)]
    s.administrators

/-- The retention deadline for a settle time and a retention class (R70, R72): minutes in milliseconds. -/
def State.deadlineFor (s : State) (settled cls : Nat) : Nat := settled + 60000 * s.retentionMinutes cls

/-- A document settles (R70): DONE with its deadline and the release test, or UNROUTED with its notice. -/
def State.settle (s : State) (i : Nat) : State :=
  let d := s.document i
  if d.countIn .delivered = 0 then
    (s.setDocument i { d with state := .unrouted, settleTime := some s.tb.uptime, retentionDeadline := none }).sendUnrouted i 1
  else
    (s.setDocument i { d with
      state := .done, settleTime := some s.tb.uptime,
      retentionDeadline := some (s.deadlineFor s.tb.uptime d.retentionClass) }).releaseTest i

/-- A QUEUED document whose outstanding set is empty settles (R70); any other is left as it is. -/
def State.settleIfEmpty (s : State) (i : Nat) : State :=
  let d := s.document i
  if d.state = .queued ∧ d.outstandingSet = [] then s.settle i else s

/-! ## Views (R80, R81) -/

/-- The destination is bound to slot `n`. -/
def State.boundTo (s : State) (n dest : Nat) : Bool := decide ((s.destination dest).bound = some n)

/-- A station holding DELIVER but not ADMINISTER is a delivery viewer (R80). -/
def Rights.deliveryViewer (r : Rights) : Bool := r.deliver && !r.administer

/-- A delivery viewer may name a document with an entry of a destination bound to its slot (R80). -/
def State.visible (s : State) (n i : Nat) : Bool :=
  (s.document i).entryList.any (fun x => s.boundTo n x.2.destination)

end Sys2Proof.Machine
end

