-- ==== Sys2Proof/Machine/QueueOps.lean ====
section
/-!
DEFINITION. Queues, checkout lists and destination states: joining and leaving (R111, R112), WORK (R114), DEST_STATE (R115),
the three cases of a closed destination (R113, R120), UNDELIVERABLE (R138) and the coming back of a checkout (R136, R143).
-/

namespace Sys2Proof.Machine

/-! ## Joining and leaving a queue -/

/-- WORK is set at the bound slot of an OPEN or PAUSED destination (R114). -/
def State.signalWork (s : State) (dest : Nat) : State :=
  let d := s.destination dest
  match d.bound with
  | none => s
  | some n => if d.accepting then s.setWork n else s

/-- An item joins a queue at the tail of its class (R112). -/
def Destination.joinTail (d : Destination) (p : Priority) (x : QueueItem) : Destination :=
  match p with
  | .urgent => { d with urgent := d.urgent ++ [x] }
  | .normal => { d with normal := d.normal ++ [x] }

/-- An item joins a queue at the head of its class (R112, R143). -/
def Destination.joinHead (d : Destination) (p : Priority) (x : QueueItem) : Destination :=
  match p with
  | .urgent => { d with urgent := x :: d.urgent }
  | .normal => { d with normal := x :: d.normal }

/-- The queue of a destination is rewritten by a join; from empty to not empty it sets WORK (R114). -/
def State.joined (s : State) (dest : Nat) (d' : Destination) : State :=
  let wasEmpty := (s.destination dest).queue.isEmpty
  let s' := s.setDestination dest d'
  if wasEmpty then s'.signalWork dest else s'

/-- The entry of a document at a position joins the queue of a destination at the tail of the document's class (R112). -/
def State.joinTail (s : State) (dest i p : Nat) : State :=
  s.joined dest ((s.destination dest).joinTail (s.document i).priority ⟨s.handleOf i, p⟩)

/-- The entry of a document at a position joins the queue of a destination at the head of the document's class (R143). -/
def State.joinHead (s : State) (dest i p : Nat) : State :=
  s.joined dest ((s.destination dest).joinHead (s.document i).priority ⟨s.handleOf i, p⟩)

/-- An entry leaves the queue, and the entries behind it keep their order (R112). -/
def State.leaveQueue (s : State) (dest i p : Nat) : State :=
  let d := s.destination dest
  let other := fun (x : QueueItem) => decide (¬ (x.handle.index = i ∧ x.position = p))
  s.setDestination dest { d with urgent := d.urgent.filter other, normal := d.normal.filter other }

/-- An entry leaves the checkout list, and the entries behind it keep their order (R125). -/
def State.leaveCheckouts (s : State) (dest i p : Nat) : State :=
  let d := s.destination dest
  let other := fun (x : Checkout) => decide (¬ (x.handle.index = i ∧ x.position = p))
  s.setDestination dest { d with checkouts := d.checkouts.filter other }

/-- The checkout of an entry in a destination's checkout list. -/
def State.checkoutOf (s : State) (dest i p : Nat) : Option Checkout :=
  (s.destination dest).checkouts.find? (fun x => decide (x.handle.index = i ∧ x.position = p))

/-! ## Destination states -/

/-- A destination changes its state, and the slot it is bound to is sent DEST_STATE (R115). -/
def State.changeDest (s : State) (dest : Nat) (st : DestState) : State :=
  let d := s.destination dest
  let s' := s.setDestination dest { d with state := st }
  match d.bound with
  | none => s'
  | some n =>
    s'.send .destState
      [word dest, word st.code, word d.state.code, word d.queue.length, word d.checkouts.length] [n]

/-- A DRAINING destination whose checkout list is empty becomes CLOSED (R121). -/
def State.closeIfDrained (s : State) (dest : Nat) : State :=
  let d := s.destination dest
  if d.state = .draining ∧ d.checkouts = [] then s.changeDest dest .closed else s

/-! ## Settling an entry -/

/-- An entry settled in a state at an uptime: its settle time is set and its checkout deadline absent (R67). -/
def Entry.settledAs (e : Entry) (st : EntryState) (now : Nat) : Entry :=
  { e with state := st, settleTime := some now, deadline := none }

/-- The entry of a document at a position settles in a state (R67). -/
def State.settleEntry (s : State) (i p : Nat) (e : Entry) (st : EntryState) : State :=
  s.setEntry i p (e.settledAs st s.tb.uptime)

/-- Where an entry went that could not stay at its own destination (R113, R120). -/
inductive Moved where
  | toFallback (dest : Nat)
  | withdrawn
  deriving DecidableEq, Repr

/-- Which of the three cases of R113 and R120 applies to an entry of document `i`. -/
def State.moveCase (s : State) (i : Nat) : Moved :=
  match s.usableFallback with
  | none => .withdrawn
  | some f => if (s.document i).hasEntryFor f then .withdrawn else .toFallback f

/-- An entry substituted to the fallback: its former destination is its original one, unless it already carries one (R113). -/
def Entry.substituted (e : Entry) (f : Nat) : Entry :=
  { e with
    destination := f
    original := some (e.original.getD e.destination)
    state := .queued
    deadline := none }

/-- An entry that cannot stay at its closed or closing destination is substituted, joining the fallback's queue at the tail
of its class, or becomes WITHDRAWN (R113, R120). -/
def State.moveEntry (s : State) (i p : Nat) (e : Entry) : State :=
  match s.moveCase i with
  | .toFallback f => (s.setEntry i p (e.substituted f)).joinTail f i p
  | .withdrawn => s.settleEntry i p e .withdrawn

/-- An entry becomes UNDELIVERABLE, with its notice to every ADMINISTER slot (R138). -/
def State.makeUndeliverable (s : State) (i p : Nat) (e : Entry) (reason : Nat) : State :=
  (s.settleEntry i p e .undeliverable).send .undeliverable
    [(s.handleOf i).word, word e.destination, word p, word e.attempts, word reason, optWord e.original]
    s.administrators

/-! ## Checkouts that come back -/

/-- How a checkout comes back (R136, R143). -/
inductive CameBack where
  | requeued
  | moved (m : Moved)
  | undeliverable
  deriving DecidableEq, Repr

/-- How a RETURN or an expiry brings the checkout of entry `e` back (R136, R121). -/
def State.comeBackCase (s : State) (i : Nat) (e : Entry) : CameBack :=
  let d := s.destination e.destination
  if d.attemptLimit ≤ e.attempts then .undeliverable
  else if d.accepting then .requeued
  else .moved (s.moveCase i)

/-- The entry QUEUED again at its own destination. -/
def Entry.requeued (e : Entry) : Entry := { e with state := .queued, deadline := none }

/-- A checkout comes back by RETURN or by hold expiry (R136). -/
def State.comeBack (s : State) (i p : Nat) (e : Entry) (reason : Nat) : State :=
  let c := s.comeBackCase i e
  let s1 := s.leaveCheckouts e.destination i p
  let s2 :=
    match c with
    | .undeliverable => s1.makeUndeliverable i p e reason
    | .requeued => (s1.setEntry i p e.requeued).joinTail e.destination i p
    | .moved _ => s1.moveEntry i p e
  (s2.settleIfEmpty i).closeIfDrained e.destination

/-- A checkout is returned by a station reset (R143): the attempt limit is not tested, and the entry joins the head of its
class. -/
def State.resetReturn (s : State) (i p : Nat) (e : Entry) : State :=
  let s1 := s.leaveCheckouts e.destination i p
  let s2 :=
    if (s.destination e.destination).accepting then (s1.setEntry i p e.requeued).joinHead e.destination i p
    else s1.moveEntry i p e
  (s2.settleIfEmpty i).closeIfDrained e.destination

/-- The entry a checkout names, and its return by a station reset. -/
def State.returnCheckoutItem (s : State) (x : Checkout) : State :=
  match (s.document x.handle.index).entry x.position with
  | none => s
  | some e => s.resetReturn x.handle.index x.position e

/-- The checkouts of one destination whose taking slot passes the test come back, from the most recently taken to the
oldest (R143). -/
def State.returnCheckoutsAt (s : State) (who : Nat → Bool) (dest : Nat) : State :=
  ((s.destination dest).checkouts.reverse.filter (fun x => who x.takingSlot)).foldl State.returnCheckoutItem s

/-- The checkouts whose taking slot passes the test come back, destination by destination, ascending (R143). -/
def State.returnCheckouts (s : State) (who : Nat → Bool) : State :=
  (List.range Config.destinations).foldl (fun s dest => s.returnCheckoutsAt who dest) s

/-- How many checkouts have a taking slot that passes the test. -/
def State.countCheckouts (s : State) (who : Nat → Bool) : Nat :=
  ((List.range Config.destinations).map
    (fun dest => ((s.destination dest).checkouts.filter (fun x => who x.takingSlot)).length)).sum

/-! ## Unbinding -/

/-- A destination is unbound; if it was OPEN it becomes PAUSED, and no notice is sent (R110, R115). -/
def State.unbind (s : State) (dest : Nat) : State :=
  let d := s.destination dest
  s.setDestination dest { d with bound := none, state := if d.state = .opened then .paused else d.state }

/-- The destinations bound to a slot, ascending. -/
def State.boundDestinations (s : State) (n : Nat) : List Nat :=
  (List.range Config.destinations).filter (fun dest => s.boundTo n dest)

/-- Every destination bound to a slot is unbound, ascending (R110). -/
def State.unbindAll (s : State) (n : Nat) : State := (s.boundDestinations n).foldl State.unbind s

/-- Some OPEN or PAUSED destination bound to the slot has a queue that is not empty (R114, R181 step 6). -/
def State.workWaits (s : State) (n : Nat) : Bool :=
  (s.boundDestinations n).any (fun dest => (s.destination dest).accepting && !(s.destination dest).queue.isEmpty)

end Sys2Proof.Machine
end

