-- ==== Sys2Proof/Machine/ParserOps.lean ====
section
/-!
DEFINITION. The parser of a page stream and the storing of line records (R46 to R51).
-/

namespace Sys2Proof.Machine

/-- The open page gets a truncation flag or FRAMING_ERROR, and the parser is STOPPED (R46, R51). -/
def Context.stopWith (c : Context) (f : PageFlags → PageFlags) : Context :=
  { c with parser := .stopped, openPage := c.openPage.map (fun p => { p with flags := f p.flags }) }

/-- TRUNCATED with its cause. -/
def PageFlags.truncate (f : PageFlags) (t : Truncation) : PageFlags := { f with truncated := some t }

/-- FRAMING_ERROR. -/
def PageFlags.framing (f : PageFlags) : PageFlags := { f with framingError := true }

/-- The open page after a complete record was written and counted (R48, R49). -/
def OpenPage.withRecord (p : OpenPage) (blocks : List Block) (ws : List Word) : OpenPage :=
  { p with
    blocks := blocks
    storedBytes := p.storedBytes + 4 * ws.length
    counts := p.counts.count (recordStatus (ws.headD 0)) }

/-- The room left in the page's last block (R49 case 2); a page without blocks has none. -/
def OpenPage.room (p : OpenPage) : Nat := Config.blockBytes * p.blocks.length - p.storedBytes

/-- A complete record is offered for storage (R49, R50): the state after, and whether the block store refused a block, so
that the running job takes no further word. -/
def State.storeRecord (s : State) (n : Nat) (c : Context) (p : OpenPage) (ws : List Word) : State × Bool :=
  if p.counts.lines = Config.pageLines then
    (s.setContext n (some (c.stopWith (fun f => f.truncate .lineLimit))), false)
  else if 4 * ws.length ≤ p.room then
    let s := { s with bsm := Bsm.writeChain p.blocks s.bsm p.storedBytes (bytesOf ws) }
    (s.setContext n (some { c with parser := .empty, openPage := some (p.withRecord p.blocks ws) }), false)
  else if Config.pageBlocks ≤ p.blocks.length then
    (s.setContext n (some (c.stopWith (fun f => f.truncate .sizeLimit))), false)
  else
    match s.bsm.allocate c.reservation p.blocks.getLast? with
    | none => (s.setContext n (some (c.stopWith (fun f => f.truncate .storeExhausted))), true)
    | some (b, remaining, bsm) =>
      let blocks := p.blocks ++ [b]
      let s := { s with bsm := Bsm.writeChain blocks bsm p.storedBytes (bytesOf ws) }
      let s := s.setContext n
        (some { c with parser := .empty, reservation := remaining, openPage := some (p.withRecord blocks ws) })
      (s.holdTest, false)

/-- One word is handed to the parser of reception context `n` (R46, R47). -/
def State.parseWord (s : State) (n : Nat) (w : Word) : State × Bool :=
  match s.context n with
  | none => (s, false)
  | some c =>
    match c.openPage with
    | none => (s, false)
    | some p =>
      match c.parser with
      | .stopped => (s, false)
      | .empty =>
        if 4092 < recordLength w then (s.setContext n (some (c.stopWith PageFlags.framing)), false)
        else if recordWords w = 1 then s.storeRecord n c p [w]
        else (s.setContext n (some { c with parser := .assembling [w] }), false)
      | .assembling ws =>
        if (ws ++ [w]).length = recordWords (ws.headD w) then s.storeRecord n c p (ws ++ [w])
        else (s.setContext n (some { c with parser := .assembling (ws ++ [w]) }), false)

/-- What an intake read handed to a parser came to (R50, R156). -/
structure Parsed where
  state : State
  /-- the words the parser took -/
  consumed : Nat
  /-- the block store refused a block: no further word was taken -/
  full : Bool
  deriving DecidableEq, Repr

/-- The words of an intake read are handed to the parser in address order, until it takes no more (R50, R156). -/
def State.parseWords (s : State) (n : Nat) : List Word → Parsed
  | [] => ⟨s, 0, false⟩
  | w :: rest =>
    let (s', full) := s.parseWord n w
    if full then ⟨s', 1, true⟩
    else
      let r := s'.parseWords n rest
      { r with consumed := r.consumed + 1 }

/-- The stored bytes of the open page of a reception context. -/
def State.openStored (s : State) (n : Nat) : Nat :=
  ((s.context n).bind (fun c => c.openPage)).elim 0 (fun p => p.storedBytes)

end Sys2Proof.Machine
end

