-- ==== Sys2Proof/Machine/EngineOps.lean ====
section
/-!
DEFINITION. The Transfer Engine: channels (R148), relocation and the aperture check (R154, R155), the chain walk (R152,
R153), the page stream (R158), the end of a job (R161), cancellation (R162), bus requests and tenures (R149, R150).
-/

namespace Sys2Proof.Machine

/-! ## Relocation and the aperture -/

/-- The bus address of a station address (R154): each of the upper 16 bits from the relocation base where the select mask
is 1, else from the station address. -/
def Station.relocate (st : Station) (a : Word) : Word :=
  (((st.relocationBase &&& st.selectMask) ||| (a.extractLsb' 16 16 &&& ~~~st.selectMask)) ++ a.extractLsb' 0 16 : BitVec 32)

/-- The aperture check (R155), the sum taken without wrapping. -/
def Station.inAperture (st : Station) (start : Word) (length : Nat) : Bool :=
  decide (st.apertureStart * 65536 ≤ start.toNat) && decide (start.toNat + length - 1 ≤ st.apertureEnd * 65536 + 65535)

/-! ## The chain walk -/

/-- Steps 1 and 2 of the walk (R152, R153, R155): the job ready to fetch the descriptor at a station address, or the
outcome that ends it. -/
def State.approach (s : State) (j : Job) (a : Word) : Except Status Job :=
  if a.toNat % 16 ≠ 0 ∨ Config.descriptors ≤ j.fetched then .error .chainFault
  else
    let bus := (s.station j.slot).relocate a
    if (s.station j.slot).inAperture bus 16 then .ok { j with fetch := some (a, bus) } else .error .apertureFault

/-- Step 4 of the walk (R153): the fields of a descriptor are in their limits. -/
def descriptorOk (region count next : Word) (last : Bool) : Bool :=
  decide (4 ≤ count.toNat) && decide (count.toNat ≤ 16777216) && decide (count.toNat % 4 = 0) && decide (region.toNat % 4 = 0)
    && (last || decide (next.toNat % 16 = 0))

/-- Steps 3 to 5 of the walk (R152): the four words of a descriptor have been fetched from a station address. -/
def State.fetched (s : State) (j : Job) (a control region count next : Word) : Except Status Job :=
  let last := descriptorLast control next
  if !descriptorOk region count next last then .error .chainFault
  else
    let start := (s.station j.slot).relocate region
    if (s.station j.slot).inAperture start count.toNat then
      .ok { j with current := some ⟨a, controlNotify control, last, next, region, count.toNat, start, 0⟩ }
    else .error .apertureFault

/-! ## The page stream -/

/-- The 16 bytes of a page header (R200). -/
def PageRecord.headerBytes (r : PageRecord) : List Byte :=
  bytesOf [word (r.number + 256 * r.verdict.code), r.flags.word, word r.lines, word r.storedBytes]

/-- A page in the stream: its header and its stored bytes, in chain order (R158). -/
def State.pageStream (s : State) (r : PageRecord) : List Byte :=
  r.headerBytes ++ s.bsm.readChain (s.bsm.chain r.firstBlock r.blockCount) 0 r.storedBytes

/-- The page records a delivery job sends (R158). -/
def State.deliveryPages (s : State) (d : Delivery) : List PageRecord :=
  (((s.document d.handle.index).pages.drop (d.firstPage - 1)).take d.pageCount).filterMap s.page

/-- The lengths of the pages in the stream. -/
def streamLengths (rs : List PageRecord) : List Nat := rs.map (fun r => 16 + r.storedBytes)

/-- The bytes of the stream from byte `off`, `n` of them. -/
def State.streamSlice (s : State) (rs : List PageRecord) (off n : Nat) : List Byte :=
  ((rs.flatMap s.pageStream).drop off).take n

/-- The stream position after `moved` bytes: the pages written whole, and the bytes of the next one. -/
def streamPosition : List Nat → Nat → Nat × Nat
  | [], _ => (0, 0)
  | n :: rest, moved => if moved < n then (0, moved) else
      let (k, b) := streamPosition rest (moved - n)
      (k + 1, b)

/-! ## Bursts -/

/-- The next burst of a running job (R149): its descriptor fetch, or the next bytes of its region. -/
def State.nextBurst (s : State) (j : Job) : Option Burst :=
  match j.fetch with
  | some (_, bus) => some ⟨.fetch, bus, 16, []⟩
  | none =>
    match j.current with
    | none => none
    | some c =>
      let left := min Config.burstBytes (c.count - c.moved)
      let address := c.start + word c.moved
      match j.kind with
      | .intake _ => some ⟨.intakeRead, address, left, []⟩
      | .delivery d =>
        let rs := s.deliveryPages d
        let n := min left ((streamLengths rs).sum - j.moved)
        some ⟨.deliveryWrite, address, n, s.streamSlice rs j.moved n⟩

/-- A channel has work while its job's next step is a burst (R149). -/
def State.hasWork (s : State) (c : Nat) : Bool := ((s.jobOn c).bind s.nextBurst).isSome

/-- The channels in the order the arbiter looks at them after the one it granted last (R149). -/
def grantOrder (lastGranted : Nat) : List Nat :=
  [(lastGranted + 1) % 4, (lastGranted + 2) % 4, (lastGranted + 3) % 4, lastGranted % 4]

/-- The channel the arbiter grants next (R149). -/
def State.nextGrant (s : State) : Option Nat := (grantOrder s.te.lastGranted).find? s.hasWork

/-- The arbiter grants the bus master interface within a tenure of mode `m`, and the burst is under way; without work the
tenure is released (R149, R150). -/
def State.grantBurst (s : State) (m : BusMode) : State :=
  match s.nextGrant with
  | none => { s with te := { s.te with tenure := none } }
  | some c =>
    match (s.jobOn c).bind s.nextBurst with
    | none => { s with te := { s.te with tenure := none } }
    | some b => { s with te := { s.te with lastGranted := c, tenure := some ⟨m, c, b⟩ } }

/-- The bus request (R150): made while no tenure is held and some channel has work, at the level and mode of that moment;
it stands until the grant, and falls where no channel has work any more (log 16). -/
def State.updateRequest (s : State) : State :=
  match s.te.tenure with
  | some _ => s
  | none =>
    match s.nextGrant with
    | none => { s with te := { s.te with request := none } }
    | some _ =>
      match s.te.request with
      | some _ => s
      | none => { s with te := { s.te with request := some ⟨s.te.level, s.te.mode⟩ } }

/-- After a burst (R150): FAIR releases the bus, and HOLD keeps it while any channel has work. -/
def State.afterBurst (s : State) (m : BusMode) : State :=
  match m with
  | .fair => ({ s with te := { s.te with tenure := none } } : State).updateRequest
  | .hold => (s.grantBurst .hold).updateRequest

/-! ## Channels -/

/-- The oldest QUEUED job that is not cancelled (R148; a cancelled QUEUED job ends at once, R162). -/
def State.oldestQueued (s : State) : Option Job :=
  s.te.jobs.find? (fun j => decide (j.channel = none) && !j.cancelled)

/-- An IDLE channel takes the oldest QUEUED job (R148). -/
def State.assignChannel (s : State) (c : Nat) : State :=
  if s.channelBusy c then s
  else
    match s.oldestQueued with
    | none => s
    | some j => s.replaceJob j { j with channel := some c }

/-- The IDLE channels take jobs, the lowest-numbered the oldest (R148). -/
def State.assignChannels (s : State) : State := [0, 1, 2, 3].foldl State.assignChannel s

/-! ## The end of a job -/

/-- The reply of a job (R31, R133, R157, R159). -/
def State.jobReply (s : State) (j : Job) (outcome : Status) : Reply :=
  match j.kind with
  | .intake n =>
    ⟨outcome, 0x22, j.tag, [word j.moved, word (if j.detached then 0 else s.openStored n)]⟩
  | .delivery d => ⟨outcome, 0x59, j.tag, [word j.moved, word d.whole, word d.pageCount]⟩

/-- The idle timer of a reception starts or restarts now (R40). -/
def State.idleFrom (s : State) (profile : Nat) : Nat := s.tb.uptime + 1000 * (s.profile profile).idleTimeout

/-- Step 2 of the end of a job (R161): the reception goes back to PAGE_OPEN with its idle timer restarted (R32); the
checkout's deadline is set anew if it still stands with the job's ticket (R134). -/
def State.ownerEnd (s : State) (j : Job) : State :=
  match j.kind with
  | .intake n =>
    if j.detached then s
    else
      match s.context n with
      | none => s
      | some c => s.setContext n (some { c with state := .pageOpen, idleDeadline := some (s.idleFrom c.profile) })
  | .delivery d =>
    match (s.document d.handle.index).entry d.position with
    | none => s
    | some e =>
      if e.state = .checkedOut ∧ e.ticket = d.ticket then
        s.setEntry d.handle.index d.position
          { e with deadline := some (s.tb.uptime + 1000 * (s.destination e.destination).holdTime) }
      else s

/-- Step 4 of the end of a job (R161, R76): the active job count has fallen; at 0 a PURGE_PENDING document is freed and a
DONE one has its release test. -/
def State.documentEnd (s : State) (j : Job) : State :=
  match j.kind with
  | .intake _ => s
  | .delivery d =>
    if s.activeJobs d.handle.index = 0 then
      match (s.document d.handle.index).state with
      | .purgePending => s.freeDocument d.handle.index
      | .done => s.releaseTest d.handle.index
      | .free => s
      | .receiving => s
      | .queued => s
      | .unrouted => s
    else s

/-- A job ends with an outcome (R161). -/
def State.endJob (s : State) (j : Job) (outcome : Status) : State :=
  let s1 := ({ s with te := { s.te with jobs := s.te.jobs.erase j } } : State).assignChannels
  let s2 := s1.ownerEnd j
  let s3 := if j.suppressed then s2 else s2.fillReservation j.slot (s.jobReply j outcome)
  s3.documentEnd j

/-- A running job whose walk has not begun (R148). -/
def Job.unstarted (j : Job) : Bool := j.channel.isSome && j.fetch.isNone && j.current.isNone

/-- The channels that took jobs begin their chain walks, the oldest job first; a job whose first descriptor fails its
checks ends, and its channel takes another (R148, R152, log 14). -/
def State.beginWalks : Nat → State → State
  | 0, s => s
  | fuel + 1, s =>
    match s.te.jobs.find? Job.unstarted with
    | none => s
    | some j =>
      match s.approach j j.chain with
      | .ok j' => State.beginWalks fuel (s.replaceJob j j')
      | .error outcome => State.beginWalks fuel (s.endJob j outcome)

/-- What follows in the engine once jobs have joined or ended: walks begin, and the bus is requested (R148, R150). -/
def State.runEngine (s : State) : State := (State.beginWalks s.te.jobs.length s).updateRequest

/-- A job joins the queue at its tail, and an IDLE channel takes it (R146, R148). -/
def State.queueJob (s : State) (j : Job) : State :=
  (({ s with te := { s.te with jobs := s.te.jobs ++ [j] } } : State).assignChannels).runEngine

/-- A new job (R146). -/
def Job.new (kind : JobKind) (slot tag : Nat) (chain : Word) : Job where
  kind := kind
  slot := slot
  tag := tag
  chain := chain
  channel := none
  cancelled := false
  detached := false
  suppressed := false
  fetched := 0
  fetch := none
  current := none
  moved := 0

/-! ## Cancellation -/

/-- A burst of the job is under way (R162). -/
def State.underWay (s : State) (j : Job) : Bool :=
  s.te.tenure.any (fun t => decide (j.channel = some t.channel))

/-- The cancel of a job by a source that detaches intake jobs or suppresses replies (R162, R163). -/
def Job.cancelBy (j : Job) (detach suppress : Bool) : Job :=
  { j with
    cancelled := true
    detached := j.detached || (detach && j.isIntake)
    suppressed := j.suppressed || suppress }

/-- The jobs a cancel newly reaches: those that pass the test and are not already cancelled (R162, log 15). -/
def State.reached (s : State) (p : Job → Bool) : List Job := s.te.jobs.filter (fun j => p j && !j.cancelled)

/-- Every job that passes the test is cancelled; those QUEUED or at a burst boundary end at once, oldest first, and the
others at the end of their burst (R162, log 13). -/
def State.cancelJobs (s : State) (p : Job → Bool) (detach suppress : Bool) : State :=
  let s1 := { s with te := { s.te with jobs := s.te.jobs.map (fun j => if p j then j.cancelBy detach suppress else j) } }
  let ending := s1.te.jobs.filter (fun j => j.cancelled && !s1.underWay j)
  (ending.foldl (fun s j => s.endJob j .cancelled) s1).runEngine

/-! ## Bursts that end -/

/-- DESCRIPTOR_DONE for a finished region (R160): sent where NOTIFY is set and no cancel has been taken. -/
def State.notifyRegion (s : State) (j : Job) (c : Descriptor) (stored : Nat) : State :=
  if c.notify && !j.cancelled then
    s.send .descriptorDone [word j.tag, word j.fetched, c.address, word j.moved, word stored] [j.slot]
  else s

/-- Step 8 of the walk (R152): after a finished region, the end of the chain with an outcome, or the next descriptor. -/
def State.nextDescriptor (s : State) (j : Job) (c : Descriptor) (atEnd : Status) : State :=
  if c.last then s.endJob j atEnd
  else
    match s.approach j c.next with
    | .ok j' => s.replaceJob j j'
    | .error outcome => s.endJob j outcome

/-- A completed descriptor fetch (R152, R153, R155). -/
def State.fetchComplete (s : State) (j : Job) (a : Word) (ws : List Word) : State :=
  let j1 := { j with fetched := j.fetched + 1, fetch := none }
  let s1 := s.replaceJob j j1
  if j1.cancelled then s1.endJob j1 .cancelled
  else
    match s1.fetched j1 a (busWord ws 0) (busWord ws 1) (busWord ws 2) (busWord ws 3) with
    | .ok j2 => s1.replaceJob j1 j2
    | .error outcome => s1.endJob j1 outcome

/-- A completed intake read (R156): its words are handed to the parser, unless the job is detached. -/
def State.intakeComplete (s : State) (j : Job) (c : Descriptor) (n : Nat) (b : Burst) (ws : List Word) : State :=
  let r : Parsed := if j.detached then ⟨s, 0, false⟩ else s.parseWords n (busWords ws (b.length / 4))
  let c1 := { c with moved := c.moved + b.length }
  let j1 := { j with moved := j.moved + 4 * r.consumed, current := some c1 }
  let s1 := r.state.replaceJob j j1
  if j1.cancelled then s1.endJob j1 .cancelled
  else if r.full then s1.endJob j1 .storeFull
  else if c1.moved = c1.count then (s1.notifyRegion j1 c1 (s1.openStored n)).nextDescriptor j1 c1 .ok
  else s1

/-- A completed delivery write (R158, R159). -/
def State.deliveryComplete (s : State) (j : Job) (c : Descriptor) (d : Delivery) (b : Burst) : State :=
  let lengths := streamLengths (s.deliveryPages d)
  let moved := j.moved + b.length
  let (whole, byte) := streamPosition lengths moved
  let c1 := { c with moved := c.moved + b.length }
  let j1 := { j with
    moved := moved, current := some c1
    kind := .delivery { d with page := d.firstPage + whole, byte := byte, whole := whole } }
  let s1 := s.replaceJob j j1
  let s2 := if c1.moved = c1.count then s1.notifyRegion j1 c1 whole else s1
  if j1.cancelled then s2.endJob j1 .cancelled
  else if lengths.sum ≤ moved then s2.endJob j1 .ok
  else if c1.moved = c1.count then s2.nextDescriptor j1 c1 .shortBuffer
  else s2

/-- A burst completes without error (R149): its channel's job goes on to its next step. -/
def State.burstDone (s : State) (j : Job) (b : Burst) (ws : List Word) : State :=
  match j.fetch with
  | some (a, _) => s.fetchComplete j a ws
  | none =>
    match j.current with
    | none => s
    | some c =>
      match j.kind with
      | .intake n => s.intakeComplete j c n b ws
      | .delivery d => s.deliveryComplete j c d b

/-- A burst ends in a way `f` for its job, and the tenure goes on or is released (R149, R150). While the end is handled the
burst is over, so its job stands at a burst boundary; channels freed by it begin new walks. -/
def State.burstEnd (s : State) (f : State → Job → Burst → State) : State :=
  match s.te.tenure with
  | none => s
  | some t =>
    match s.jobOn t.channel with
    | none => s.afterBurst t.mode
    | some j =>
      let s1 := f s j t.burst
      (State.beginWalks s1.te.jobs.length s1).afterBurst t.mode

end Sys2Proof.Machine
end

