-- ==== Sys2Proof/Machine/ReceptionOps.lean ====
section
/-!
DEFINITION. The life of a reception beside its commands: routing (R92 to R96), its end (R35), completion and the re-check
of its entries (R36, R113), the freeing of an empty document (R37), the abort (R39), and the station reset (R181).
-/

namespace Sys2Proof.Machine

/-! ## Resolution (R92 to R95) -/

/-- The digits are a prefix of the called digits (R93). -/
def digitsMatch : List Byte → List Byte → Bool
  | [], _ => true
  | _ :: _, [] => false
  | a :: as, b :: bs => decide (a = b) && digitsMatch as bs

/-- The longest matching of a list of entries, given the best found so far (R93). -/
def longestMatch (called : List Byte) : List (Nat × Option RouteEntry) → Option (Nat × RouteEntry) → Option (Nat × RouteEntry)
  | [], best => best
  | (i, some r) :: rest, best =>
    if digitsMatch r.digits called && decide ((best.elim 0 (fun b => b.2.digits.length)) < r.digits.length) then
      longestMatch called rest (some (i, r))
    else longestMatch called rest best
  | (_, none) :: rest, best => longestMatch called rest best

/-- Matching (R93): the VALID entry whose prefix is the longest prefix of the called digits, else the default route. -/
def State.matchRoute (s : State) (called : List Byte) : RouteSource × Route :=
  match called with
  | [] => (.default, s.rtu.defaultRoute)
  | _ :: _ =>
    match longestMatch called s.rtu.routes.cells none with
    | none => (.default, s.rtu.defaultRoute)
    | some (i, r) => (.entry i, r.route)

/-- The window of a route holds (R94). -/
def Route.windowHolds (r : Route) (c : Clock) : Bool :=
  c.isSet && r.days.getLsbD c.dayOfWeek && decide (r.start ≤ c.minute) && decide (c.minute < r.stop)

/-- The replacement of closed members of a set (R95, R123): the set that results, the closed members replaced by the
fallback, and the closed members removed. -/
structure Replacement where
  delivery : Word
  replaced : Word
  removed : Word
  deriving DecidableEq, Repr

/-- The closed members of a chosen set are replaced by the usable fallback, or removed (R95). -/
def State.replaceClosed (s : State) (chosen : Word) : Replacement :=
  let closed := setWord (fun d => member chosen d && !(s.destination d).accepting)
  let kept := setWord (fun d => member chosen d && (s.destination d).accepting)
  match s.usableFallback with
  | none => ⟨kept, 0, closed⟩
  | some f => if closed = 0 then ⟨kept, 0, 0⟩ else ⟨setWord (fun d => member kept d || decide (d = f)), closed, 0⟩

/-- The original destination a member of the delivery set carries (R95): the lowest closed member replaced, where the
member is the fallback and was not chosen in its own right. -/
def Replacement.original (r : Replacement) (chosen : Word) (d : Nat) : Option Nat :=
  if member chosen d then none else (members r.replaced).head?

/-- The result of a resolution (R92, R96). -/
structure Resolution where
  source : RouteSource
  route : Route
  windowHeld : Bool
  chosen : Word
  replacement : Replacement
  deriving DecidableEq, Repr

/-- A resolution of called digits, all at one moment (R92). -/
def State.resolve (s : State) (called : List Byte) : Resolution :=
  let m := s.matchRoute called
  let held := m.2.windowHolds s.tb.clock
  let chosen := if held then m.2.business else m.2.afterHours
  ⟨m.1, m.2, held, chosen, s.replaceClosed chosen⟩

/-- A new entry for a destination in a state (R24, R124). -/
def Entry.new (dest : Nat) (original : Option Nat) (st : EntryState) : Entry := ⟨dest, original, st, 0, 0, none, none⟩

/-- The delivery list of a resolution (R24): one WAITING entry for each member of the delivery set, at positions 1 onward. -/
def Resolution.entries (r : Resolution) : Table (Option Entry) :=
  ⟨((members r.replacement.delivery).zip positions).map
    (fun x => (x.2, some (Entry.new x.1 (r.replacement.original r.chosen x.1) .waiting)))⟩

/-! ## The end of a reception -/

/-- The open page of a reception is discarded (R35 step 1): its blocks are pushed in chain order, its page record returns. -/
def State.discardPage (s : State) (p : OpenPage) : State := (s.releaseBlocks p.blocks).setPage p.record none

/-- The open page of a reception, where there is one, is discarded. -/
def State.discardOpenPage (s : State) (c : Context) : State := c.openPage.elim s s.discardPage

/-- One WAITING entry is re-checked at completion (R113). -/
def State.recheckEntry (s : State) (i p : Nat) : State :=
  match (s.document i).entry p with
  | none => s
  | some e =>
    if e.state = .waiting then
      if (s.destination e.destination).accepting then
        (s.setEntry i p { e with state := .queued }).joinTail e.destination i p
      else s.moveEntry i p e
    else s

/-- The entries of a document are re-checked in ascending position (R113). -/
def State.recheck (s : State) (i : Nat) : State := positions.foldl (fun s p => s.recheckEntry i p) s

/-- A document with a committed page completes (R36). -/
def State.completeDocument (s : State) (i : Nat) (interrupted : Bool) : State :=
  let d := s.document i
  let s1 := (s.setDocument i { d with
    endTime := some s.tb.clock, incomplete := d.incomplete || interrupted }).recheck i
  let d1 := s1.document i
  if d1.countIn .queued = 0 then (s1.setDocument i { d1 with state := .unrouted }).sendUnrouted i 0
  else s1.setDocument i { d1 with state := .queued }

/-- Step 4 of the end of a reception (R35): the document is freed where it has no committed page, else it completes. -/
def State.finishDocument (s : State) (i : Nat) (interrupted : Bool) : State :=
  if (s.document i).pages = [] then s.freeDocument i else s.completeDocument i interrupted

/-- A reception is ended (R35). -/
def State.endReception (s : State) (n : Nat) (c : Context) (interrupted : Bool) : State :=
  (((s.discardOpenPage c).releaseReservation c.reservation).setContext n none).finishDocument c.handle.index interrupted

/-- The delivery entries of a document that are QUEUED. -/
def State.entriesQueued (s : State) (i : Nat) : Nat := (s.document i).countIn .queued

/-- The blocks an abort returns (R39): those of the open page and of the committed pages. -/
def State.abortBlocks (s : State) (c : Context) : Nat :=
  (c.openPage.elim 0 (fun p => p.blocks.length)) + (s.documentBlocks (s.document c.handle.index)).length

/-- The intake job of reception context `n`, not detached from it. -/
def Job.feeds (j : Job) (n : Nat) : Bool := decide (j.kind = .intake n) && !j.detached

/-- The effects of ABORT_RECEPTION, and of PURGE of a RECEIVING document (R39). -/
def State.abortReception (s : State) (n : Nat) (c : Context) : State :=
  let s1 := s.cancelJobs (fun j => j.feeds n) true false
  (((s1.discardOpenPage c).releaseReservation c.reservation).setContext n none).freeDocument c.handle.index

/-! ## Receptions ended together -/

/-- Insert a context into a list ordered by a key. -/
def insertByKey (key : Nat → Nat) (n : Nat) : List Nat → List Nat
  | [] => [n]
  | m :: rest => if key n ≤ key m then n :: m :: rest else m :: insertByKey key n rest

/-- Order contexts by a key. -/
def orderByKey (key : Nat → Nat) : List Nat → List Nat
  | [] => []
  | n :: rest => insertByKey key n (orderByKey key rest)

/-- The reception contexts in use that pass a test, in the open order of R43 (log 12). -/
def State.receptionsWhere (s : State) (p : Context → Bool) : List Nat :=
  orderByKey (Config.receptionOrder s.choice)
    ((List.range Config.contexts).filter (fun n => (s.context n).any p))

/-- The moment at which an open order is used is past (log 12). -/
def State.choiceMade (s : State) : State := { s with choice := s.choice + 1 }

/-- One reception of a slot under reset ends as INTERRUPTED (R43). -/
def State.interruptReception (s : State) (n : Nat) : State :=
  match s.context n with
  | none => s
  | some c => s.endReception n c true

/-! ## The station reset (R181) -/

/-- Step 2: the port state of a slot is emptied; `keep` is the reservation of a STATION_RESET that names the requester's own
slot (R182). -/
def Station.emptied (st : Station) (keep : Bool) : Station :=
  { st with assembly := none, requests := [], replies := [], reserved := bit keep, latch := none }

/-- Step 5: FRAMING, NOTICE_LOST and WORK are cleared. -/
def Station.flagsCleared (st : Station) : Station := { st with framing := false, noticeLost := false, work := false }

/-- Step 2 of the reset of slot `n`. -/
def State.emptyPort (s : State) (n : Nat) (keep : Bool) : State := s.setStation n ((s.station n).emptied keep)

/-- Steps 5 and 6 of the reset of slot `n`. -/
def State.restoreFlags (s : State) (n : Nat) : State :=
  let s1 := s.setStation n (s.station n).flagsCleared
  if s1.workWaits n then s1.setWork n else s1

/-- The slots whose reset is being carried out (R175). -/
def State.markReset (s : State) (ns : List Nat) : State := { s with spu := { s.spu with underReset := ns } }

/-- Step 3 of the reset of slot `n`: every reception it opened ends as INTERRUPTED (R43). -/
def State.endReceptionsOf (s : State) (n : Nat) : State :=
  ((s.receptionsWhere (fun c => decide (c.openingSlot = n))).foldl State.interruptReception s).choiceMade

/-- The station reset of slot `n` (R181), in its order. -/
def State.stationReset (s : State) (n : Nat) (keep : Bool) : State :=
  let s1 := (s.markReset [n]).cancelJobs (fun j => decide (j.slot = n)) true true
  let s2 := (s1.emptyPort n keep).endReceptionsOf n
  ((s2.returnCheckouts (fun m => decide (m = n))).restoreFlags n).markReset []

/-- What STATION_RESET reports (R182): the jobs cancelled, the receptions ended and the checkouts returned. -/
def State.resetCounts (s : State) (n : Nat) : Nat × Nat × Nat :=
  ((s.reached (fun j => decide (j.slot = n))).length,
   ((List.range Config.contexts).filter (fun c => (s.context c).any (fun x => decide (x.openingSlot = n)))).length,
   s.countCheckouts (fun m => decide (m = n)))

end Sys2Proof.Machine
end

