-- ==== Sys2Proof/Machine/Commands.lean ====
section
/-!
DEFINITION. Taking a record (R170), its checks (R171) and its reply (R172); and an access to the port window (R167, R168,
R194).
-/

namespace Sys2Proof.Machine

/-- The outcome of a Host step. -/
abbrev Result := Host.Outcome State Fault Refusal

/-! ## Port window accesses -/

/-- The answer of the part to an access stands on the chassis bus. -/
def State.answering (s : State) (a : Answer) : State := { s with answer := a }

/-- An access to the port window (R167, R168, R194): RETRY while the part is not READY, bus error for a slot that is UNUSED,
and otherwise what the offset does. -/
def State.access (s : State) (slot : Nat) (f : State → State) : State :=
  match s.part with
  | .starting => s.answering .retry
  | .recovering => s.answering .retry
  | .ready => if (s.rights slot).any then f s else s.answering .busError

/-! ## Taking a record -/

/-- The transfer commands (R170). -/
def isTransfer (code : Nat) : Bool := decide (code = 0x22) || decide (code = 0x59)

/-- The record at the head of a slot's request queue, where it is taken (R170): the part is READY, the reply queue has a free
slot, and a transfer command finds fewer than 4 jobs of the station in the engine. -/
def State.takeable (s : State) (slot : Nat) : Option Record :=
  match s.part with
  | .starting => none
  | .recovering => none
  | .ready =>
    match (s.station slot).requests with
    | [] => none
    | r :: _ =>
      if s.replyRoom slot && (!isTransfer r.header.code || decide (s.jobCount slot < Config.jobsPerStation)) then some r
      else none

/-- Taking the head record (R170): it leaves the request queue, and one reply slot is reserved for it. -/
def State.taken (s : State) (slot : Nat) : State :=
  (s.setStation slot { s.station slot with requests := (s.station slot).requests.tail }).reserveReply slot

/-- What a block makes of a command handed to it (R170, R171). -/
inductive Handled where
  /-- refused: nothing changes, and the reply is the header alone -/
  | refused (status : Status)
  /-- carried out, with its reply -/
  | replied (status : Status) (words : List Word) (s : State)
  /-- carried out, its reply to come with a job's end, or emptied by a reset -/
  | silent (s : State)

/-- The reply to a record. -/
def Record.reply (r : Record) (status : Status) (words : List Word) : Reply := ⟨status, r.header.code, r.header.tag, words⟩

/-- The reply of a command is posted into the reservation made when it was taken (R170). -/
def State.answerRecord (s : State) (slot : Nat) (r : Record) : Handled → State
  | .refused status => s.fillReservation slot (r.reply status [])
  | .replied status words s' => s'.fillReservation slot (r.reply status words)
  | .silent s' => s'

/-- The codes of this manual (R171). -/
def commandCodes : List Nat :=
  [0x01, 0x02, 0x03, 0x04, 0x05, 0x10, 0x11, 0x12, 0x13, 0x14, 0x20, 0x21, 0x22, 0x23, 0x24, 0x25, 0x26, 0x27, 0x30, 0x31,
   0x32, 0x33, 0x34, 0x35, 0x40, 0x41, 0x42, 0x43, 0x44, 0x45, 0x50, 0x51, 0x52, 0x53, 0x54, 0x55, 0x58, 0x59, 0x5A, 0x5B,
   0x5C, 0x60, 0x61]

/-- A record of slot `slot` whose code passes the test is taken and handed to `body`, a one-word bad-length record being
refused BAD_LENGTH first (R170, R171, log 22). Where no such record can be taken, nothing happens (log 2). -/
def State.takeRecord (s : State) (slot : Nat) (codes : Nat → Bool) (body : State → Record → Handled) : State :=
  match s.takeable slot with
  | none => s
  | some r =>
    if codes r.header.code then
      let s1 := s.taken slot
      s1.answerRecord slot r (if r.header.badLength then .refused .badLength else body s1 r)
    else s

/-- The command of one code is taken. -/
def State.command (s : State) (slot code : Nat) (body : State → Record → Handled) : State :=
  s.takeRecord slot (fun c => decide (c = code)) body

/-! ## Checks shared by commands -/

/-- The checks of R27 on a reception command, after its right: handle, ownership, state. The context found is the one that
carries the reception. -/
def State.receptionCheck (s : State) (slot : Nat) (h : Handle) (f : Nat → Context → Handled) : Handled :=
  if s.stale h then .refused .staleHandle
  else if (s.document h.index).openingSlot ≠ some slot then .refused .notOwner
  else if (s.document h.index).state ≠ .receiving then .refused .wrongState
  else
    match s.contextOf h with
    | none => .refused .wrongState
    | some n =>
      match s.context n with
      | none => .refused .wrongState
      | some c => f n c

/-- The entry of a document for a destination that is CHECKED_OUT with a ticket, and its position (R131). -/
def Document.checkedOut (d : Document) (dest ticket : Nat) : Option (Nat × Entry) :=
  d.entryList.find? (fun x => decide (x.2.destination = dest ∧ x.2.state = .checkedOut ∧ x.2.ticket = ticket))

/-- The common checks of FETCH_PAGES, CONFIRM and RETURN (R131); `field` is the command's own field check. -/
def State.checkoutCheck (s : State) (slot : Nat) (h : Handle) (dest ticket : Nat) (field : Option Status)
    (f : Nat → Entry → Handled) : Handled :=
  let r := s.rights slot
  let found := (s.document h.index).checkedOut dest ticket
  let owner := match found with
    | none => true
    | some (p, _) => r.administer || (s.checkoutOf dest h.index p).any (fun x => decide (x.takingSlot = slot))
  if !(r.deliver || r.administer) then .refused .noRight
  else if s.stale h then .refused .staleHandle
  else if !owner then .refused .notOwner
  else
    match field with
    | some status => .refused status
    | none =>
      match found with
      | none => .refused .notCheckedOut
      | some (p, e) => if s.jobMark h.index p then .refused .transferActive else f p e

end Sys2Proof.Machine
end

