-- ==== Sys2Proof/Machine/Destinations.lean ====
section
/-!
DEFINITION. The destination commands (R116 to R124): DEST_CONFIG, DEST_OPEN, DEST_PAUSE, DEST_CLOSE, DEST_STATUS and REROUTE.
-/

namespace Sys2Proof.Machine

/-- A destination number is clamped into 0 to 31 (R116). -/
def destOf (w : Word) : Nat := clamp 0 31 w.toNat

/-- A bound slot in a reply (R117, R122): 16 for none. -/
def boundWord (b : Option Nat) : Word := word (b.getD 16)

/-! ## DEST_CONFIG -/

/-- The destination after DEST_CONFIG (R117): settings and binding replaced; an OPEN one left unbound becomes PAUSED. -/
def Destination.configured (d : Destination) (bound : Option Nat) (hold attempts checkouts : Nat) (label : List Byte) :
    Destination :=
  { d with
    bound := bound
    holdTime := hold
    attemptLimit := attempts
    checkoutLimit := checkouts
    label := label
    state := if d.state = .opened ∧ bound = none then .paused else d.state }

/-- The slot a DEST_CONFIG names (R117): 16 and above is none. -/
def decodeBound (w : Word) : Option Nat := if w.toNat < Config.slots then some w.toNat else none

/-- The destination is written; a new binding sets WORK where its queue is not empty (R114). -/
def State.bindDestination (s : State) (n : Nat) (d : Destination) : State :=
  let s' := s.setDestination n d
  if d.bound ≠ (s.destination n).bound ∧ d.queue ≠ [] then s'.signalWork n else s'

/-- DEST_CONFIG (R117). -/
def execDestConfig (slot : Nat) (s : State) : Result :=
  .next (s.command slot 0x50 (fun s r =>
    match r.words with
    | w1 :: w2 :: w3 :: w4 :: w5 :: rest =>
      match takeString rest with
      | some (cs, []) =>
        let n := destOf w1
        let bound := decodeBound w2
        let label := cs.take labelLimit
        if !(s.rights slot).administer then .refused .noRight
        else if bound.any (fun m => !(s.rights m).deliver) then .refused .noRight
        else
          let d := (s.destination n).configured bound (clamp 10 3600 w3.toNat) (clamp 1 15 w4.toNat) (clamp 1 16 w5.toNat) label
          .replied .ok
            ([word n, boundWord bound, word d.holdTime, word d.attemptLimit, word d.checkoutLimit,
              word (bit (isCut labelLimit cs)), word d.state.code] ++ countedString label)
            (s.bindDestination n d)
      | _ => .refused .badLength
    | _ => .refused .badLength))

/-! ## DEST_OPEN and DEST_PAUSE -/

/-- The reply words of DEST_OPEN and DEST_PAUSE (R118). -/
def State.destWords (s : State) (n : Nat) (before : DestState) : List Word :=
  [word n, word before.code, word (s.destination n).state.code]

/-- DEST_OPEN (R118). -/
def execDestOpen (slot : Nat) (s : State) : Result :=
  .next (s.command slot 0x51 (fun s r =>
    match r.words with
    | [w1] =>
      let n := destOf w1
      let before := (s.destination n).state
      if !(s.rights slot).administer then .refused .noRight
      else
        match before with
        | .draining => .refused .wrongState
        | .opened => .replied .ok (s.destWords n before) s
        | .closed | .paused =>
          let s1 := s.changeDest n .opened
          let s2 := if (s1.destination n).queue.isEmpty then s1 else s1.signalWork n
          .replied .ok (s2.destWords n before) s2
    | _ => .refused .badLength))

/-- DEST_PAUSE (R119). -/
def execDestPause (slot : Nat) (s : State) : Result :=
  .next (s.command slot 0x52 (fun s r =>
    match r.words with
    | [w1] =>
      let n := destOf w1
      let before := (s.destination n).state
      if !(s.rights slot).administer then .refused .noRight
      else
        match before with
        | .closed => .refused .wrongState
        | .draining => .refused .wrongState
        | .paused => .replied .ok (s.destWords n before) s
        | .opened =>
          let s1 := s.changeDest n .paused
          .replied .ok (s1.destWords n before) s1
    | _ => .refused .badLength))

/-! ## DEST_CLOSE -/

/-- One QUEUED entry of a closing destination leaves its queue and is moved or withdrawn, and its document settles where
that empties its outstanding set (R120). -/
def State.expelItem (s : State) (n : Nat) (x : QueueItem) : State :=
  let i := x.handle.index
  let s1 := s.leaveQueue n i x.position
  match (s.document i).entry x.position with
  | none => s1
  | some e => (s1.moveEntry i x.position e).settleIfEmpty i

/-- The entries of a closing destination's queue are dealt with from head to tail; the moved and the withdrawn are counted
(R120). -/
def State.expelQueue (s : State) (n moved withdrawn : Nat) : List QueueItem → State × Nat × Nat
  | [] => (s, moved, withdrawn)
  | x :: rest =>
    match s.moveCase x.handle.index with
    | .toFallback _ => (s.expelItem n x).expelQueue n (moved + 1) withdrawn rest
    | .withdrawn => (s.expelItem n x).expelQueue n moved (withdrawn + 1) rest

/-- The destination whose queue has been emptied becomes DRAINING or CLOSED (R120). -/
def State.shutDest (s : State) (n : Nat) : State :=
  s.changeDest n (if (s.destination n).checkouts = [] then .closed else .draining)

/-- DEST_CLOSE (R120). -/
def execDestClose (slot : Nat) (s : State) : Result :=
  .next (s.command slot 0x53 (fun s r =>
    match r.words with
    | [w1] =>
      let n := destOf w1
      let before := (s.destination n).state
      if !(s.rights slot).administer then .refused .noRight
      else if s.rtu.fallback = some n then .refused .isFallback
      else if (s.destination n).accepting then
        let x := s.expelQueue n 0 0 (s.destination n).queue
        let s' := x.1.shutDest n
        .replied .ok (s'.destWords n before ++ [word x.2.1, word x.2.2]) s'
      else .replied .ok (s.destWords n before ++ [word 0, word 0]) s
    | _ => .refused .badLength))

/-! ## DEST_STATUS -/

/-- The handle of the head entry's document (R122). -/
def headWord (d : Destination) : Word := (d.queue.head?).elim absentWord (fun x => x.handle.word)

/-- DEST_STATUS (R122). -/
def execDestStatus (slot : Nat) (s : State) : Result :=
  .next (s.command slot 0x54 (fun s r =>
    match r.words with
    | [w1] =>
      let n := destOf w1
      let d := s.destination n
      if !(s.rights slot).any then .refused .noRight
      else if !(s.rights slot).administer && !s.boundTo slot n then .refused .notVisible
      else
        .replied .ok
          ([word n, word d.state.code, boundWord d.bound, word d.holdTime, word d.attemptLimit, word d.checkoutLimit,
            word d.queue.length, word d.urgent.length, word d.checkouts.length, headWord d,
            word (bit (decide (s.rtu.fallback = some n)))] ++ countedString d.label) s
    | _ => .refused .badLength))

/-! ## REROUTE -/

/-- The placement of one target destination (R123), at a delivery position. -/
inductive Placement where
  | leftAlone
  | reset (p : Nat)
  | created (p : Nat)
  deriving DecidableEq, Repr

/-- The position a new entry takes (R123): the lowest empty one, else the lowest one holding an UNDELIVERABLE or WITHDRAWN
entry whose destination is outside the target set. -/
def Document.newPosition (d : Document) (target : Word) : Option Nat :=
  match positions.find? (fun p => (d.entry p).isNone) with
  | some p => some p
  | none =>
    positions.find? (fun p => (d.entry p).any (fun e =>
      (decide (e.state = .undeliverable) || decide (e.state = .withdrawn)) && !member target e.destination))

/-- A settled entry reset by REROUTE (R124). -/
def Entry.reset (e : Entry) : Entry :=
  { e with state := .queued, attempts := 0, ticket := 0, deadline := none, settleTime := none }

/-- One target destination is placed (R123, R124): the document after, and the placement; none where there is no position. -/
def Document.place (d : Document) (target : Word) (dest : Nat) (original : Option Nat) : Option (Document × Placement) :=
  match d.entryList.find? (fun x => decide (x.2.destination = dest)) with
  | some (p, e) =>
    if e.outstanding then some (d, .leftAlone) else some (d.setEntry p (some e.reset), .reset p)
  | none =>
    match d.newPosition target with
    | none => none
    | some p => some (d.setEntry p (some (Entry.new dest original .queued)), .created p)

/-- The target destinations are placed in ascending order, all of them decided before any stands (R123). -/
def Document.placeAll (d : Document) (target : Word) (original : Nat → Option Nat) :
    List Nat → Option (Document × List (Nat × Placement))
  | [] => some (d, [])
  | dest :: rest =>
    match d.place target dest (original dest) with
    | none => none
    | some (d', x) =>
      match d'.placeAll target original rest with
      | none => none
      | some (d'', xs) => some (d'', (dest, x) :: xs)

/-- A placed entry joins its destination's queue (R124). -/
def State.joinPlaced (s : State) (i : Nat) (x : Nat × Placement) : State :=
  match x.2 with
  | .leftAlone => s
  | .reset p => s.joinTail x.1 i p
  | .created p => s.joinTail x.1 i p

/-- The placements of a kind. -/
def placedCount (xs : List (Nat × Placement)) (kind : Placement → Bool) : Nat := (xs.filter (fun x => kind x.2)).length

/-- Words 3 to 5 of the reply: entries left alone, reset and created (R124). -/
def placedWords (xs : List (Nat × Placement)) : List Word :=
  [word (placedCount xs (fun x => match x with | .leftAlone => true | .reset _ => false | .created _ => false)),
   word (placedCount xs (fun x => match x with | .leftAlone => false | .reset _ => true | .created _ => false)),
   word (placedCount xs (fun x => match x with | .leftAlone => false | .reset _ => false | .created _ => true))]

/-- The effects of a REROUTE that passes its checks (R124). -/
def State.rerouted (s : State) (i : Nat) (d : Document) (xs : List (Nat × Placement)) : State :=
  let s1 := s.setDocument i { d with state := .queued, settleTime := none, retentionDeadline := none }
  (xs.foldl (fun s x => s.joinPlaced i x) s1).settleIfEmpty i

/-- REROUTE (R123, R124). -/
def execReroute (slot : Nat) (s : State) : Result :=
  .next (s.command slot 0x55 (fun s r =>
    match r.words with
    | [w1, w2] =>
      let h := decodeHandle w1
      let d := s.document h.index
      if !(s.rights slot).administer then .refused .noRight
      else if s.stale h then .refused .staleHandle
      else if tooLarge w2 then .refused .setTooLarge
      else if w2 = 0 then .refused .badField
      else
        match d.state with
        | .free => .refused .wrongState
        | .receiving => .refused .wrongState
        | .purgePending => .refused .wrongState
        | .queued | .unrouted | .done =>
          let x := s.replaceClosed w2
          match d.placeAll x.delivery (x.original w2) (members x.delivery) with
          | none => .refused .setTooLarge
          | some (d', xs) =>
            let s' := s.rerouted h.index d' xs
            .replied .ok
              ([word d.state.code, word (s'.document h.index).state.code] ++ placedWords xs
                ++ [x.replaced, x.removed, word (s'.document h.index).outstandingSet.length]) s'
    | _ => .refused .badLength))

end Sys2Proof.Machine
end

