-- ==== Sys2Proof/Machine/Delivery.lean ====
section
/-!
DEFINITION. Checkout and delivery (R125 to R145): TAKE, FETCH_PAGES, CONFIRM, RETURN, WITHDRAW and the expiry of a hold.
-/

namespace Sys2Proof.Machine

/-- A station that may take, fetch, confirm and return holds DELIVER or ADMINISTER (R127, R131). -/
def Rights.mayTake (r : Rights) : Bool := r.deliver || r.administer

/-! ## TAKE -/

/-- An entry at an attempt count of 15 has no ticket left (R129). -/
def Entry.spent (e : Entry) : Bool := decide (15 ≤ e.attempts)

/-- The entry a queue item names. -/
def State.itemEntry (s : State) (x : QueueItem) : Option Entry := (s.document x.handle.index).entry x.position

/-- The head of a queue with attempt count 15 becomes UNDELIVERABLE, and its document settles where that is due (R129). -/
def State.dropHead (s : State) (n : Nat) (x : QueueItem) (e : Entry) : State :=
  ((s.leaveQueue n x.handle.index x.position).makeUndeliverable x.handle.index x.position e 3).settleIfEmpty x.handle.index

/-- The heads with attempt count 15 are dropped, one after another (R129). -/
def State.dropSpent (n : Nat) : Nat → State → State
  | 0, s => s
  | fuel + 1, s =>
    match (s.destination n).queue.head? with
    | none => s
    | some x =>
      match s.itemEntry x with
      | none => s
      | some e => if e.spent then State.dropSpent n fuel (s.dropHead n x e) else s

/-- An entry checked out now for a hold time in seconds (R128). -/
def Entry.taken (e : Entry) (now hold : Nat) : Entry :=
  { e with attempts := e.attempts + 1, ticket := e.attempts + 1, state := .checkedOut, deadline := some (now + 1000 * hold) }

/-- A checkout joins the list at its end (R125). -/
def State.joinCheckouts (s : State) (n : Nat) (x : Checkout) : State :=
  s.setDestination n { s.destination n with checkouts := (s.destination n).checkouts ++ [x] }

/-- The head entry of a queue is checked out by a slot (R128). -/
def State.takeHead (s : State) (slot n : Nat) (x : QueueItem) (e : Entry) : State :=
  ((s.leaveQueue n x.handle.index x.position).setEntry x.handle.index x.position
    (e.taken s.tb.uptime (s.destination n).holdTime)).joinCheckouts n ⟨x.handle, x.position, slot, e.attempts + 1⟩

/-- The stored bytes of all committed pages of a document (R128). -/
def State.documentBytes (s : State) (d : Document) : Nat := (d.pages.map (fun p => (s.page p).elim 0 (fun r => r.storedBytes))).sum

/-- The outcome of a TAKE that passes its checks (R127, R128). -/
def State.takeFrom (s : State) (slot n : Nat) : Handled :=
  match (s.destination n).queue.head? with
  | none => .replied .empty [word n] s
  | some x =>
    match s.itemEntry x with
    | none => .replied .empty [word n] s
    | some e =>
      let d := s.document x.handle.index
      let s' := s.takeHead slot n x e
      .replied .ok
        [x.handle.word, word n, word (e.attempts + 1), word d.priority.code, word d.pages.length, word (s.documentBytes d),
         word (s'.destination n).queue.length] s'

/-- TAKE (R127 to R129). -/
def execTake (slot : Nat) (s : State) : Result :=
  .next (s.command slot 0x58 (fun s r =>
    match r.words with
    | [w1] =>
      let n := destOf w1
      let d := s.destination n
      if !(s.rights slot).mayTake then .refused .noRight
      else if !(s.rights slot).administer && !s.boundTo slot n then .refused .notOwner
      else if d.state ≠ .opened then .refused .destUnavailable
      else if d.checkoutLimit ≤ d.checkouts.length then .refused .checkoutLimit
      else (State.dropSpent n d.queue.length s).takeFrom slot n
    | _ => .refused .badLength))

/-! ## FETCH_PAGES -/

/-- The field check of FETCH_PAGES (R132): the first page is a committed page. -/
def firstPageCheck (d : Document) (first : Nat) : Option Status :=
  if first = 0 ∨ d.pages.length < first then some .badField else none

/-- The delivery part of a new job (R133). -/
def Delivery.new (h : Handle) (position ticket first count : Nat) : Delivery := ⟨h, position, ticket, first, count, first, 0, 0⟩

/-- FETCH_PAGES (R132, R133). -/
def execFetchPages (slot : Nat) (s : State) : Result :=
  .next (s.command slot 0x59 (fun s r =>
    match r.words with
    | [w1, w2, w3, w4, w5, w6] =>
      let h := decodeHandle w1
      let d := s.document h.index
      s.checkoutCheck slot h (destOf w2) w3.toNat (firstPageCheck d w4.toNat) (fun p e =>
        if Config.jobQueue ≤ s.te.jobs.length then .refused .engineFull
        else
          let count := clamp 1 (d.pages.length - w4.toNat + 1) w5.toNat
          .silent (s.queueJob (Job.new (.delivery (Delivery.new h p e.ticket w4.toNat count)) slot r.header.tag w6)))
    | _ => .refused .badLength))

/-! ## CONFIRM and RETURN -/

/-- The effects of a CONFIRM (R135), in their order. -/
def State.confirmed (s : State) (i p : Nat) (e : Entry) : State :=
  (((s.leaveCheckouts e.destination i p).settleEntry i p e .delivered).settleIfEmpty i).closeIfDrained e.destination

/-- The document state and the outstanding count in a reply (R135, R142). -/
def State.docWords (s : State) (i : Nat) : List Word :=
  [word (s.document i).state.code, word (s.document i).outstandingSet.length]

/-- CONFIRM (R135). -/
def execConfirm (slot : Nat) (s : State) : Result :=
  .next (s.command slot 0x5A (fun s r =>
    match r.words with
    | [w1, w2, w3] =>
      let h := decodeHandle w1
      s.checkoutCheck slot h (destOf w2) w3.toNat none (fun p e =>
        let s' := s.confirmed h.index p e
        .replied .ok
          ([word EntryState.delivered.code] ++ s'.docWords h.index ++ [word (s'.destination e.destination).state.code]) s')
    | _ => .refused .badLength))

/-- The state of an entry after its checkout has come back (R137). -/
def CameBack.entryState : CameBack → EntryState
  | .requeued => .queued
  | .moved (.toFallback _) => .queued
  | .moved .withdrawn => .withdrawn
  | .undeliverable => .undeliverable

/-- The destination of an entry after its checkout has come back (R137, R139). -/
def CameBack.destination (c : CameBack) (e : Entry) : Nat :=
  match c with
  | .requeued => e.destination
  | .moved (.toFallback f) => f
  | .moved .withdrawn => e.destination
  | .undeliverable => e.destination

/-- Word 5 of a RETURN reply (R137): the queued count of the queue the entry joined. -/
def State.joinedCount (s : State) (c : CameBack) (e : Entry) : Word :=
  match c.entryState with
  | .queued => word (s.destination (c.destination e)).queue.length
  | .waiting | .checkedOut | .delivered | .undeliverable | .withdrawn => absentWord

/-- The reason of a RETURN (R137): 1 REJECTED, every other value BUSY. -/
def returnReason (w : Word) : Nat := if w.toNat = 1 then 1 else 0

/-- RETURN (R137). -/
def execReturn (slot : Nat) (s : State) : Result :=
  .next (s.command slot 0x5B (fun s r =>
    match r.words with
    | [w1, w2, w3, w4] =>
      let h := decodeHandle w1
      s.checkoutCheck slot h (destOf w2) w3.toNat none (fun p e =>
        let c := s.comeBackCase h.index e
        let s' := s.comeBack h.index p e (returnReason w4)
        .replied .ok
          [word c.entryState.code, word (c.destination e), word e.attempts, word (s'.document h.index).state.code,
           s'.joinedCount c e] s')
    | _ => .refused .badLength))

/-! ## The expiry of a hold -/

/-- The outcome a CHECKOUT_EXPIRED notice gives (R139). -/
def CameBack.outcome : CameBack → Nat
  | .requeued => 0
  | .moved (.toFallback _) => 1
  | .moved .withdrawn => 2
  | .undeliverable => 3

/-- The CHECKOUT_EXPIRED notice, sent before the handling of the expiry (R139). -/
def State.sendExpired (s : State) (i p : Nat) (e : Entry) : State :=
  match s.checkoutOf e.destination i p with
  | none => s
  | some x =>
    let c := s.comeBackCase i e
    s.send .checkoutExpired [x.handle.word, word e.destination, word x.ticket, word c.outcome, word (c.destination e)]
      [x.takingSlot]

/-- An expiry of the hold of an entry may be taken (R139, R192): the part is READY, the entry CHECKED_OUT, its deadline
reached and its job mark clear; also where the deadline passed under the mark of an older job, at whose end it is not set anew
(log 40). -/
def State.holdExpired (s : State) (i p : Nat) (e : Entry) : Bool :=
  decide (s.part = .ready) && decide (e.state = .checkedOut) && e.deadline.any (fun t => decide (t ≤ s.tb.uptime))
    && !s.jobMark i p

/-- HOLD_EXPIRY (R139): the checkout of a document's delivery position comes back with reason EXPIRED. -/
def execHoldExpiry (doc pos : Nat) (s : State) : Result :=
  .next (match (s.document doc).entry pos with
    | none => s
    | some e => if s.holdExpired doc pos e then (s.sendExpired doc pos e).comeBack doc pos e 2 else s)

/-! ## WITHDRAW -/

/-- The outstanding entry of a document for a destination, with its position (R141). -/
def Document.outstandingFor (d : Document) (dest : Nat) : Option (Nat × Entry) :=
  d.entryList.find? (fun x => decide (x.2.destination = dest) && x.2.outstanding)

/-- The entry is withdrawn, by its state (R142). -/
def State.withdrawEntry (s : State) (i p : Nat) (e : Entry) : State :=
  match e.state with
  | .queued => (s.leaveQueue e.destination i p).settleEntry i p e .withdrawn
  | .checkedOut =>
    ((s.leaveCheckouts e.destination i p).settleEntry i p e .withdrawn).cancelJobs (fun j => j.serves i p) false false
  | .waiting | .delivered | .undeliverable | .withdrawn => s.settleEntry i p e .withdrawn

/-- The jobs a WITHDRAW of an entry cancels (R142). -/
def State.withdrawnJobs (s : State) (i p : Nat) (e : Entry) : Nat :=
  if e.state = .checkedOut then (s.reached (fun j => j.serves i p)).length else 0

/-- WITHDRAW (R141, R142). -/
def execWithdraw (slot : Nat) (s : State) : Result :=
  .next (s.command slot 0x5C (fun s r =>
    match r.words with
    | [w1, w2] =>
      let h := decodeHandle w1
      let i := h.index
      if !(s.rights slot).administer then .refused .noRight
      else if s.stale h then .refused .staleHandle
      else
        match (s.document i).outstandingFor (destOf w2) with
        | none => .refused .wrongState
        | some (p, e) =>
          let s' := ((s.withdrawEntry i p e).settleIfEmpty i).closeIfDrained e.destination
          .replied .ok ([word p, word e.state.code, word (s.withdrawnJobs i p e)] ++ s'.docWords i) s'
    | _ => .refused .badLength))

end Sys2Proof.Machine
end

