-- ==== Sys2Proof/Machine/Documents.lean ====
section
/-!
DEFINITION. The commands of the document table: DOC_INFO, PAGE_INFO (R80 to R83), SET_DOC_ATTR (R84 to R86), PURGE (R77,
R78), LIST_DOCS (R87) and SET_RETENTION (R88).
-/

namespace Sys2Proof.Machine

/-! ## Reading -/

/-- The checks of DOC_INFO and PAGE_INFO after the length (R80, R82): right, handle, visibility. -/
def State.viewCheck (s : State) (slot : Nat) (h : Handle) (f : Unit → Handled) : Handled :=
  let r := s.rights slot
  if !(r.administer || r.deliver) then .refused .noRight
  else if s.stale h then .refused .staleHandle
  else if r.deliveryViewer && !s.visible slot h.index then .refused .notVisible
  else f ()

/-- The entry a viewer sees at a position (R81): a delivery viewer sees those of destinations bound to its slot. -/
def State.viewEntry (s : State) (slot : Nat) (viewer : Bool) (d : Document) (p : Nat) : Option Entry :=
  (d.entry p).bind (fun e => if viewer && !s.boundTo slot e.destination then none else some e)

/-- The document as a viewer sees it (R81): a delivery viewer sees only its own entries, and of a confidential document
neither caller number nor sender identification. -/
def State.view (s : State) (slot : Nat) (viewer : Bool) (d : Document) : Document :=
  { d with
    entries := ⟨positions.filterMap (fun p => (s.viewEntry slot viewer d p).map (fun e => (p, some e)))⟩
    callerNumber := if viewer && d.confidential then [] else d.callerNumber
    sender := if viewer && d.confidential then [] else d.sender }

/-- A word that a delivery viewer reads as absent (R81). -/
def heldFrom (viewer : Bool) (w : Word) : Word := if viewer then absentWord else w

/-- The document flags of DOC_INFO (R82). -/
def Document.flags (d : Document) : Nat := bit d.incomplete + 2 * bit d.poorPages + 4 * bit d.truncatedPages

/-- DOC_INFO part 0, STATE (R82). -/
def stateWords (viewer : Bool) (d : Document) (jobs : Nat) : List Word :=
  [word d.state.code, optWord d.openingSlot, word d.lineId, heldFrom viewer (word d.routeSource.code),
   word d.priority.code, heldFrom viewer (word d.retentionClass), word (bit d.confidential),
   heldFrom viewer (word (bit d.legalHold)), word d.flags, word d.pages.length, word d.totalBlocks,
   word d.entryList.length, word d.outstandingSet.length, word jobs]

/-- DOC_INFO part 1, TIMES (R82). -/
def timeWords (viewer : Bool) (d : Document) : List Word :=
  optStamp d.receiveTime ++ optStamp d.endTime ++ optUptime d.settleTime
    ++ optUptime (if viewer then none else d.retentionDeadline)

/-- DOC_INFO parts 4 to 11, ENTRY (R82). -/
def entryWords : Option Entry → List Word
  | none => [word 0] ++ List.replicate 7 absentWord
  | some e =>
    [word e.state.code, word e.destination, optWord e.original, word e.attempts, word e.ticket] ++ optUptime e.deadline
      ++ [(optUptime e.settleTime).headD absentWord]

/-- The words of one part of a document as a viewer sees it (R82). -/
def partWords (viewer : Bool) (d : Document) (jobs part : Nat) : List Word :=
  match part with
  | 0 => stateWords viewer d jobs
  | 1 => timeWords viewer d
  | 2 => countedString d.calledDigits ++ countedString d.callerNumber
  | 3 => countedString d.sender ++ countedString d.matter
  | p + 4 => entryWords (d.entry (p + 1))

/-- DOC_INFO (R82); a part of 12 or above is taken as 0 (log 20). -/
def execDocInfo (slot : Nat) (s : State) : Result :=
  .next (s.command slot 0x30 (fun s r =>
    match r.words with
    | [w1, w2] =>
      let h := decodeHandle w1
      s.viewCheck slot h (fun _ =>
        let part := if w2.toNat < 12 then w2.toNat else 0
        let viewer := (s.rights slot).deliveryViewer
        .replied .ok (word part :: partWords viewer (s.view slot viewer (s.document h.index)) (s.activeJobs h.index) part) s)
    | _ => .refused .badLength))

/-- The words of a committed page in PAGE_INFO (R83). -/
def PageRecord.words (p : PageRecord) : List Word :=
  [word p.number, optWord (p.firstBlock.map Fin.val), word p.blockCount, word p.storedBytes, word p.lines, word p.bad,
   word p.repaired, word p.longest, word p.quality, word p.verdict.code, p.flags.word]

/-- PAGE_INFO (R83). -/
def execPageInfo (slot : Nat) (s : State) : Result :=
  .next (s.command slot 0x31 (fun s r =>
    match r.words with
    | [w1, w2] =>
      let h := decodeHandle w1
      s.viewCheck slot h (fun _ =>
        match w2.toNat with
        | 0 => .refused .badField
        | k + 1 =>
          match ((s.document h.index).pages[k]?).bind s.page with
          | none => .refused .badField
          | some p => .replied .ok p.words s)
    | _ => .refused .badLength))

/-! ## Writing attributes -/

/-- The fields of a SET_DOC_ATTR request (R84). -/
structure AttrRequest where
  handle : Handle
  /-- the matter reference to be stored, whole, and absent from a KEEP -/
  matter : Option (List Byte)
  legalHold : Option Bool
  retentionClass : Option Nat
  confidential : Option Bool
  deriving DecidableEq, Repr

/-- A word of 0 CLEAR, 1 SET, anything else KEEP (R84). -/
def decodeSetting (w : Word) : Option Bool := if w.toNat = 0 then some false else if w.toNat = 1 then some true else none

/-- The fields of a SET_DOC_ATTR request (R84); none is BAD_LENGTH. The string of a KEEP, which R84 says is empty, is ignored
where it is not, and is not reported as cut (log 37). -/
def attrFields : List Word → Option AttrRequest
  | w1 :: w2 :: w3 :: w4 :: w5 :: rest =>
    match takeString rest with
    | some (cs, []) =>
      some
        { handle := decodeHandle w1
          matter := if w2.toNat = 1 then some cs else none
          legalHold := decodeSetting w3
          retentionClass := if w4.toNat ≤ 7 then some w4.toNat else none
          confidential := decodeSetting w5 }
    | _ => none
  | _ => none

/-- The document with the attributes its requester may write (R85, R86). -/
def State.withAttributes (s : State) (d : Document) (q : AttrRequest) (viewer : Bool) : Document :=
  let d1 := { d with matter := (q.matter.map (fun cs => cs.take labelLimit)).getD d.matter }
  if viewer then d1
  else
    { d1 with
      legalHold := q.legalHold.getD d.legalHold
      confidential := q.confidential.getD d.confidential
      retentionClass := q.retentionClass.getD d.retentionClass
      retentionDeadline :=
        match q.retentionClass, d.state, d.settleTime with
        | some c, .done, some t => some (s.deadlineFor t c)
        | _, _, _ => d.retentionDeadline }

/-- SET_DOC_ATTR (R84 to R86). The release test runs once, for a DONE document of an ADMINISTER station (R86); that it runs
also where the command keeps both class and hold, an event R73 does not list, is the model's choice (log 42). Where it frees
the document before the reply is made, words 1 to 4 and the string show what the command had written (log 36). -/
def execSetDocAttr (slot : Nat) (s : State) : Result :=
  .next (s.command slot 0x32 (fun s r =>
    match attrFields r.words with
    | none => .refused .badLength
    | some q =>
      s.viewCheck slot q.handle (fun _ =>
        let i := q.handle.index
        let d := s.document i
        let viewer := (s.rights slot).deliveryViewer
        match d.state with
        | .free => .refused .wrongState
        | .purgePending => .refused .wrongState
        | .receiving | .queued | .unrouted | .done =>
          let d1 := s.withAttributes d q viewer
          let s1 := s.setDocument i d1
          let s2 := if viewer then s1 else s1.releaseTest i
          .replied .ok
            ([word (bit (q.matter.any (isCut labelLimit))), heldFrom viewer (word (bit d1.legalHold)),
              heldFrom viewer (word d1.retentionClass), word (bit d1.confidential), word (s2.document i).state.code]
              ++ countedString d1.matter) s2)))

/-! ## Purging -/

/-- One outstanding entry is withdrawn by a PURGE (R78 step 1): it leaves its queue or checkout list, and a DRAINING
destination whose checkout list empties becomes CLOSED. -/
def State.purgeEntry (s : State) (i p : Nat) : State :=
  match (s.document i).entry p with
  | none => s
  | some e =>
    match e.state with
    | .queued => (s.leaveQueue e.destination i p).settleEntry i p e .withdrawn
    | .checkedOut =>
      ((s.leaveCheckouts e.destination i p).settleEntry i p e .withdrawn).closeIfDrained e.destination
    | .waiting => s.settleEntry i p e .withdrawn
    | .delivered => s
    | .undeliverable => s
    | .withdrawn => s

/-- Step 3 of a PURGE (R78): the document is freed where no job of it is in the engine, else it is PURGE_PENDING. A job's end
within step 2 may have freed it already (R76). -/
def State.purgeFinish (s : State) (i : Nat) : State :=
  let d := s.document i
  match d.state with
  | .free => s
  | .receiving | .queued | .unrouted | .done | .purgePending =>
    if s.activeJobs i = 0 then s.freeDocument i else s.setDocument i { d with state := .purgePending }

/-- The effects of a PURGE of a QUEUED, UNROUTED or DONE document (R78); the entries are withdrawn by ascending position
(log 38). -/
def State.purgeDocument (s : State) (i : Nat) : State :=
  let s1 := positions.foldl (fun s p => s.purgeEntry i p) s
  (s1.cancelJobs (fun j => j.reads i) false false).purgeFinish i

/-- PURGE (R77, R78). -/
def execPurge (slot : Nat) (s : State) : Result :=
  .next (s.command slot 0x33 (fun s r =>
    match r.words with
    | [w1] =>
      let h := decodeHandle w1
      let i := h.index
      let d := s.document i
      if !(s.rights slot).administer then .refused .noRight
      else if s.stale h then .refused .staleHandle
      else
        match d.state with
        | .free => .refused .wrongState
        | .purgePending => .refused .wrongState
        | .receiving =>
          if d.legalHold then .refused .held
          else
            match s.contextOf h with
            | none => .refused .wrongState
            | some n =>
              match s.context n with
              | none => .refused .wrongState
              | some c =>
                .replied .ok
                  [word d.pages.length, word (s.abortBlocks c), word (d.countIn .waiting),
                   word (bit (decide (c.state = .intakeActive))), word DocState.free.code]
                  (s.abortReception n c)
        | .queued | .unrouted | .done =>
          if d.legalHold then .refused .held
          else
            let s1 := s.purgeDocument i
            let freed := decide ((s1.document i).state = .free)
            .replied .ok
              [word (if freed then d.pages.length else 0), word (if freed then (s.documentBlocks d).length else 0),
               word d.outstandingSet.length, word (s.reached (fun j => j.reads i)).length, word (s1.document i).state.code] s1
    | _ => .refused .badLength))

/-! ## Listing and retention -/

/-- A document state passes a LIST_DOCS filter (R87); values of 7 and above are taken as ANY_IN_USE. -/
def passesFilter (filter : Nat) (st : DocState) : Bool :=
  if filter ≤ 5 then decide (st.code = filter) else decide (st ≠ .free)

/-- The indices of the records, from `i` upward and `fuel` of them, that pass a filter, at most `room` (R87). -/
def State.collectDocs (s : State) (filter : Nat) : Nat → Nat → Nat → List Nat
  | 0, _, _ => []
  | _, 0, _ => []
  | fuel + 1, room + 1, i =>
    if passesFilter filter (s.document i).state then i :: s.collectDocs filter fuel room (i + 1)
    else s.collectDocs filter fuel (room + 1) (i + 1)

/-- The resume index of LIST_DOCS (R87). -/
def resumeIndex (found : List Nat) : Nat :=
  match found.getLast? with
  | none => 4096
  | some last => if found.length = 12 ∧ last < 4095 then last + 1 else 4096

/-- LIST_DOCS (R87). -/
def execListDocs (slot : Nat) (s : State) : Result :=
  .next (s.command slot 0x34 (fun s r =>
    match r.words with
    | [w1, w2] =>
      if !(s.rights slot).administer then .refused .noRight
      else
        let start := clamp 0 4095 w2.toNat
        let found := s.collectDocs w1.toNat (Config.documents - start) 12 start
        .replied .ok ([word found.length, word (resumeIndex found)] ++ found.map (fun i => (s.handleOf i).word)) s
    | _ => .refused .badLength))

/-- SET_RETENTION (R88). -/
def execSetRetention (slot : Nat) (s : State) : Result :=
  .next (s.command slot 0x35 (fun s r =>
    match r.words with
    | [w1, w2] =>
      if !(s.rights slot).administer then .refused .noRight
      else
        let c := clamp 0 7 w1.toNat
        let minutes := clamp 0 65535 w2.toNat
        .replied .ok [word c, word minutes, word (s.retentionMinutes c)]
          { s with dt := { s.dt with retention := s.dt.retention.write 0 c minutes } }
    | _ => .refused .badLength))

end Sys2Proof.Machine
end

