-- ==== Sys2Proof/Machine/Engine.lean ====
section
/-!
DEFINITION. The commands of the Transfer Engine (R151, R164) and its events on the chassis bus (R149, R150).
-/

namespace Sys2Proof.Machine

/-- The jobs of a slot carrying a tag (R164). -/
def Job.tagged (j : Job) (slot tag : Nat) : Bool := decide (j.slot = slot) && decide (j.tag = tag)

/-- CANCEL_TRANSFER (R164). -/
def execCancelTransfer (slot : Nat) (s : State) : Result :=
  .next (s.command slot 0x60 (fun s r =>
    match r.words with
    | [w1] =>
      let tag := clamp 0 65535 w1.toNat
      if !(s.rights slot).any then .refused .noRight
      else
        let js := s.reached (fun j => j.tagged slot tag)
        .replied .ok
          [word js.length, word (js.filter (fun j => j.channel.isNone)).length,
           word (js.filter (fun j => j.channel.isSome)).length]
          (s.cancelJobs (fun j => j.tagged slot tag) false false)
    | _ => .refused .badLength))

/-- SET_BUS_POLICY (R151). -/
def execSetBusPolicy (slot : Nat) (s : State) : Result :=
  .next (s.command slot 0x61 (fun s r =>
    match r.words with
    | [w1, w2] =>
      let level := clamp 0 3 w1.toNat
      let mode := decodeBusMode w2
      if !(s.rights slot).administer then .refused .noRight
      else
        .replied .ok [word level, word mode.code, word (bit s.te.tenure.isSome)]
          { s with te := { s.te with level := level, mode := mode } }
    | _ => .refused .badLength))

/-- BUS_GRANT (R150): the request that stands is granted, a tenure begins at the mode read with the request, and its first
burst is under way. Without a request there is no grant. -/
def execBusGrant (s : State) : Result :=
  .next (match s.te.request, s.te.tenure with
    | some q, none => ({ s with te := { s.te with request := none } } : State).grantBurst q.mode
    | some _, some _ => s
    | none, _ => s)

/-- BURST_COMPLETE (R149): the burst under way completes; for a read, `words` are the words it returned. -/
def execBurstComplete (words : List Word) (s : State) : Result :=
  .next (s.burstEnd (fun s j b => s.burstDone j b words))

/-- BURST_RETRY (R149, R162): the burst is tried again at its channel's next grant; a cancelled job ends CANCELLED. -/
def execBurstRetry (s : State) : Result :=
  .next (s.burstEnd (fun s j _ => if j.cancelled then s.endJob j .cancelled else s))

/-- BURST_ERROR (R149, R162): the job ends BUS_ERROR, or CANCELLED where it was cancelled. -/
def execBurstError (s : State) : Result :=
  .next (s.burstEnd (fun s j _ => s.endJob j (if j.cancelled then .cancelled else .busError)))

end Sys2Proof.Machine
end

