-- ==== Sys2Proof/Machine/Port.lean ====
section
/-!
DEFINITION. The accesses to the port window (R167 to R169, R173, R174, R178, R182, R194).
-/

namespace Sys2Proof.Machine

/-- The slot after its header write is taken (R169 steps 1 to 5). -/
def Station.startRecord (st : Station) (w : Word) : Station :=
  let h := decodeHeader w
  let st := { st with framing := st.framing || st.assembly.isSome }
  if h.badLength || decide (h.length = 1) then { st with assembly := none, requests := st.requests ++ [⟨h, []⟩] }
  else { st with assembly := some ⟨h, []⟩ }

/-- The slot after a word is written to REQUEST_WORD (R169). -/
def Station.appendWord (st : Station) (w : Word) : Station :=
  match st.assembly with
  | none => { st with framing := true }
  | some r =>
    let r' := { r with words := r.words ++ [w] }
    if r'.words.length + 1 = r.header.length then { st with assembly := none, requests := st.requests ++ [r'] }
    else { st with assembly := some r' }

/-- The reply latch is empty and the latched reply leaves the queue (R173). -/
def Station.latchDone (st : Station) : Station := { st with latch := none, replies := st.replies.tail }

/-- A read of REPLY (R173): the word returned, and the slot after it. -/
def Station.readReply (st : Station) : Word × Station :=
  match st.replies with
  | [] => (emptyHeader, st)
  | r :: _ =>
    match st.latch with
    | none => (r.header, if r.words = [] then st.latchDone else { st with latch := some 1 })
    | some k => (r.words.getD (k - 1) 0, if r.words.length ≤ k then st.latchDone else { st with latch := some (k + 1) })

/-- A write to REQUEST_START, for a slot in use (R169): RETRY while 8 records are queued. -/
def State.writeStart (s : State) (slot : Nat) (w : Word) : State :=
  if Config.requestQueue ≤ (s.station slot).requests.length then s.answering .retry
  else (s.setStation slot ((s.station slot).startRecord w)).answering .done

/-- REQUEST_START (R168, R169). -/
def execRequestStart (slot : Nat) (acc : Access) (s : State) : Result :=
  .next (s.access slot (fun s =>
    match acc with
    | .read => s.answering (.word 0)
    | .write w => s.writeStart slot w))

/-- REQUEST_WORD (R168, R169). -/
def execRequestWord (slot : Nat) (acc : Access) (s : State) : Result :=
  .next (s.access slot (fun s =>
    match acc with
    | .read => s.answering (.word 0)
    | .write w => (s.setStation slot ((s.station slot).appendWord w)).answering .done))

/-- REPLY, a read (R173). -/
def execReply (slot : Nat) (s : State) : Result :=
  .next (s.access slot (fun s =>
    (s.setStation slot (s.station slot).readReply.2).answering (.word (s.station slot).readReply.1)))

/-- PORT_STATUS, a read: the word is returned, and FRAMING is cleared after it (R174). -/
def execPortStatus (slot : Nat) (s : State) : Result :=
  .next (s.access slot (fun s =>
    (s.setStation slot { s.station slot with framing := false }).answering (.word (s.portStatusWord slot))))

/-- ATTENTION_ACK (R168, R178): a write clears WORK, whatever the value. -/
def execAttentionAck (slot : Nat) (acc : Access) (s : State) : Result :=
  .next (s.access slot (fun s =>
    match acc with
    | .read => s.answering (.word 0)
    | .write _ => (s.setStation slot { s.station slot with work := false }).answering .done))

/-- PORT_RESET (R168, R182): a write performs a station reset of the writer's slot, whatever the value. -/
def execPortReset (slot : Nat) (acc : Access) (s : State) : Result :=
  .next (s.access slot (fun s =>
    match acc with
    | .read => s.answering (.word 0)
    | .write _ => (s.stationReset slot false).answering .done))

/-- WRITE_IGNORED (R168, log 28): the accesses without an effect; any other access is none of this row's and does nothing. -/
def execWriteIgnored (slot : Nat) (off : PortOffset) (acc : Access) (s : State) : Result :=
  .next (match off, acc with
    | .reply, .write _ => s.access slot (fun s => s.answering .done)
    | .portStatus, .write _ => s.access slot (fun s => s.answering .done)
    | .spare18, .write _ => s.access slot (fun s => s.answering .done)
    | .spare1C, .write _ => s.access slot (fun s => s.answering .done)
    | .spare18, .read => s.access slot (fun s => s.answering (.word 0))
    | .spare1C, .read => s.access slot (fun s => s.answering (.word 0))
    | .requestStart, _ => s
    | .requestWord, _ => s
    | .reply, .read => s
    | .portStatus, .read => s
    | .attentionAck, _ => s
    | .portReset, _ => s)

/-- UNUSED_SLOT_ACCESS (R167): bus error at any offset while the part is READY and the slot UNUSED. A slot in use makes no
such access, so nothing happens; while the part is not READY the access is answered RETRY like any other (R194). -/
def execUnusedSlotAccess (slot : Nat) (_off : PortOffset) (_acc : Access) (s : State) : Result :=
  .next (s.access slot (fun s => s))

/-- PORT_ACCESS_RETRY (R194): RETRY while the part is STARTING or RECOVERING; no such event while it is READY. -/
def execPortAccessRetry (_slot : Nat) (_off : PortOffset) (_acc : Access) (s : State) : Result :=
  .next (match s.part with
    | .starting => s.answering .retry
    | .recovering => s.answering .retry
    | .ready => s)

end Sys2Proof.Machine
end

