-- ==== Sys2Proof/Machine/Receptions.lean ====
section
/-!
DEFINITION. The commands of a reception (R22 to R39), PAGE_END's judging of a page (R54 to R59) and the reception profiles
(R60 to R63).
-/

namespace Sys2Proof.Machine

/-! ## Opening -/

/-- The lowest-numbered FREE context (R19). -/
def State.freeContext (s : State) : Option Nat := firstFrom (fun n => (s.context n).isNone) Config.contexts 0

/-- The FREE document record of lowest index (R23). -/
def State.freeDocumentIndex (s : State) : Option Nat :=
  firstFrom (fun i => decide ((s.document i).state = .free)) Config.documents 0

/-- The document record an OPEN_RECEPTION sets up (R23, R24, R96). -/
def Document.opened (d : Document) (slot lineId : Nat) (called caller : List Byte) (now : Clock) (r : Resolution) : Document :=
  { Document.free with
    generation := (d.generation + 1) % 65536
    state := .receiving
    openingSlot := some slot
    lineId := lineId
    calledDigits := called
    callerNumber := caller
    receiveTime := some now
    routeSource := r.source
    priority := r.route.priority
    retentionClass := r.route.retentionClass
    confidential := r.route.confidential
    entries := r.entries }

/-- The context an OPEN_RECEPTION sets up (R25), its idle timer started (R40). -/
def Context.opened (h : Handle) (slot lineId profile reservation deadline : Nat) : Context where
  handle := h
  openingSlot := slot
  lineId := lineId
  profile := profile
  snapshot := none
  parser := .empty
  openPage := none
  reservation := reservation
  dropCounter := 0
  idleDeadline := some deadline
  state := .betweenPages

/-- The fields of an OPEN_RECEPTION request (R22); none is BAD_LENGTH. -/
def openFields : List Word → Option (Nat × Nat × List Byte × List Byte)
  | w1 :: w2 :: rest =>
    match takeString rest with
    | none => none
    | some (called, rest1) =>
      match takeString rest1 with
      | some (caller, []) => some (clamp 0 255 w1.toNat, clamp 0 7 w2.toNat, called, caller)
      | _ => none
  | _ => none

/-- OPEN_RECEPTION (R22 to R25). -/
def execOpenReception (slot : Nat) (s : State) : Result :=
  .next (s.command slot 0x20 (fun s r =>
    match openFields r.words with
    | none => .refused .badLength
    | some (lineId, profile, called, caller) =>
      if !(s.rights slot).intake then .refused .noRight
      else if !called.all isDigit then .refused .badField
      else if s.held then .refused .storeLow
      else
        match s.freeContext with
        | none => .refused .contextFull
        | some n =>
          match s.freeDocumentIndex with
          | none => .refused .tableFull
          | some i =>
            let digits := called.take digitLimit
            let resolution := s.resolve digits
            let d := (s.document i).opened slot lineId digits (caller.take callerLimit) s.tb.clock resolution
            let granted := s.bsm.grant
            let s1 := s.setDocument i d
            let s2 := s1.setContext n
              (some (Context.opened (s1.handleOf i) slot lineId profile granted (s.idleFrom profile)))
            .replied .ok
              [(s1.handleOf i).word, word lineId, word profile, word granted, word resolution.source.code,
               word d.entryList.length, word (bit (isCut digitLimit called)), word (bit (isCut callerLimit caller))]
              (s2.reserveBlocks granted)))

/-- SET_SENDER (R28). -/
def execSetSender (slot : Nat) (s : State) : Result :=
  .next (s.command slot 0x21 (fun s r =>
    match r.words with
    | [] => .refused .badLength
    | w1 :: rest =>
      match takeString rest with
      | some (cs, []) =>
        if !(s.rights slot).intake then .refused .noRight
        else
          let h := decodeHandle w1
          s.receptionCheck slot h (fun n c =>
            let kept := cs.take callerLimit
            let s1 := s.setDocument h.index { s.document h.index with sender := kept }
            let c1 := if c.state = .intakeActive then c else { c with idleDeadline := some (s.idleFrom c.profile) }
            .replied .ok [word kept.length, word (bit (isCut callerLimit cs))] (s1.setContext n (some c1)))
      | _ => .refused .badLength))

/-! ## Page data -/

/-- The FREE page record of lowest number (R66). -/
def State.freePageRecord (s : State) : Option Nat := firstFrom (fun p => (s.page p).isNone) Config.pageRecords 0

/-- The open-page state as a page opens (R30). -/
def OpenPage.fresh (record : Nat) : OpenPage := ⟨record, [], 0, Counts.zero, PageFlags.clear⟩

/-- A page opens (R30): the page record is taken, the snapshot latched, the open-page state and the parser begin empty. -/
def State.openPageIn (s : State) (n : Nat) (c : Context) (record : Nat) : State × Context :=
  let c1 := { c with
    snapshot := some (s.profile c.profile).acceptance
    parser := .empty
    openPage := some (OpenPage.fresh record) }
  ((s.setPage record (some PageRecord.opened)).setContext n (some c1), c1)

/-- The context as an intake job joins the queue (R31): INTAKE_ACTIVE, its idle timer stopped. -/
def Context.intaking (c : Context) : Context := { c with state := .intakeActive, idleDeadline := none }

/-- PAGE_DATA (R29 to R31). -/
def execPageData (slot : Nat) (s : State) : Result :=
  .next (s.command slot 0x22 (fun s r =>
    match r.words with
    | [w1, w2] =>
      if !(s.rights slot).intake then .refused .noRight
      else
        let h := decodeHandle w1
        s.receptionCheck slot h (fun n c =>
          let full := decide (Config.jobQueue ≤ s.te.jobs.length)
          let job := Job.new (.intake n) slot r.header.tag w2
          match c.state with
          | .intakeActive => .refused .intakeBusy
          | .pageOpen =>
            if c.openPage.any (fun p => p.flags.stopped) then .refused .wrongState
            else if full then .refused .engineFull
            else .silent ((s.setContext n (some c.intaking)).queueJob job)
          | .betweenPages =>
            if Config.documentPages ≤ (s.document h.index).pages.length then .refused .pageLimit
            else
              match s.freePageRecord with
              | none => .refused .noPageRecord
              | some p =>
                if full then .refused .engineFull
                else
                  let (s1, c1) := s.openPageIn n c p
                  .silent ((s1.setContext n (some c1.intaking)).queueJob job))
    | _ => .refused .badLength))

/-! ## The end of a page -/

/-- The partial-record step (R54): a record still being assembled is dropped and the page is RAGGED; it is counted BAD, or
at the line limit marks TRUNCATED. A parser that is EMPTY or STOPPED leaves the page as it is. -/
def OpenPage.dropPartial (p : OpenPage) (parser : Parser) : OpenPage :=
  match parser with
  | .empty => p
  | .stopped => p
  | .assembling _ =>
    let flags := { p.flags with ragged := true }
    if p.counts.lines = Config.pageLines then { p with flags := flags.truncate .lineLimit }
    else if p.flags.stopped then { p with flags := flags }
    else { p with flags := flags, counts := p.counts.count 2 }

/-- What is done with a page (R33 word 2). -/
inductive PageAction where
  | committed | discarded | dropped
  deriving DecidableEq, Repr

/-- The code of an action. -/
def PageAction.code : PageAction → Nat
  | .committed => 0 | .discarded => 1 | .dropped => 2

/-- What is done with a page of a verdict, and whether it is committed by force (R58, R59). -/
def pageAction (a : Acceptance) (dropCounter : Nat) : Verdict → PageAction × Bool
  | .empty => (.discarded, false)
  | .short => (.committed, false)
  | .clean => (.committed, false)
  | .acceptable => (.committed, false)
  | .poor =>
    match a.poorAction with
    | .keep => (.committed, false)
    | .drop => if dropCounter < a.retryLimit then (.dropped, false) else (.committed, true)

/-- The drop counter after an action (R58, R59). -/
def nextDropCounter (dropCounter : Nat) : PageAction → Nat
  | .committed => 0
  | .discarded => dropCounter
  | .dropped => dropCounter + 1

/-- The page record of a committed page (R58). -/
def OpenPage.commitRecord (p : OpenPage) (number : Nat) (v : Verdict) (flags : PageFlags) : PageRecord where
  number := number
  firstBlock := p.blocks.head?
  blockCount := p.blocks.length
  storedBytes := p.storedBytes
  lines := p.counts.lines
  bad := p.counts.bad
  repaired := p.counts.repaired
  longest := p.counts.longest
  quality := quality p.counts
  verdict := v
  flags := flags

/-- A page is committed to its document (R58). -/
def State.commitPage (s : State) (i : Nat) (p : OpenPage) (v : Verdict) (flags : PageFlags) : State :=
  let d := s.document i
  (s.setPage p.record (some (p.commitRecord (d.pages.length + 1) v flags))).setDocument i
    { d with
      pages := d.pages ++ [p.record]
      totalBlocks := d.totalBlocks + p.blocks.length
      truncatedPages := d.truncatedPages || flags.stopped
      poorPages := d.poorPages || decide (v = .poor) }

/-- The context after a page has ended (R33): no page, an empty parser, BETWEEN_PAGES, the idle timer restarted. -/
def Context.pageEnded (c : Context) (drops deadline : Nat) : Context :=
  { c with snapshot := none, parser := .empty, openPage := none, dropCounter := drops, idleDeadline := some deadline,
           state := .betweenPages }

/-- PAGE_END (R33, R54 to R59). -/
def execPageEnd (slot : Nat) (s : State) : Result :=
  .next (s.command slot 0x23 (fun s r =>
    match r.words with
    | [w1] =>
      if !(s.rights slot).intake then .refused .noRight
      else
        let h := decodeHandle w1
        s.receptionCheck slot h (fun n c =>
          match c.state with
          | .intakeActive => .refused .intakeBusy
          | .betweenPages => .refused .wrongState
          | .pageOpen =>
            match c.openPage, c.snapshot with
            | some p0, some a =>
              let p := p0.dropPartial c.parser
              let v := verdict a p.counts p.storedBytes
              let act := pageAction a c.dropCounter v
              let flags := { p.flags with poorForced := act.2 }
              let s1 := match act.1 with
                | .committed => s.commitPage h.index p v flags
                | .discarded => s.discardPage p
                | .dropped => s.discardPage p
              let number := match act.1 with
                | .committed => (s.document h.index).pages.length + 1
                | .discarded => 0
                | .dropped => 0
              let k := p.counts
              .replied .ok
                [word v.code, word act.1.code, word number, word k.lines, word k.bad, word k.repaired, word k.longest,
                 word (quality k), flags.word, word p.storedBytes]
                (s1.setContext n (some (c.pageEnded (nextDropCounter c.dropCounter act.1) (s.idleFrom c.profile))))
            | _, _ => .refused .wrongState)
    | _ => .refused .badLength))

/-! ## The end of a reception -/

/-- END_RECEPTION (R34, R35): 0 is NORMAL, every other value INTERRUPTED. -/
def execEndReception (slot : Nat) (s : State) : Result :=
  .next (s.command slot 0x24 (fun s r =>
    match r.words with
    | [w1, w2] =>
      if !(s.rights slot).intake then .refused .noRight
      else
        let h := decodeHandle w1
        s.receptionCheck slot h (fun n c =>
          match c.state with
          | .intakeActive => .refused .intakeBusy
          | .betweenPages | .pageOpen =>
            let interrupted := decide (w2.toNat ≠ 0)
            let s1 := s.endReception n c interrupted
            let pages := (s.document h.index).pages.length
            .replied (if pages = 0 then .emptyDocument else .ok)
              [word pages, word (s1.entriesQueued h.index), word (bit interrupted)] s1)
    | _ => .refused .badLength))

/-- ABORT_RECEPTION (R38, R39). -/
def execAbortReception (slot : Nat) (s : State) : Result :=
  .next (s.command slot 0x25 (fun s r =>
    match r.words with
    | [w1] =>
      let rights := s.rights slot
      let h := decodeHandle w1
      let d := s.document h.index
      if !(rights.intake || rights.administer) then .refused .noRight
      else if s.stale h then .refused .staleHandle
      else if !(rights.administer || decide (d.openingSlot = some slot)) then .refused .notOwner
      else if d.state ≠ .receiving then .refused .wrongState
      else
        match s.contextOf h with
        | none => .refused .wrongState
        | some n =>
          match s.context n with
          | none => .refused .wrongState
          | some c =>
            .replied .ok
              [word d.pages.length, word (s.abortBlocks c), word (bit (decide (c.state = .intakeActive)))]
              (s.abortReception n c)
    | _ => .refused .badLength))

/-! ## Profiles -/

/-- The words of a profile in a reply (R62, R63). -/
def Profile.words (p : Profile) : List Word :=
  [word p.acceptance.acceptLimit, word p.acceptance.runLimit, word p.acceptance.minimumLines,
   word p.acceptance.poorAction.code, word p.acceptance.retryLimit, word p.idleTimeout]

/-- The profile a SET_PROFILE request gives, its settings clamped (R60, R62). -/
def profileOf (w2 w3 w4 w5 w6 w7 : Word) : Profile :=
  ⟨⟨clamp 0 1000 w2.toNat, clamp 0 1000 w3.toNat, clamp 0 1000 w4.toNat, decodePoorAction w5, clamp 0 7 w6.toNat⟩,
   clamp 5 600 w7.toNat⟩

/-- SET_PROFILE (R62). -/
def execSetProfile (slot : Nat) (s : State) : Result :=
  .next (s.command slot 0x26 (fun s r =>
    match r.words with
    | [w1, w2, w3, w4, w5, w6, w7] =>
      if !(s.rights slot).administer then .refused .noRight
      else
        let n := clamp 0 7 w1.toNat
        let p := profileOf w2 w3 w4 w5 w6 w7
        .replied .ok (word n :: p.words) (s.setProfile n p)
    | _ => .refused .badLength))

/-- GET_PROFILE (R63). -/
def execGetProfile (slot : Nat) (s : State) : Result :=
  .next (s.command slot 0x27 (fun s r =>
    match r.words with
    | [w1] =>
      if !(s.rights slot).any then .refused .noRight
      else
        let n := clamp 0 7 w1.toNat
        .replied .ok (word n :: (s.profile n).words) s
    | _ => .refused .badLength))

end Sys2Proof.Machine
end

