-- ==== Sys2Proof/Machine/Routing.lean ====
section
/-!
DEFINITION. The routing commands (R99 to R107): ROUTE_SET, ROUTE_CLEAR, ROUTE_GET, ROUTE_LOOKUP, SET_DEFAULT_ROUTE and
SET_FALLBACK. Each requires ADMINISTER.
-/

namespace Sys2Proof.Machine

/-- The route of eight request words (R98): the day bits above 6 dropped, the minutes and the class clamped, the priority
and the confidential word aliased. -/
def routeOf (business afterHours days start stop priority cls confidential : Word) : Route where
  business := business
  afterHours := afterHours
  days := days.extractLsb' 0 7
  start := clamp 0 1439 start.toNat
  stop := clamp 0 1439 stop.toNat
  priority := decodePriority priority
  retentionClass := clamp 0 7 cls.toNat
  confidential := decodeConfidential confidential

/-- The words of a route in a reply (R104, R106). -/
def Route.words (r : Route) : List Word :=
  [r.business, r.afterHours, word r.days.toNat, word r.start, word r.stop, word r.priority.code, word r.retentionClass,
   word (bit r.confidential)]

/-- Another VALID entry than `i` holds these digits as its prefix (R101). -/
def State.heldElsewhere (s : State) (i : Nat) (digits : List Byte) : Bool :=
  s.rtu.routes.cells.any (fun c => decide (c.1 ≠ i) && c.2.any (fun r => decide (r.digits = digits)))

/-- ROUTE_SET (R100 to R102). -/
def execRouteSet (slot : Nat) (s : State) : Result :=
  .next (s.command slot 0x40 (fun s r =>
    match r.words with
    | w1 :: w2 :: w3 :: w4 :: w5 :: w6 :: w7 :: w8 :: w9 :: rest =>
      match takeString rest with
      | some (cs, []) =>
        let i := clamp 0 1023 w1.toNat
        let digits := cs.take digitLimit
        let route := routeOf w2 w3 w4 w5 w6 w7 w8 w9
        if !(s.rights slot).administer then .refused .noRight
        else if cs.isEmpty || !cs.all isDigit then .refused .badField
        else if tooLarge w2 || tooLarge w3 then .refused .setTooLarge
        else if s.heldElsewhere i digits then .refused .duplicatePrefix
        else
          .replied .ok
            [word i, word (bit (s.routeEntry i).isSome), word digits.length, word (bit (isCut digitLimit cs)),
             word route.start, word route.stop, word route.retentionClass]
            (s.setRouteEntry i (some ⟨digits, route⟩))
      | _ => .refused .badLength
    | _ => .refused .badLength))

/-- ROUTE_CLEAR (R103). -/
def execRouteClear (slot : Nat) (s : State) : Result :=
  .next (s.command slot 0x41 (fun s r =>
    match r.words with
    | [w1] =>
      let i := clamp 0 1023 w1.toNat
      if !(s.rights slot).administer then .refused .noRight
      else .replied .ok [word i, word (bit (s.routeEntry i).isSome)] (s.setRouteEntry i none)
    | _ => .refused .badLength))

/-- The fallback setting in a reply (R104, R107): 32 for none. -/
def fallbackWord (f : Option Nat) : Word := word (f.getD 32)

/-- Words 3 to 12 of a ROUTE_GET reply: the route, the fallback setting and the number of VALID entries (R104). -/
def State.routeReadWords (s : State) (route : Route) : List Word :=
  route.words ++ [fallbackWord s.rtu.fallback, word s.rtu.routes.cells.length]

/-- ROUTE_GET (R104). An EMPTY entry reads 0 in every field of the route, as the power-on default route does. -/
def execRouteGet (slot : Nat) (s : State) : Result :=
  .next (s.command slot 0x42 (fun s r =>
    match r.words with
    | [w1] =>
      if !(s.rights slot).administer then .refused .noRight
      else if w1.toNat < Config.routes then
        match s.routeEntry w1.toNat with
        | some e => .replied .ok ([w1, word 1] ++ s.routeReadWords e.route ++ countedString e.digits) s
        | none => .replied .ok ([w1, word 0] ++ s.routeReadWords Route.powerOn ++ countedString []) s
      else .replied .ok ([word 1024, word 1] ++ s.routeReadWords s.rtu.defaultRoute ++ countedString []) s
    | _ => .refused .badLength))

/-- ROUTE_LOOKUP (R105). -/
def execRouteLookup (slot : Nat) (s : State) : Result :=
  .next (s.command slot 0x43 (fun s r =>
    match takeString r.words with
    | some (cs, []) =>
      if !(s.rights slot).administer then .refused .noRight
      else if !cs.all isDigit then .refused .badField
      else
        let x := s.resolve (cs.take digitLimit)
        .replied .ok
          [word x.source.code, word (bit x.windowHeld), word (bit (!x.windowHeld)), x.chosen, x.replacement.delivery,
           x.replacement.replaced, x.replacement.removed, word x.route.priority.code, word x.route.retentionClass,
           word (bit x.route.confidential), word (bit (isCut digitLimit cs))] s
    | _ => .refused .badLength))

/-- SET_DEFAULT_ROUTE (R106). -/
def execSetDefaultRoute (slot : Nat) (s : State) : Result :=
  .next (s.command slot 0x44 (fun s r =>
    match r.words with
    | [w1, w2, w3, w4, w5, w6, w7, w8] =>
      let route := routeOf w1 w2 w3 w4 w5 w6 w7 w8
      if !(s.rights slot).administer then .refused .noRight
      else if tooLarge w1 || tooLarge w2 then .refused .setTooLarge
      else .replied .ok route.words { s with rtu := { s.rtu with defaultRoute := route } }
    | _ => .refused .badLength))

/-- The setting a SET_FALLBACK word names (R107): 32 and above is none. -/
def decodeFallback (w : Word) : Option Nat := if w.toNat < Config.destinations then some w.toNat else none

/-- SET_FALLBACK (R107): a named destination must be OPEN or PAUSED. -/
def execSetFallback (slot : Nat) (s : State) : Result :=
  .next (s.command slot 0x45 (fun s r =>
    match r.words with
    | [w1] =>
      let f := decodeFallback w1
      if !(s.rights slot).administer then .refused .noRight
      else if f.any (fun d => !(s.destination d).accepting) then .refused .destUnavailable
      else .replied .ok [fallbackWord f, fallbackWord s.rtu.fallback] { s with rtu := { s.rtu with fallback := f } }
    | _ => .refused .badLength))

end Sys2Proof.Machine
end

