-- ==== Sys2Proof/Machine/Startup.lean ====
section
/-!
DEFINITION. Resets, start-up and the recovery scan (R193 to R197): POWER_ON_RESET, START_UP, CHASSIS_RESET, RECOVERY_SCAN.
-/

namespace Sys2Proof.Machine

/-- The state of a fresh part, with what is the model's own kept: the waiting commands and the count of open orders. -/
def State.fresh (s : State) : State := { State.reset with pending := s.pending, choice := s.choice }

/-- POWER_ON_RESET (R193), from any state. -/
def execPowerOnReset (s : State) : Result := .next s.fresh

/-- The part after start-up (R195): every block at its power-on values, READY. Uptime and the clock have taken theirs at
power-on reset and have counted since, in step (R187, R188, log 5). -/
def State.started (s : State) : State := { s.fresh with part := .ready, tb := s.tb, answer := s.answer }

/-- START_UP (R195), while the part is STARTING. -/
def execStartUp (s : State) : Result :=
  .next (match s.part with
    | .starting => s.started
    | .recovering => s
    | .ready => s)

/-- The reset line ends every bus access and tenure (R166, R196), and the part is RECOVERING. -/
def State.recovering (s : State) : State :=
  { s with part := .recovering, te := { s.te with request := none, tenure := none } }

/-! ## The stages of the recovery scan (R196) -/

/-- Every station slot. -/
def allSlots : List Nat := List.range Config.slots

/-- Stage 1: steps 2, 4, 5 and 6 of the station reset of every slot, carried out together (R197). -/
def State.scanStations (s : State) : State :=
  let s1 := allSlots.foldl (fun s n => s.emptyPort n false) (s.markReset allSlots)
  (allSlots.foldl State.restoreFlags (s1.returnCheckouts (fun _ => true))).markReset []

/-- Stage 2: the engine is emptied without handling any job's end (R166). -/
def State.scanEngine (s : State) : State := { s with te := { s.te with jobs := [], lastGranted := 3 } }

/-- Stage 3 for one reception context (R45): the page record returns, the context is freed, the document completes with
INCOMPLETE or is freed. -/
def State.scanContext (s : State) (n : Nat) : State :=
  match s.context n with
  | none => s
  | some c =>
    ((c.openPage.elim s (fun p => s.setPage p.record none)).setContext n none).finishDocument c.handle.index true

/-- The page records listed in a document that is not FREE (R89). -/
def State.listedPages (s : State) : List Nat :=
  (s.dt.documents.cells.filter (fun c => decide (c.2.state ≠ .free))).flatMap (fun c => c.2.pages)

/-- Page records that no document lists return to the pool (R89). -/
def State.scanPages (s : State) : State :=
  let listed := s.listedPages
  { s with dt := { s.dt with pages := ⟨s.dt.pages.cells.filter (fun c => listed.contains c.1)⟩ } }

/-- The first `k` contexts of stage 3 are freed, in the open order of R43 (log 12). -/
def State.scanFirstContexts (s : State) (k : Nat) : State :=
  ((s.receptionsWhere (fun _ => true)).take k).foldl State.scanContext s

/-- Stage 3: every reception context is freed, and unlisted page records return. -/
def State.scanContexts (s : State) : State :=
  (s.scanFirstContexts (s.receptionsWhere (fun _ => true)).length).choiceMade.scanPages

/-- The blocks of every committed page (R18). -/
def State.committedBlocks (s : State) : List Block := s.listedPages.flatMap s.pageChain

/-- Stage 4: S is set to 0. -/
def State.scanReservation (s : State) : State := { s with bsm := { s.bsm with reserved := 0 } }

/-- Stages 4 and 5: S is set to 0, and the free-block stack is rebuilt (R18). -/
def State.scanStack (s : State) : State :=
  { s.scanReservation with bsm := s.scanReservation.bsm.rebuild s.committedBlocks }

/-- Stage 6: the intake hold test, held being compared with its value when the part left READY (R196, R197). -/
def State.scanHold (s : State) : State :=
  ({ s with bsm := { s.bsm with storeHold := s.bsm.storeTest } } : State).announceHeld s.heldAtLeave

/-- The document records in a state, ascending. -/
def State.documentsIn (s : State) (st : DocState) : List Nat :=
  (s.dt.documents.cells.filter (fun c => decide (c.2.state = st))).map (fun c => c.1)

/-- The first `k` PURGE_PENDING documents of stage 7 are freed. The part is READY, so each freeing has its intake hold test
(R196). -/
def State.scanFirstPurges (s : State) (k : Nat) : State :=
  ((s.documentsIn .purgePending).take k).foldl State.freeDocument { s with part := .ready }

/-- Every PURGE_PENDING document of stage 7 is freed. -/
def State.scanPurges (s : State) : State := s.scanFirstPurges (s.documentsIn .purgePending).length

/-- The first `k` DONE documents of stage 7 have their release tests. -/
def State.scanFirstReleases (s : State) (k : Nat) : State := ((s.documentsIn .done).take k).foldl State.releaseTest s

/-- Stage 7: every PURGE_PENDING document is freed, then every DONE document has its release test (R89). -/
def State.scanRelease (s : State) : State := s.scanPurges.scanFirstReleases (s.scanPurges.documentsIn .done).length

/-- The state a run of the scan has brought about when it has come to a point (R196). -/
def State.scanUpTo (s : State) : Config.ScanPoint → State
  | .notBegun => s
  | .stations => s.scanStations
  | .engine => s.scanStations.scanEngine
  | .contexts k => s.scanStations.scanEngine.scanFirstContexts k
  | .pages => s.scanStations.scanEngine.scanContexts
  | .reservation => s.scanStations.scanEngine.scanContexts.scanReservation
  | .stack => s.scanStations.scanEngine.scanContexts.scanStack
  | .hold => s.scanStations.scanEngine.scanContexts.scanStack.scanHold
  | .purges k => s.scanStations.scanEngine.scanContexts.scanStack.scanHold.scanFirstPurges k
  | .releases k => s.scanStations.scanEngine.scanContexts.scanStack.scanHold.scanPurges.scanFirstReleases k

/-! ## The commands -/

/-- RECOVERY_SCAN (R196), while the part is RECOVERING. -/
def execRecoveryScan (s : State) : Result :=
  .next (match s.part with
    | .starting => s
    | .ready => s
    | .recovering => s.scanStations.scanEngine.scanContexts.scanStack.scanHold.scanRelease)

/-- A chassis reset while RECOVERING abandons the scan where it stands (R197): what the run has done stays done, and the part
stays RECOVERING, the scan to begin anew at stage 1 (RECOVERY_SCAN). Where it stands is a free value (log 7). -/
def State.scanBroken (s : State) : State := (s.scanUpTo (Config.scanReached s.choice)).choiceMade.recovering

/-- CHASSIS_RESET (R193, R196, R197): without effect while STARTING; the value of held is kept from the moment READY is left. -/
def execChassisReset (s : State) : Result :=
  .next (match s.part with
    | .starting => s
    | .recovering => s.scanBroken
    | .ready => { s.recovering with heldAtLeave := s.held })

end Sys2Proof.Machine
end

