-- ==== Sys2Proof/Machine/Stations.lean ====
section
/-!
DEFINITION. The station commands: BAD_COMMAND (R171), ECHO (R185), READ_STATUS (R183), STATION_CONFIG (R179, R180),
STATION_RESET (R182) and CLEAR_FAULT (R184).
-/

namespace Sys2Proof.Machine

/-- BAD_COMMAND: a record whose code is not of this manual (R171). -/
def execBadCommand (slot : Nat) (s : State) : Result :=
  .next (s.takeRecord slot (fun c => !commandCodes.contains c) (fun _ _ => .refused .badCommand))

/-- ECHO (R185): 1 to 16 words, returned unchanged. -/
def execEcho (slot : Nat) (s : State) : Result :=
  .next (s.command slot 0x01 (fun s r =>
    if 15 < r.words.length then .refused .badLength
    else if !(s.rights slot).any then .refused .noRight
    else .replied .ok r.words s))

/-- READ_STATUS (R183). -/
def execReadStatus (slot : Nat) (s : State) : Result :=
  .next (s.command slot 0x02 (fun s r =>
    if r.words ≠ [] then .refused .badLength
    else if !(s.rights slot).any then .refused .noRight
    else .replied .ok
      [word s.part.code, word (bit s.spu.fault), word (bit s.held), word (bit s.bsm.storeHold), word (bit s.bsm.adminHold),
       word (bit s.spu.fault), word s.contextsInUse, word s.documentsInUse, word s.te.jobs.length,
       word ([0, 1, 2, 3].filter s.channelBusy).length, word slot, word (s.rights slot).sum] s))

/-- The six fields a STATION_CONFIG replaces (R179). -/
def Station.configured (st : Station) (rights : Rights) (start stop : Nat) (base mask : BitVec 16) (enables : Enables) :
    Station :=
  { st with rights := rights, apertureStart := start, apertureEnd := stop, relocationBase := base, selectMask := mask,
            enables := enables }

/-- No slot would hold ADMINISTER with the new rights of slot `n` in place (R179). -/
def State.lastAdministrator (s : State) (n : Nat) (rights : Rights) : Bool :=
  !rights.administer && (s.administrators.filter (fun m => decide (m ≠ n))).isEmpty

/-- DELIVER is removed from a slot that holds it: its destinations are unbound (R110, R180). -/
def State.unbindIfRemoved (s : State) (n : Nat) (before after : Rights) : State :=
  if before.deliver && !after.deliver then s.unbindAll n else s

/-- STATION_CONFIG (R179, R180). Enables written with empty rights are stored and reported, and the output heeds them only
once the slot is in use (log 39). -/
def execStationConfig (slot : Nat) (s : State) : Result :=
  .next (s.command slot 0x03 (fun s r =>
    match r.words with
    | [w1, w2, w3, w4, w5, w6, w7] =>
      let n := clamp 0 15 w1.toNat
      let rights := decodeRights w2
      let start := clamp 0 65535 w3.toNat
      let stop := clamp 0 65535 w4.toNat
      let base := w5.extractLsb' 0 16
      let mask := w6.extractLsb' 0 16
      let enables := decodeEnables w7
      if !(s.rights slot).administer then .refused .noRight
      else if stop < start then .refused .badField
      else if s.lastAdministrator n rights then .refused .lastAdmin
      else
        let old := s.station n
        let unbound := if old.rights.deliver && !rights.deliver then (s.boundDestinations n).length else 0
        let s1 := (s.setStation n (old.configured rights start stop base mask enables)).unbindIfRemoved n old.rights rights
        let s2 := if rights.any then s1 else s1.stationReset n false
        if rights.any || decide (n ≠ slot) then
          .replied .ok
            [word n, word rights.sum, word start, word stop, word base.toNat, word mask.toNat, word enables.sum, word unbound] s2
        else .silent s2
    | _ => .refused .badLength))

/-- STATION_RESET (R182). -/
def execStationReset (slot : Nat) (s : State) : Result :=
  .next (s.command slot 0x04 (fun s r =>
    match r.words with
    | [w1] =>
      let n := clamp 0 15 w1.toNat
      if !(s.rights slot).administer then .refused .noRight
      else
        let c := s.resetCounts n
        .replied .ok [word n, word c.1, word c.2.1, word c.2.2] (s.stationReset n (decide (n = slot)))
    | _ => .refused .badLength))

/-- The slots CLEAR_FAULT names (R184): one, or every slot. -/
def faultSlots (w : Word) : List Nat := if w.toNat < 16 then [w.toNat] else List.range Config.slots

/-- NOTICE_LOST of some slots is cleared (R184). -/
def State.clearNoticeLost (s : State) (ns : List Nat) : State :=
  ns.foldl (fun s n => s.setStation n { s.station n with noticeLost := false }) s

/-- The part fault condition is cleared with its three effects; where held changes, STORE_STATE follows (R184, R13). -/
def State.clearFault (s : State) : State :=
  ({ s with spu := { s.spu with fault := false } } : State).announceHeld s.held

/-- CLEAR_FAULT (R184). Word 3 counts the named flags that were set before the command, all of which it clears. DESIGN CHOICE,
unsafe: a flag that the loss of the command's own STORE_STATE sets again still counts (log 43); R184 does not say. -/
def execClearFault (slot : Nat) (s : State) : Result :=
  .next (s.command slot 0x05 (fun s r =>
    match r.words with
    | [w1] =>
      if !(s.rights slot).administer then .refused .noRight
      else
        let ns := faultSlots w1
        let lost := (ns.filter (fun n => (s.station n).noticeLost)).length
        .replied .ok [word (bit s.spu.fault), word (clamp 0 16 w1.toNat), word lost] (s.clearNoticeLost ns).clearFault
    | _ => .refused .badLength))

end Sys2Proof.Machine
end

