-- ==== Sys2Proof/Machine/Store.lean ====
section
/-!
DEFINITION. The commands of the block store (R14 to R16) and of the time base (R190, R191).
-/

namespace Sys2Proof.Machine

/-- STORE_STATUS (R16). -/
def execStoreStatus (slot : Nat) (s : State) : Result :=
  .next (s.command slot 0x10 (fun s r =>
    if r.words ≠ [] then .refused .badLength
    else if !(s.rights slot).any then .refused .noRight
    else .replied .ok
      [word s.bsm.free, word s.bsm.reserved, word s.bsm.available, word s.bsm.lowMark, word s.bsm.releaseMark,
       word s.bsm.floor, word s.bsm.intakeReserve, word (bit s.bsm.storeHold), word (bit s.bsm.adminHold),
       word (bit s.spu.fault), word (bit s.held),
       word ((List.range Config.contexts).filter
         (fun n => (s.context n).any (fun c => decide (0 < c.reservation)))).length] s))

/-- The four marks after clamping in their order (R14). -/
def Bsm.withMarks (b : Bsm) (low release floor reserve : Nat) : Bsm :=
  let low' := clamp 0 65536 low
  { b with
    lowMark := low'
    releaseMark := clamp low' 131072 release
    floor := clamp 0 low' floor
    intakeReserve := clamp 0 1024 reserve }

/-- SET_STORE_MARKS (R14). -/
def execSetStoreMarks (slot : Nat) (s : State) : Result :=
  .next (s.command slot 0x11 (fun s r =>
    match r.words with
    | [w1, w2, w3, w4] =>
      if !(s.rights slot).administer then .refused .noRight
      else
        let b := s.bsm.withMarks w1.toNat w2.toNat w3.toNat w4.toNat
        let s' := ({ s with bsm := b } : State).holdTest
        .replied .ok [word b.lowMark, word b.releaseMark, word b.floor, word b.intakeReserve, word (bit s'.held)] s'
    | _ => .refused .badLength))

/-- The ADMIN cause is set or cleared; where held changes, STORE_STATE follows (R15, R13). -/
def State.setAdminHold (s : State) (v : Bool) : State :=
  ({ s with bsm := { s.bsm with adminHold := v } } : State).announceHeld s.held

/-- SET_INTAKE_HOLD (R15): 0 is CLEAR, every other value SET. -/
def execSetIntakeHold (slot : Nat) (s : State) : Result :=
  .next (s.command slot 0x12 (fun s r =>
    match r.words with
    | [w1] =>
      if !(s.rights slot).administer then .refused .noRight
      else
        let s' := s.setAdminHold (decide (w1.toNat ≠ 0))
        .replied .ok [word (bit s'.held), word (bit s'.bsm.storeHold), word (bit s'.bsm.adminHold), word (bit s'.spu.fault)] s'
    | _ => .refused .badLength))

/-- The clock fields a SET_CLOCK may store (R190). -/
def clockFieldsOk (day dow minute ms : Nat) : Bool :=
  decide (day ≤ 65535) && decide (dow ≤ 6) && decide (minute ≤ 1439) && decide (ms ≤ 59999)

/-- SET_CLOCK (R190). -/
def execSetClock (slot : Nat) (s : State) : Result :=
  .next (s.command slot 0x13 (fun s r =>
    match r.words with
    | [w1, w2, w3, w4] =>
      if !(s.rights slot).administer then .refused .noRight
      else if !clockFieldsOk w1.toNat w2.toNat w3.toNat w4.toNat then .refused .badField
      else
        .replied .ok ([w1, w2, w3, w4, word (bit s.tb.clock.isSet)] ++ uptimeWords s.tb.uptime)
          { s with tb := { s.tb with clock := ⟨w1.toNat, w2.toNat, w3.toNat, w4.toNat, true⟩ } }
    | _ => .refused .badLength))

/-- READ_CLOCK (R191). -/
def execReadClock (slot : Nat) (s : State) : Result :=
  .next (s.command slot 0x14 (fun s r =>
    if r.words ≠ [] then .refused .badLength
    else if !(s.rights slot).any then .refused .noRight
    else
      let c := s.tb.clock
      .replied .ok ([word c.day, word c.dayOfWeek, word c.minute, word c.millisecond, word (bit c.isSet)]
        ++ uptimeWords s.tb.uptime) s))

end Sys2Proof.Machine
end

