-- ==== Sys2Proof/Machine/Time.lean ====
section
/-!
DEFINITION. The time base and the expiries that meet it (R187, R188, R192): UPTIME_TICK, IDLE_TIMER_EXPIRY and
RETENTION_EXPIRY. HOLD_EXPIRY stands with the checkouts (Delivery.lean).
-/

namespace Sys2Proof.Machine

/-- A day carry (R188): the day number and the day of week rise, each wrapping by itself. -/
def Clock.nextDay (c : Clock) : Clock :=
  { c with
    day := if 65535 ≤ c.day then 0 else c.day + 1
    dayOfWeek := if 6 ≤ c.dayOfWeek then 0 else c.dayOfWeek + 1 }

/-- A minute carry (R188). -/
def Clock.nextMinute (c : Clock) : Clock :=
  if 1439 ≤ c.minute then ({ c with minute := 0 } : Clock).nextDay else { c with minute := c.minute + 1 }

/-- One millisecond of the clock (R188). -/
def Clock.advance (c : Clock) : Clock :=
  if 59999 ≤ c.millisecond then ({ c with millisecond := 0 } : Clock).nextMinute
  else { c with millisecond := c.millisecond + 1 }

/-- One millisecond of uptime, which stays at its greatest value (R187). -/
def nextUptime (u : Nat) : Nat := if Config.maxUptime ≤ u then u else u + 1

/-- UPTIME_TICK (R187, R188), in every state of the part. -/
def execUptimeTick (s : State) : Result :=
  .next { s with tb := ⟨nextUptime s.tb.uptime, s.tb.clock.advance⟩ }

/-- The idle deadline of a reception may expire (R41, R192): the part is READY and the deadline reached. -/
def State.idleExpired (s : State) (c : Context) : Bool :=
  decide (s.part = .ready) && c.idleDeadline.any (fun t => decide (t ≤ s.tb.uptime))

/-- A reception ends by its idle expiry, and the opening station is sent RECEPTION_TIMEOUT (R41). -/
def State.idleEnd (s : State) (n : Nat) (c : Context) : State :=
  let pages := (s.document c.handle.index).pages.length
  let s1 := s.endReception n c true
  s1.send .receptionTimeout
    [c.handle.word, word c.lineId, word pages, word (bit (decide (pages = 0))), word (s1.entriesQueued c.handle.index)]
    [c.openingSlot]

/-- IDLE_TIMER_EXPIRY (R41) of a reception context. -/
def execIdleTimerExpiry (ctx : Nat) (s : State) : Result :=
  .next (match s.context ctx with
    | none => s
    | some c => if s.idleExpired c then s.idleEnd ctx c else s)

/-- RETENTION_EXPIRY (R73, R192) of a document record: its release test, which asks for DONE and a deadline reached. -/
def execRetentionExpiry (doc : Nat) (s : State) : Result :=
  .next (if s.part = .ready then s.releaseTest doc else s)

end Sys2Proof.Machine
end

