-- ==== Sys2Proof/Machine/Dispatch.lean ====
section
/-!
DEFINITION. The dispatch of a command to its meaning: one arm for each row of spec/opcode_table.json.
-/

namespace Sys2Proof.Machine

def exec (i : Instr) (s : State) : Host.Outcome State Fault Refusal :=
  match i with
  | .powerOnReset => Sys2Proof.Machine.execPowerOnReset s
  | .startUp => Sys2Proof.Machine.execStartUp s
  | .chassisReset => Sys2Proof.Machine.execChassisReset s
  | .recoveryScan => Sys2Proof.Machine.execRecoveryScan s
  | .uptimeTick => Sys2Proof.Machine.execUptimeTick s
  | .idleTimerExpiry ctx => Sys2Proof.Machine.execIdleTimerExpiry ctx s
  | .holdExpiry doc pos => Sys2Proof.Machine.execHoldExpiry doc pos s
  | .retentionExpiry doc => Sys2Proof.Machine.execRetentionExpiry doc s
  | .requestStart slot acc => Sys2Proof.Machine.execRequestStart slot acc s
  | .requestWord slot acc => Sys2Proof.Machine.execRequestWord slot acc s
  | .reply slot => Sys2Proof.Machine.execReply slot s
  | .portStatus slot => Sys2Proof.Machine.execPortStatus slot s
  | .attentionAck slot acc => Sys2Proof.Machine.execAttentionAck slot acc s
  | .portReset slot acc => Sys2Proof.Machine.execPortReset slot acc s
  | .writeIgnored slot off acc => Sys2Proof.Machine.execWriteIgnored slot off acc s
  | .unusedSlotAccess slot off acc => Sys2Proof.Machine.execUnusedSlotAccess slot off acc s
  | .portAccessRetry slot off acc => Sys2Proof.Machine.execPortAccessRetry slot off acc s
  | .badCommand slot => Sys2Proof.Machine.execBadCommand slot s
  | .echo slot => Sys2Proof.Machine.execEcho slot s
  | .readStatus slot => Sys2Proof.Machine.execReadStatus slot s
  | .stationConfig slot => Sys2Proof.Machine.execStationConfig slot s
  | .stationReset slot => Sys2Proof.Machine.execStationReset slot s
  | .clearFault slot => Sys2Proof.Machine.execClearFault slot s
  | .storeStatus slot => Sys2Proof.Machine.execStoreStatus slot s
  | .setStoreMarks slot => Sys2Proof.Machine.execSetStoreMarks slot s
  | .setIntakeHold slot => Sys2Proof.Machine.execSetIntakeHold slot s
  | .setClock slot => Sys2Proof.Machine.execSetClock slot s
  | .readClock slot => Sys2Proof.Machine.execReadClock slot s
  | .openReception slot => Sys2Proof.Machine.execOpenReception slot s
  | .setSender slot => Sys2Proof.Machine.execSetSender slot s
  | .pageData slot => Sys2Proof.Machine.execPageData slot s
  | .pageEnd slot => Sys2Proof.Machine.execPageEnd slot s
  | .endReception slot => Sys2Proof.Machine.execEndReception slot s
  | .abortReception slot => Sys2Proof.Machine.execAbortReception slot s
  | .setProfile slot => Sys2Proof.Machine.execSetProfile slot s
  | .getProfile slot => Sys2Proof.Machine.execGetProfile slot s
  | .docInfo slot => Sys2Proof.Machine.execDocInfo slot s
  | .pageInfo slot => Sys2Proof.Machine.execPageInfo slot s
  | .setDocAttr slot => Sys2Proof.Machine.execSetDocAttr slot s
  | .purge slot => Sys2Proof.Machine.execPurge slot s
  | .listDocs slot => Sys2Proof.Machine.execListDocs slot s
  | .setRetention slot => Sys2Proof.Machine.execSetRetention slot s
  | .routeSet slot => Sys2Proof.Machine.execRouteSet slot s
  | .routeClear slot => Sys2Proof.Machine.execRouteClear slot s
  | .routeGet slot => Sys2Proof.Machine.execRouteGet slot s
  | .routeLookup slot => Sys2Proof.Machine.execRouteLookup slot s
  | .setDefaultRoute slot => Sys2Proof.Machine.execSetDefaultRoute slot s
  | .setFallback slot => Sys2Proof.Machine.execSetFallback slot s
  | .destConfig slot => Sys2Proof.Machine.execDestConfig slot s
  | .destOpen slot => Sys2Proof.Machine.execDestOpen slot s
  | .destPause slot => Sys2Proof.Machine.execDestPause slot s
  | .destClose slot => Sys2Proof.Machine.execDestClose slot s
  | .destStatus slot => Sys2Proof.Machine.execDestStatus slot s
  | .reroute slot => Sys2Proof.Machine.execReroute slot s
  | .take slot => Sys2Proof.Machine.execTake slot s
  | .fetchPages slot => Sys2Proof.Machine.execFetchPages slot s
  | .confirm slot => Sys2Proof.Machine.execConfirm slot s
  | .returnCheckout slot => Sys2Proof.Machine.execReturn slot s
  | .withdraw slot => Sys2Proof.Machine.execWithdraw slot s
  | .cancelTransfer slot => Sys2Proof.Machine.execCancelTransfer slot s
  | .setBusPolicy slot => Sys2Proof.Machine.execSetBusPolicy slot s
  | .busGrant => Sys2Proof.Machine.execBusGrant s
  | .burstComplete words => Sys2Proof.Machine.execBurstComplete words s
  | .burstRetry => Sys2Proof.Machine.execBurstRetry s
  | .burstError => Sys2Proof.Machine.execBurstError s

end Sys2Proof.Machine
end

