-- ==== Sys2Proof/Safety.lean ====
section
/-!
DEFINITION. The terms in which claims are made about the part: what of its state is configuration, the invariants of a sound
part, when a record is taken, and what a plain reply leaves behind.
-/

namespace Sys2Proof.Machine

/-! ## Configuration -/

/-- The settings and the clocks of the part: all that no traffic (reception, delivery, notice) changes. -/
structure Settings where
  part : PartState
  lowMark : Nat
  releaseMark : Nat
  floor : Nat
  intakeReserve : Nat
  adminHold : Bool
  retention : Table Nat
  rtu : Rtu
  tb : Tb
  level : Nat
  mode : BusMode
  heldAtLeave : Bool
  answer : Answer
  pending : List Instr
  deriving DecidableEq, Repr

/-- The settings of a state. -/
def State.settings (s : State) : Settings where
  part := s.part
  lowMark := s.bsm.lowMark
  releaseMark := s.bsm.releaseMark
  floor := s.bsm.floor
  intakeReserve := s.bsm.intakeReserve
  adminHold := s.bsm.adminHold
  retention := s.dt.retention
  rtu := s.rtu
  tb := s.tb
  level := s.te.level
  mode := s.te.mode
  heldAtLeave := s.heldAtLeave
  answer := s.answer
  pending := s.pending

/-- What STATION_CONFIG writes of a slot (R167, R179). -/
structure SlotConfig where
  rights : Rights
  apertureStart : Nat
  apertureEnd : Nat
  relocationBase : BitVec 16
  selectMask : BitVec 16
  enables : Enables
  deriving DecidableEq, Repr

/-- The configuration of a slot. -/
def Station.config (st : Station) : SlotConfig :=
  ⟨st.rights, st.apertureStart, st.apertureEnd, st.relocationBase, st.selectMask, st.enables⟩

/-- What DEST_CONFIG writes of a destination (R108, R117), its state aside. -/
structure DestSettings where
  label : List Byte
  bound : Option Nat
  holdTime : Nat
  attemptLimit : Nat
  checkoutLimit : Nat
  deriving DecidableEq, Repr

/-- The settings of a destination. -/
def Destination.settings (d : Destination) : DestSettings := ⟨d.label, d.bound, d.holdTime, d.attemptLimit, d.checkoutLimit⟩

/-- Two states carry the same configuration: settings and clocks, every slot's, every destination's. -/
structure SameConfig (s t : State) : Prop where
  settings : t.settings = s.settings
  station : ∀ n, (t.station n).config = (s.station n).config
  destination : ∀ n, (t.destination n).settings = (s.destination n).settings

/-! ## Invariants -/

/-- A route as SET_DEFAULT_ROUTE and ROUTE_SET store it (R90, R98). -/
abbrev Route.Sound (r : Route) : Prop :=
  (members r.business).length ≤ 8 ∧ (members r.afterHours).length ≤ 8 ∧ r.start ≤ 1439 ∧ r.stop ≤ 1439 ∧ r.retentionClass ≤ 7

/-- A clock in its ranges (R188). -/
abbrev Clock.Sound (c : Clock) : Prop := c.day ≤ 65535 ∧ c.dayOfWeek ≤ 6 ∧ c.minute ≤ 1439 ∧ c.millisecond ≤ 59999

/-- A reception profile in its ranges (R60). -/
abbrev Profile.Sound (p : Profile) : Prop :=
  p.acceptance.acceptLimit ≤ 1000 ∧ p.acceptance.runLimit ≤ 1000 ∧ p.acceptance.minimumLines ≤ 1000
    ∧ p.acceptance.retryLimit ≤ 7 ∧ 5 ≤ p.idleTimeout ∧ p.idleTimeout ≤ 600

/-- A route entry as ROUTE_SET stores it (R90): 1 to 16 digits and a sound route. -/
abbrev RouteEntry.Sound (e : RouteEntry) : Prop :=
  1 ≤ e.digits.length ∧ e.digits.length ≤ 16 ∧ (∀ c ∈ e.digits, 0x30 ≤ c.toNat ∧ c.toNat ≤ 0x39) ∧ e.route.Sound

/-- The route table (R90, R101): every entry below 1,024, EMPTY or sound, and no two entries with the same prefix. -/
abbrev Rtu.Sound (x : Rtu) : Prop :=
  (∀ c ∈ x.routes.cells, c.1 < 1024 ∧ ∀ e ∈ c.2.toList, e.Sound)
    ∧ x.routes.cells.Pairwise (fun a b => a.2.map (fun e => e.digits) ≠ b.2.map (fun e => e.digits))
    ∧ x.fallback.all (fun f => decide (f < 32)) = true ∧ x.defaultRoute.Sound ∧ ∀ c ∈ x.profiles.cells, c.2.Sound

/-- Settings in their ranges: the marks in their order (R5, R14), the clock (R188), uptime (R187), the bus request level
(R150), the retention durations (R72), and the route table with the fallback, the default route and the profiles (R60, R90,
R91, R98). -/
abbrev Settings.Sound (x : Settings) : Prop :=
  x.floor ≤ x.lowMark ∧ x.lowMark ≤ x.releaseMark ∧ x.lowMark ≤ 65536 ∧ x.releaseMark ≤ 131072 ∧ x.intakeReserve ≤ 1024
    ∧ x.tb.clock.Sound ∧ x.tb.uptime ≤ 281474976710655 ∧ x.level ≤ 3 ∧ (∀ c ∈ x.retention.cells, c.2 ≤ 65535) ∧ x.rtu.Sound

/-- A slot's configuration in its ranges (R167): an aperture whose end is not below its start. -/
abbrev SlotConfig.Sound (x : SlotConfig) : Prop := x.apertureStart ≤ x.apertureEnd ∧ x.apertureEnd ≤ 65535

/-- The settings of a destination in their ranges (R108). -/
abbrev DestSettings.Sound (x : DestSettings) : Prop :=
  x.label.length ≤ 16 ∧ 10 ≤ x.holdTime ∧ x.holdTime ≤ 3600 ∧ 1 ≤ x.attemptLimit ∧ x.attemptLimit ≤ 15 ∧ 1 ≤ x.checkoutLimit
    ∧ x.checkoutLimit ≤ 16

/-- The configuration of the part in its ranges: settings, slots and destinations; a destination is bound to a slot that
holds DELIVER (R110), the fallback, as long as one is set, is OPEN or PAUSED (R107), and some slot holds ADMINISTER (R179). -/
abbrev State.InRange (s : State) : Prop :=
  s.settings.Sound ∧ (∀ c ∈ s.spu.stations.cells, c.2.config.Sound) ∧ (∀ c ∈ s.dqu.destinations.cells, c.2.settings.Sound)
    ∧ (∀ d, d < 32 → ∀ n ∈ (s.destination d).bound.toList, n < 16 ∧ (s.rights n).deliver = true)
    ∧ (∀ f ∈ s.rtu.fallback.toList, (s.destination f).accepting = true)
    ∧ ∃ n, n < 16 ∧ (s.rights n).administer = true

/-- Every table of the state, the store memory among them, is in its canonical form. -/
abbrev State.Canonical (s : State) : Prop :=
  s.spu.stations.WF Station.unused ∧ s.bsm.links.WF none ∧ s.bsm.store.WF 0 ∧ s.iu.contexts.WF none
    ∧ s.dt.documents.WF Document.free ∧ s.dt.pages.WF none ∧ s.dt.retention.WF 0 ∧ s.rtu.routes.WF none
    ∧ s.rtu.profiles.WF Profile.powerOn ∧ s.dqu.destinations.WF Destination.powerOn

/-- The ports of the part: queued and reserved replies are at most 32 and requests at most 8, the place of an open assembly
among them (R169, R172); while the part is not RECOVERING, each job in the engine that is not suppressed holds one reserved
reply slot of its station, and nothing else does (R170); a latch stands within the oldest reply (R173); an assembly wants at
least one word more, and a record has the words its header names (R169); the engine holds at most 32 jobs, at most 4 of a
station (R146, R147); a part that is RECOVERING neither requests nor holds the bus, for the reset line ended every tenure
(R166, R196); and no slot above 15 has rights or a request. -/
structure State.PortsSound (s : State) : Prop where
  replies : ∀ n, n < 16 → (s.station n).replies.length + (s.station n).reserved ≤ 32
  requests : ∀ n, (s.station n).requests.length + bit (s.station n).assembly.isSome ≤ 8
  reserved : s.part ≠ .recovering → ∀ n, n < 16 →
    (s.station n).reserved = (s.te.jobs.filter (fun j => decide (j.slot = n) && !j.suppressed)).length
  latch : ∀ n k, (s.station n).latch = some k →
    ∃ r rest, (s.station n).replies = r :: rest ∧ 1 ≤ k ∧ k ≤ r.words.length
  assembly : ∀ n r, (s.station n).assembly = some r → r.words.length + 2 ≤ r.header.length ∧ r.header.length ≤ 64
  records : ∀ n, ∀ r ∈ (s.station n).requests,
    if r.header.badLength then r.words = [] else r.words.length + 1 = r.header.length
  jobs : s.te.jobs.length ≤ 32 ∧ (∀ n, s.jobCount n ≤ 4) ∧ ∀ j ∈ s.te.jobs, j.slot < 16
  bus : s.part = .recovering → s.te.request = none ∧ s.te.tenure = none
  slots : ∀ n, 16 ≤ n → (s.rights n).any = false ∧ (s.station n).requests = []

/-- The open pages, context by context. -/
def State.openPages (s : State) : List OpenPage := s.iu.contexts.cells.filterMap (fun c => c.2.bind (fun x => x.openPage))

/-- The page records that documents list, document by document. -/
def State.pagesOfDocuments (s : State) : List Nat := s.dt.documents.cells.flatMap (fun c => c.2.pages)

/-- The places a block can be in (R1): the free-block stack, the open pages, and the pages of documents. -/
def State.places (s : State) : List Nat :=
  s.bsm.stack ++ (s.openPages.flatMap (fun p => p.blocks) ++ s.pagesOfDocuments.flatMap s.pageChain).map Fin.val

/-- The remaining reservations of the reception contexts together (R4). -/
def State.reservations (s : State) : Nat := (s.iu.contexts.cells.map (fun c => c.2.elim 0 (fun x => x.reservation))).sum

/-- The store of the part: a reception BETWEEN_PAGES has no page open (R20), and a FREE document lists no page; no page record
is held twice, by documents or open pages, and every one held is in use (R66); the chain of an open page follows the link table
(R3); no block is in two places (R1, R2), and while the part is not RECOVERING each of the 131,072 is in one, S is the sum of
the remaining reservations, and S is at most F (R1, R4). -/
structure State.StoreSound (s : State) : Prop where
  contexts : ∀ c ∈ s.iu.contexts.cells, c.1 < 64
  between : ∀ n c, s.context n = some c → c.state = .betweenPages → c.openPage = none
  free : ∀ i, (s.document i).state = .free → (s.document i).pages = []
  pages : (s.openPages.map (fun p => p.record) ++ s.pagesOfDocuments).Nodup
  used : ∀ q ∈ s.openPages.map (fun p => p.record) ++ s.pagesOfDocuments, s.page q ≠ none
  chains : ∀ p ∈ s.openPages, s.bsm.chain p.blocks.head? p.blocks.length = p.blocks
  once : s.places.Nodup
  all : s.part ≠ .recovering → s.places.Perm (List.range 131072)
  reserved : s.part ≠ .recovering → s.bsm.reserved = s.reservations ∧ s.bsm.reserved ≤ s.bsm.free

/-- The states the delivery entries of a document in a state can have (R67, R69, R70, R113). -/
def EntryState.allowedIn (e : EntryState) : DocState → Prop
  | .free => False
  | .receiving => e = .waiting ∨ e = .withdrawn
  | .queued => e ≠ .waiting
  | .unrouted | .done | .purgePending => e = .delivered ∨ e = .undeliverable ∨ e = .withdrawn

/-- Document `i`, under generation `g`, has at position `p` an entry for destination `d` that passes a test. -/
def State.HasEntry (s : State) (d i g p : Nat) (test : Entry → Prop) : Prop :=
  g = (s.document i).generation ∧ ∃ e, (s.document i).entry p = some e ∧ e.destination = d ∧ test e

/-- The queues of the part: each context carries the reception of its own RECEIVING document (R19); entries stand at positions
1 to 8 in the states their document's state allows, no two of one document for one destination (R111, R113); an entry is in its
destination's queue, once, in the class of its document's priority, exactly when it is QUEUED, and in its checkout list, once,
under its ticket, exactly when it is CHECKED_OUT (R111, R125); and a CLOSED destination's lists are empty, a DRAINING one's
queue alone (R109). -/
structure State.QueuesSound (s : State) : Prop where
  receptions : ∀ n c, s.context n = some c →
    (s.document c.handle.index).state = .receiving ∧ (s.document c.handle.index).generation = c.handle.generation
  apart : ∀ n m c c', s.context n = some c → s.context m = some c' → c.handle.index = c'.handle.index → n = m
  entries : ∀ i p e, (s.document i).entry p = some e → 1 ≤ p ∧ p ≤ 8 ∧ e.state.allowedIn (s.document i).state
  distinct : ∀ i p q e f, (s.document i).entry p = some e → (s.document i).entry q = some f → e.destination = f.destination →
    p = q
  urgent : ∀ d i g p, ⟨⟨i, g⟩, p⟩ ∈ (s.destination d).urgent ↔
    (s.document i).priority = .urgent ∧ s.HasEntry d i g p (fun e => e.state = .queued)
  normal : ∀ d i g p, ⟨⟨i, g⟩, p⟩ ∈ (s.destination d).normal ↔
    (s.document i).priority = .normal ∧ s.HasEntry d i g p (fun e => e.state = .queued)
  once : ∀ d, (s.destination d).queue.Nodup
  checkouts : ∀ d i g p k, (∃ slot, ⟨⟨i, g⟩, p, slot, k⟩ ∈ (s.destination d).checkouts) ↔
    s.HasEntry d i g p (fun e => e.state = .checkedOut ∧ e.ticket = k)
  checkedOutOnce : ∀ d, ((s.destination d).checkouts.map (fun x => (x.handle, x.position))).Nodup
  closed : ∀ d, (s.destination d).state = .closed → (s.destination d).queue = [] ∧ (s.destination d).checkouts = []
  draining : ∀ d, (s.destination d).state = .draining → (s.destination d).queue = [] ∧ (s.destination d).checkouts ≠ []

/-- What `QueuesSound` says of the queue of one destination: its items name different documents, under their generations, that
are QUEUED and have a QUEUED entry at the position named, and each item stands in the class of its document's priority. -/
abbrev State.QueueSound (s : State) (d : Destination) : Prop :=
  ((d.urgent ++ d.normal).map (fun x => x.handle.index)).Nodup
    ∧ ∀ x ∈ d.urgent ++ d.normal, x.handle.generation = (s.document x.handle.index).generation
      ∧ (s.document x.handle.index).state = .queued ∧ 1 ≤ x.position ∧ x.position ≤ 8
      ∧ ((s.document x.handle.index).entry x.position).any (fun e => decide (e.state = .queued)) = true
      ∧ (x ∈ d.urgent ↔ (s.document x.handle.index).priority = .urgent)
      ∧ (x ∈ d.normal ↔ (s.document x.handle.index).priority = .normal)

/-- What `QueuesSound` says of receptions and checkout lists: the document of a reception is RECEIVING, and the checkouts of one
destination name different documents, under their generations, that are QUEUED and have at the position named an entry CHECKED_OUT
at that destination. -/
abbrev State.CheckoutsSound (s : State) : Prop :=
  (∀ n, n < 64 → ∀ c ∈ (s.context n).toList, (s.document c.handle.index).state = .receiving)
    ∧ ∀ d, d < 32 → ((s.destination d).checkouts.map (fun x => x.handle.index)).Nodup
      ∧ ∀ x ∈ (s.destination d).checkouts, x.handle.generation = (s.document x.handle.index).generation
        ∧ (s.document x.handle.index).state = .queued ∧ 1 ≤ x.position ∧ x.position ≤ 8
        ∧ ((s.document x.handle.index).entry x.position).any (fun e =>
          decide (e.destination = d) && decide (e.state = .checkedOut)) = true

/-- What becomes of QUEUED document `i` once an event has left it as `d` (R70, R73, R74): with something outstanding it stays
so; with no DELIVERED entry it is UNROUTED; else it is DONE, its deadline its retention class's minutes from now, and where that
deadline is now, and neither a legal hold nor a job keeps it, it is freed. -/
abbrev State.Settles (s : State) (i : Nat) (d d' : Document) : Prop :=
  (d.outstandingSet ≠ [] → d' = d)
    ∧ (d.outstandingSet = [] → d.countIn .delivered = 0 →
      d' = { d with state := .unrouted, settleTime := some s.tb.uptime, retentionDeadline := none })
    ∧ (d.outstandingSet = [] → d.countIn .delivered ≠ 0 →
      (0 < s.retentionMinutes d.retentionClass ∨ d.legalHold = true ∨ 0 < s.activeJobs i → d' = { d with
        state := .done, settleTime := some s.tb.uptime
        retentionDeadline := some (s.tb.uptime + 60000 * s.retentionMinutes d.retentionClass) })
      ∧ (s.retentionMinutes d.retentionClass = 0 → d.legalHold = false → s.activeJobs i = 0 →
        d' = { Document.free with generation := d.generation, openingSlot := d.openingSlot }))

/-! ## Checkouts that a reset returns (R143) -/

/-- The checkouts of destination `d` whose taking slot passes a test, in the order in which they were taken. -/
def State.takenBy (s : State) (who : Nat → Bool) (d : Nat) : List Checkout :=
  (s.destination d).checkouts.filter (fun x => who x.takingSlot)

/-- The places of those checkouts whose documents are of one priority. -/
def State.returnedItems (s : State) (who : Nat → Bool) (d : Nat) (p : Priority) : List QueueItem :=
  ((s.takenBy who d).filter (fun x => decide ((s.document x.handle.index).priority = p))).map
    (fun x => ⟨x.handle, x.position⟩)

/-- A return at destination `d` that the fallback `f` takes in the place of `d` (R143, R120): the document has no entry for `f`, and
none of its checkouts came back before from a DRAINING destination, which are returned in ascending order. -/
def State.movesTo (s : State) (who : Nat → Bool) (x : Checkout) (d f : Nat) : Prop :=
  s.usableFallback = some f ∧ (∀ y ∈ (s.document x.handle.index).entryList, y.2.destination ≠ f)
    ∧ ∀ m, m < d → (s.destination m).accepting = false → ∀ y ∈ s.takenBy who m, y.handle.index ≠ x.handle.index

/-- The entry of a checkout at destination `d` once a reset has returned it (R143, R120): QUEUED at an OPEN or PAUSED destination;
else the fallback's, or WITHDRAWN with its settle time. Its attempt count and its ticket are kept. -/
structure State.EntryReturned (s : State) (who : Nat → Bool) (x : Checkout) (d : Nat) (e e' : Entry) : Prop where
  queued : (s.destination d).accepting = true → e' = { e with state := .queued, deadline := none }
  moved : (s.destination d).accepting = false → ∀ f, s.movesTo who x d f → e' = { e with
    destination := f, original := some (e.original.getD d), state := .queued, deadline := none }
  withdrawn : (s.destination d).accepting = false → (∀ f, ¬ s.movesTo who x d f) → e' = { e with
    state := .withdrawn, settleTime := some s.tb.uptime, deadline := none }

/-- From `s` to `t` the checkouts of the slots that pass a test have come back (R143). Every destination's checkout list has lost
them, in its order, and nothing else; at an OPEN or PAUSED one they stand at the head of their class, in the order in which they
were taken, and what joined meanwhile (a completed reception of such a slot, an entry moved to the fallback) at the tail; at another
one no queue changes, and where it is DRAINING and its list has become empty it is CLOSED. A document with such a checkout has
changed in its returned entries alone, where no job ends meanwhile, and it settles where nothing of it is outstanding (R70). -/
structure State.CheckoutsReturned (s t : State) (who : Nat → Bool) : Prop where
  destination : ∀ d, d < 32 → ∃ us ns left, left = (s.destination d).checkouts.filter (fun x => !who x.takingSlot)
    ∧ ((s.destination d).accepting = true → t.destination d = { s.destination d with
        checkouts := left
        urgent := s.returnedItems who d .urgent ++ (s.destination d).urgent ++ us
        normal := s.returnedItems who d .normal ++ (s.destination d).normal ++ ns })
    ∧ ((s.destination d).accepting = false → t.destination d = { s.destination d with
        checkouts := left
        state := if (s.destination d).state = .draining ∧ s.takenBy who d ≠ [] ∧ left = [] then .closed
          else (s.destination d).state })
    ∧ (s.usableFallback ≠ some d → (∀ n, n < 64 → ∀ c ∈ (s.context n).toList, who c.openingSlot = false) → us = [] ∧ ns = [])
    ∧ ∀ m, m < 32 → (s.destination m).accepting = false → ∀ x ∈ s.takenBy who m, s.movesTo who x m d →
        ((s.document x.handle.index).priority = .urgent → ⟨x.handle, x.position⟩ ∈ us)
        ∧ ((s.document x.handle.index).priority = .normal → ⟨x.handle, x.position⟩ ∈ ns)
  document : ∀ i, (∃ d, d < 32 ∧ ∃ x ∈ s.takenBy who d, x.handle.index = i) →
    ∃ m', t.Settles i m' (t.document i) ∧ m' = { s.document i with entries := m'.entries }
      ∧ (∀ d, d < 32 → ∀ x ∈ s.takenBy who d, x.handle.index = i → ∀ e, (s.document i).entry x.position = some e →
          ∃ e', m'.entry x.position = some e' ∧ s.EntryReturned who x d e e')
      ∧ ((s.te.jobs = []) → ∀ p, (∀ d, d < 32 → ∀ x ∈ s.takenBy who d, ¬ (x.handle.index = i ∧ x.position = p)) →
          m'.entry p = (s.document i).entry p)

/-! ## Completion (R36) and the coming back of a checkout (R136) -/

/-- The entry that the re-check makes of WAITING entry `e` at position `p` of a document `d` that completes (R113): QUEUED at an
OPEN or PAUSED destination; at another one the fallback's, where one is usable, the document has no entry for it and no lower
position was given to it, and WITHDRAWN otherwise. -/
structure State.EntryRechecked (s : State) (d : Document) (p : Nat) (e e' : Entry) : Prop where
  queued : (s.destination e.destination).accepting = true → e' = { e with state := .queued }
  moved : (s.destination e.destination).accepting = false → ∀ f, s.usableFallback = some f →
    (∀ y ∈ d.entryList, y.2.destination ≠ f) →
    (∀ y ∈ d.entryList, y.1 < p → y.2.state = .waiting → (s.destination y.2.destination).accepting = true) → e' = { e with
      destination := f, original := some (e.original.getD e.destination), state := .queued, deadline := none }
  withdrawn : (s.destination e.destination).accepting = false →
    (s.usableFallback = none ∨ (∃ f, s.usableFallback = some f ∧ ∃ y ∈ d.entryList, y.2.destination = f)
      ∨ ∃ y ∈ d.entryList, y.1 < p ∧ y.2.state = .waiting ∧ (s.destination y.2.destination).accepting = false) → e' = { e with
      state := .withdrawn, settleTime := some s.tb.uptime, deadline := none }

/-- Document `i` of `s` has completed as `m` (R36): stamped, INCOMPLETE where the reception was interrupted, every WAITING entry
re-checked and no other entry changed, and QUEUED where some entry is, else UNROUTED, which sets no settle time (log 26). -/
structure State.CompletesAs (s : State) (i : Nat) (interrupted : Bool) (m : Document) : Prop where
  rest : m = { s.document i with
    endTime := some s.tb.clock, incomplete := (s.document i).incomplete || interrupted, entries := m.entries
    state := if m.countIn .queued = 0 then .unrouted else .queued }
  waiting : ∀ p e, (p, e) ∈ (s.document i).entryList → e.state = .waiting →
    ∃ e', m.entry p = some e' ∧ s.EntryRechecked (s.document i) p e e'
  others : ∀ p, (∀ e, (p, e) ∈ (s.document i).entryList → e.state ≠ .waiting) → m.entry p = (s.document i).entry p

/-- The places that document `i` of `s`, completed as `m`, takes in the queue of destination `x`, by ascending position. -/
def State.joins (s : State) (i : Nat) (m : Document) (x : Nat) : List QueueItem :=
  ((s.document i).entryList.filter (fun y => decide (y.2.state = .waiting)
    && (m.entry y.1).any (fun e => decide (e.destination = x ∧ e.state = .queued)))).map
      (fun y => ⟨⟨i, (s.document i).generation⟩, y.1⟩)

/-- From `s` to `t` the entries of document `i`, completed as `m`, have joined their queues (R113): at the tail of the document's
class, WORK being set where the queue was empty (R114). No destination has changed otherwise. -/
structure State.JoinsQueues (s t : State) (i : Nat) (m : Document) : Prop where
  destination : ∀ x, t.destination x = { s.destination x with
    urgent := (s.destination x).urgent ++ (if (s.document i).priority = .urgent then s.joins i m x else [])
    normal := (s.destination x).normal ++ (if (s.document i).priority = .normal then s.joins i m x else []) }
  work : ∀ x b, s.joins i m x ≠ [] → (s.destination x).queue = [] → (s.destination x).bound = some b → (t.station b).work = true

/-- From `s` to `t` every reception of a slot that passes a test has ended INTERRUPTED (R43, R45): its document is FREE where it
has no committed page (R37), and has completed otherwise (R36). This is said of a document that one context carries and of which
nothing is CHECKED_OUT, as sound queues have it. -/
def State.ReceptionsEnded (s t : State) (who : Nat → Bool) : Prop :=
  ∀ n c i, n < 64 → s.context n = some c → who c.openingSlot = true → i = c.handle.index →
    (∀ m c', m < 64 → m ≠ n → s.context m = some c' → c'.handle.index ≠ i) →
    (∀ p e, (s.document i).entry p = some e → e.state ≠ .checkedOut) →
    ((s.document i).pages = [] → t.document i = { Document.free with
      generation := (s.document i).generation, openingSlot := (s.document i).openingSlot })
    ∧ ((s.document i).pages ≠ [] → s.CompletesAs i true (t.document i))

/-- From `s` to `t` the checkout of entry `e` at position `p` of document `i` has come back, and the entry is `e'` (R136): at its
attempt limit it is UNDELIVERABLE; below it QUEUED again, at an OPEN or PAUSED destination; else the fallback's, or WITHDRAWN. It
has left the checkout list, a DRAINING destination whose list is empty is CLOSED (R121), a QUEUED entry joined the tail of its class,
WORK being set where that queue was empty (R114), and a QUEUED document with nothing outstanding has settled (R70). -/
structure State.ComesBack (s t : State) (i p : Nat) (e e' : Entry) : Prop where
  undeliverable : (s.destination e.destination).attemptLimit ≤ e.attempts →
    e' = { e with state := .undeliverable, settleTime := some s.tb.uptime, deadline := none }
  requeued : e.attempts < (s.destination e.destination).attemptLimit → (s.destination e.destination).accepting = true →
    e' = { e with state := .queued, deadline := none }
  moved : e.attempts < (s.destination e.destination).attemptLimit → (s.destination e.destination).accepting = false →
    ∀ f, s.usableFallback = some f → (∀ y ∈ (s.document i).entryList, y.2.destination ≠ f) → e' = { e with
      destination := f, original := some (e.original.getD e.destination), state := .queued, deadline := none }
  withdrawn : e.attempts < (s.destination e.destination).attemptLimit → (s.destination e.destination).accepting = false →
    (s.usableFallback = none ∨ ∃ f, s.usableFallback = some f ∧ ∃ y ∈ (s.document i).entryList, y.2.destination = f) →
    e' = { e with state := .withdrawn, settleTime := some s.tb.uptime, deadline := none }
  settled : (s.document i).state = .queued → s.Settles i ((s.document i).setEntry p (some e')) (t.document i)
  kept : (s.document i).state ≠ .queued → t.document i = (s.document i).setEntry p (some e')
  destination : ∀ x left joined, left = (s.destination x).checkouts.filter (fun y =>
      decide (¬ (x = e.destination ∧ y.handle.index = i ∧ y.position = p))) →
    joined = (if e'.state = .queued ∧ e'.destination = x then [⟨⟨i, (s.document i).generation⟩, p⟩] else []) →
    t.destination x = { s.destination x with
      checkouts := left
      urgent := (s.destination x).urgent ++ (if (s.document i).priority = .urgent then joined else [])
      normal := (s.destination x).normal ++ (if (s.document i).priority = .normal then joined else [])
      state := if x = e.destination ∧ (s.destination x).state = .draining ∧ left = [] then .closed
        else (s.destination x).state }
  work : ∀ b, e'.state = .queued → (s.destination e'.destination).queue = [] →
    (s.destination e'.destination).bound = some b → (t.station b).work = true

/-! ## The end of a job (R161) -/

/-- What the reply of a job that ends now counts behind its bytes moved (R157, R159): the bytes stored of the open page, or the pages
written whole. -/
def State.doneSoFar (s : State) (j : Job) : Nat :=
  match j.kind with
  | .intake n => if j.detached then 0 else s.openStored n
  | .delivery d => d.whole

/-- The reply of a job that ends with an outcome (R157, R159). -/
def Job.endReply (j : Job) (outcome : Status) (moved done : Nat) : Reply :=
  match j.kind with
  | .intake _ => ⟨outcome, 0x22, j.tag, [word moved, word done]⟩
  | .delivery d => ⟨outcome, 0x59, j.tag, [word moved, word done, word d.pageCount]⟩

/-- From `s` to `t` job `j`, the only one of the engine, has ended with an outcome (R161): its reply is posted unless it is
suppressed; the reception of an intake job that is not detached is PAGE_OPEN with its idle timer restarted (R32); a checkout that
stands under the job's ticket has its deadline set anew (R134); a PURGE_PENDING document is freed, and a DONE one that may be
released (R76). No other context and no other document has changed. -/
structure State.JobEnds (s t : State) (j : Job) (outcome : Status) (moved done : Nat) : Prop where
  jobs : t.te.jobs = []
  reply : j.suppressed = false → j.endReply outcome moved done ∈ (t.station j.slot).replies
  suppressed : j.suppressed = true → ∀ x ∈ (t.station j.slot).replies, x ∈ (s.station j.slot).replies ∨ x.tag = 0xFFFF
  reception : ∀ n c, j.kind = .intake n → j.detached = false → s.context n = some c → t.context n = some { c with
    state := .pageOpen, idleDeadline := some (s.tb.uptime + 1000 * (s.profile c.profile).idleTimeout) }
  contexts : ∀ m, (j.kind = .intake m → j.detached = true) → t.context m = s.context m
  checkout : ∀ d e, j.kind = .delivery d → (s.document d.handle.index).state ≠ .purgePending →
    (s.document d.handle.index).state ≠ .done → (s.document d.handle.index).entry d.position = some e →
    t.document d.handle.index = (s.document d.handle.index).setEntry d.position (some (if e.state = .checkedOut ∧ e.ticket = d.ticket
      then { e with deadline := some (s.tb.uptime + 1000 * (s.destination e.destination).holdTime) } else e))
  purged : ∀ d, j.kind = .delivery d → (s.document d.handle.index).state = .purgePending → t.document d.handle.index =
    { Document.free with generation := (s.document d.handle.index).generation
                         openingSlot := (s.document d.handle.index).openingSlot }
  released : ∀ d m deadline, j.kind = .delivery d → m = s.document d.handle.index → m.state = .done →
    m.retentionDeadline = some deadline → deadline ≤ s.tb.uptime → m.legalHold = false → m.outstandingSet = [] →
    t.document d.handle.index = { Document.free with generation := m.generation, openingSlot := m.openingSlot }
  documents : ∀ i, (∀ d, j.kind = .delivery d → d.handle.index ≠ i) → t.document i = s.document i

/-! ## Records and replies -/

/-- The record `r` stands at the head of slot `slot`'s request queue and is taken (R170): the part is READY, the reply queue
has room, and a transfer command finds fewer than 4 jobs of the station. -/
abbrev State.HasHead (s : State) (slot : Nat) (r : Record) : Prop :=
  s.part = .ready ∧ (s.station slot).requests.head? = some r ∧ s.replyRoom slot = true
    ∧ (isTransfer r.header.code = true → s.jobCount slot < 4)

/-- The record `r`, with a command code and a length field in range, is taken. -/
abbrev State.Takes (s : State) (slot code : Nat) (r : Record) : Prop :=
  s.HasHead slot r ∧ r.header.code = code ∧ r.header.badLength = false

/-- The state in which the head record of slot `slot` has been answered by `x` and nothing else has changed. -/
def State.replying (s : State) (slot : Nat) (x : Reply) : State :=
  s.setStation slot
    { s.station slot with requests := (s.station slot).requests.tail, replies := (s.station slot).replies ++ [x] }

/-- The state in which the head record of slot `slot` has left the request queue. -/
def State.popped (s : State) (slot : Nat) : State :=
  s.setStation slot { s.station slot with requests := (s.station slot).requests.tail }

/-- From `s` to `t` nothing has changed but what posted and lost notices and replies bring (R175 to R177): reply queues have
grown at their tails, NOTICE_LOST flags and the part fault condition may have been set. -/
structure UpToNotices (s t : State) : Prop where
  rest : t = { s with spu := t.spu }
  underReset : t.spu.underReset = s.spu.underReset
  fault : s.spu.fault = true → t.spu.fault = true
  station : ∀ n, ∃ (xs : List Reply) (lost : Bool), t.station n =
    { s.station n with replies := (s.station n).replies ++ xs, noticeLost := (s.station n).noticeLost || lost }

/-- Every document record but number `i` is as it was. -/
def SameDocumentsBut (s t : State) (i : Nat) : Prop := ∀ j, j ≠ i → t.document j = s.document j

/-- Every destination but the numbers of `ds` is as it was. -/
def SameDestinationsBut (s t : State) (ds : List Nat) : Prop := ∀ m, m ∉ ds → t.destination m = s.destination m

/-- Every byte of the store memory and every link of the block link table is as it was. -/
structure SameStore (s t : State) : Prop where
  bytes : ∀ a, t.bsm.readByte a = s.bsm.readByte a
  links : ∀ b, t.bsm.link b = s.bsm.link b

/-- The milliseconds a clock has counted since day 0 (R188): they wrap after 65,536 days. -/
def Clock.count (c : Clock) : Nat := (c.day * 1440 + c.minute) * 60000 + c.millisecond

/-- The milliseconds a clock has counted since day of week 0 (R188): they wrap after 7 days. -/
def Clock.weekCount (c : Clock) : Nat := (c.dayOfWeek * 1440 + c.minute) * 60000 + c.millisecond

/-- A reception command of slot `slot` names by `h` a reception it opened, carried by context `n`, which holds `c` (R27). -/
abbrev State.Receives (s : State) (slot : Nat) (h : Handle) (n : Nat) (c : Context) : Prop :=
  h.generation = (s.document h.index).generation ∧ (s.document h.index).openingSlot = some slot
    ∧ (s.document h.index).state = .receiving ∧ s.contextOf h = some n ∧ s.context n = some c

/-- A command of slot `slot` names by handle, destination and ticket the checkout of entry `e` at position `p`, may act on it,
and no job of it is in the engine (R131). -/
abbrev State.Holds (s : State) (slot : Nat) (h : Handle) (dest ticket p : Nat) (e : Entry) : Prop :=
  ((s.rights slot).deliver = true ∨ (s.rights slot).administer = true)
    ∧ h.generation = (s.document h.index).generation ∧ (s.document h.index).checkedOut dest ticket = some (p, e)
    ∧ ((s.rights slot).administer = true ∨ (s.checkoutOf dest h.index p).any (fun x => decide (x.takingSlot = slot)) = true)
    ∧ s.jobMark h.index p = false

/-- The words `ws` of a request are a counted string of the characters `cs` (R21): the count word, then the characters four to a
word, the first lowest; what the last word holds beyond the last character is ignored. -/
abbrev CountedAs (ws : List Word) (cs : List Byte) : Prop :=
  cs.length < 4294967296 ∧ ∃ pad : List Byte, pad.length < 4 ∧ (cs.length + pad.length) % 4 = 0
    ∧ ws = word cs.length :: packBytes (cs ++ pad)

/-- A record's words from word `k + 1` on begin with a counted string that ends at its word `m` (R21), by its count. -/
abbrev Record.StringEnds (r : Record) (k m : Nat) : Prop := ∃ w : Word, r.words[k]? = some w ∧ m = k + 1 + (w.toNat + 3) / 4

/-- The reply to record `r` is the last of slot `slot`'s reply queue. -/
abbrev State.LastReply (s : State) (slot : Nat) (r : Record) (status : Status) (words : List Word) : Prop :=
  (s.station slot).replies.getLast? = some (r.reply status words)

end Sys2Proof.Machine

namespace Sys2Proof

/-- The slot whose head record a row takes; none for an event and for an access to the port window. -/
def Instr.requester : Instr → Option Nat
  | .powerOnReset => none
  | .startUp => none
  | .chassisReset => none
  | .recoveryScan => none
  | .uptimeTick => none
  | .idleTimerExpiry _ => none
  | .holdExpiry _ _ => none
  | .retentionExpiry _ => none
  | .requestStart _ _ => none
  | .requestWord _ _ => none
  | .reply _ => none
  | .portStatus _ => none
  | .attentionAck _ _ => none
  | .portReset _ _ => none
  | .writeIgnored _ _ _ => none
  | .unusedSlotAccess _ _ _ => none
  | .portAccessRetry _ _ _ => none
  | .badCommand slot => some slot
  | .echo slot => some slot
  | .readStatus slot => some slot
  | .stationConfig slot => some slot
  | .stationReset slot => some slot
  | .clearFault slot => some slot
  | .storeStatus slot => some slot
  | .setStoreMarks slot => some slot
  | .setIntakeHold slot => some slot
  | .setClock slot => some slot
  | .readClock slot => some slot
  | .openReception slot => some slot
  | .setSender slot => some slot
  | .pageData slot => some slot
  | .pageEnd slot => some slot
  | .endReception slot => some slot
  | .abortReception slot => some slot
  | .setProfile slot => some slot
  | .getProfile slot => some slot
  | .docInfo slot => some slot
  | .pageInfo slot => some slot
  | .setDocAttr slot => some slot
  | .purge slot => some slot
  | .listDocs slot => some slot
  | .setRetention slot => some slot
  | .routeSet slot => some slot
  | .routeClear slot => some slot
  | .routeGet slot => some slot
  | .routeLookup slot => some slot
  | .setDefaultRoute slot => some slot
  | .setFallback slot => some slot
  | .destConfig slot => some slot
  | .destOpen slot => some slot
  | .destPause slot => some slot
  | .destClose slot => some slot
  | .destStatus slot => some slot
  | .reroute slot => some slot
  | .take slot => some slot
  | .fetchPages slot => some slot
  | .confirm slot => some slot
  | .returnCheckout slot => some slot
  | .withdraw slot => some slot
  | .cancelTransfer slot => some slot
  | .setBusPolicy slot => some slot
  | .busGrant => none
  | .burstComplete _ => none
  | .burstRetry => none
  | .burstError => none

/-- The command code a row's record carries (R171); none for the rows that take no record of one code. -/
def Instr.code : Instr → Option Nat
  | .powerOnReset => none
  | .startUp => none
  | .chassisReset => none
  | .recoveryScan => none
  | .uptimeTick => none
  | .idleTimerExpiry _ => none
  | .holdExpiry _ _ => none
  | .retentionExpiry _ => none
  | .requestStart _ _ => none
  | .requestWord _ _ => none
  | .reply _ => none
  | .portStatus _ => none
  | .attentionAck _ _ => none
  | .portReset _ _ => none
  | .writeIgnored _ _ _ => none
  | .unusedSlotAccess _ _ _ => none
  | .portAccessRetry _ _ _ => none
  | .badCommand _ => none
  | .echo _ => some 0x01
  | .readStatus _ => some 0x02
  | .stationConfig _ => some 0x03
  | .stationReset _ => some 0x04
  | .clearFault _ => some 0x05
  | .storeStatus _ => some 0x10
  | .setStoreMarks _ => some 0x11
  | .setIntakeHold _ => some 0x12
  | .setClock _ => some 0x13
  | .readClock _ => some 0x14
  | .openReception _ => some 0x20
  | .setSender _ => some 0x21
  | .pageData _ => some 0x22
  | .pageEnd _ => some 0x23
  | .endReception _ => some 0x24
  | .abortReception _ => some 0x25
  | .setProfile _ => some 0x26
  | .getProfile _ => some 0x27
  | .docInfo _ => some 0x30
  | .pageInfo _ => some 0x31
  | .setDocAttr _ => some 0x32
  | .purge _ => some 0x33
  | .listDocs _ => some 0x34
  | .setRetention _ => some 0x35
  | .routeSet _ => some 0x40
  | .routeClear _ => some 0x41
  | .routeGet _ => some 0x42
  | .routeLookup _ => some 0x43
  | .setDefaultRoute _ => some 0x44
  | .setFallback _ => some 0x45
  | .destConfig _ => some 0x50
  | .destOpen _ => some 0x51
  | .destPause _ => some 0x52
  | .destClose _ => some 0x53
  | .destStatus _ => some 0x54
  | .reroute _ => some 0x55
  | .take _ => some 0x58
  | .fetchPages _ => some 0x59
  | .confirm _ => some 0x5A
  | .returnCheckout _ => some 0x5B
  | .withdraw _ => some 0x5C
  | .cancelTransfer _ => some 0x60
  | .setBusPolicy _ => some 0x61
  | .busGrant => none
  | .burstComplete _ => none
  | .burstRetry => none
  | .burstError => none

/-- The number of words behind the header, for the commands whose length is one number. -/
def Instr.fixedLength : Instr → Option Nat
  | .powerOnReset => none
  | .startUp => none
  | .chassisReset => none
  | .recoveryScan => none
  | .uptimeTick => none
  | .idleTimerExpiry _ => none
  | .holdExpiry _ _ => none
  | .retentionExpiry _ => none
  | .requestStart _ _ => none
  | .requestWord _ _ => none
  | .reply _ => none
  | .portStatus _ => none
  | .attentionAck _ _ => none
  | .portReset _ _ => none
  | .writeIgnored _ _ _ => none
  | .unusedSlotAccess _ _ _ => none
  | .portAccessRetry _ _ _ => none
  | .badCommand _ => none
  | .echo _ => none
  | .readStatus _ => some 0
  | .stationConfig _ => some 7
  | .stationReset _ => some 1
  | .clearFault _ => some 1
  | .storeStatus _ => some 0
  | .setStoreMarks _ => some 4
  | .setIntakeHold _ => some 1
  | .setClock _ => some 4
  | .readClock _ => some 0
  | .openReception _ => none
  | .setSender _ => none
  | .pageData _ => some 2
  | .pageEnd _ => some 1
  | .endReception _ => some 2
  | .abortReception _ => some 1
  | .setProfile _ => some 7
  | .getProfile _ => some 1
  | .docInfo _ => some 2
  | .pageInfo _ => some 2
  | .setDocAttr _ => none
  | .purge _ => some 1
  | .listDocs _ => some 2
  | .setRetention _ => some 2
  | .routeSet _ => none
  | .routeClear _ => some 1
  | .routeGet _ => some 1
  | .routeLookup _ => none
  | .setDefaultRoute _ => some 8
  | .setFallback _ => some 1
  | .destConfig _ => none
  | .destOpen _ => some 1
  | .destPause _ => some 1
  | .destClose _ => some 1
  | .destStatus _ => some 1
  | .reroute _ => some 2
  | .take _ => some 1
  | .fetchPages _ => some 6
  | .confirm _ => some 3
  | .returnCheckout _ => some 4
  | .withdraw _ => some 2
  | .cancelTransfer _ => some 1
  | .setBusPolicy _ => some 2
  | .busGrant => none
  | .burstComplete _ => none
  | .burstRetry => none
  | .burstError => none

/-- The commands that require the ADMINISTER right and no other. -/
def Instr.needsAdminister : Instr → Bool
  | .powerOnReset => false
  | .startUp => false
  | .chassisReset => false
  | .recoveryScan => false
  | .uptimeTick => false
  | .idleTimerExpiry _ => false
  | .holdExpiry _ _ => false
  | .retentionExpiry _ => false
  | .requestStart _ _ => false
  | .requestWord _ _ => false
  | .reply _ => false
  | .portStatus _ => false
  | .attentionAck _ _ => false
  | .portReset _ _ => false
  | .writeIgnored _ _ _ => false
  | .unusedSlotAccess _ _ _ => false
  | .portAccessRetry _ _ _ => false
  | .badCommand _ => false
  | .echo _ => false
  | .readStatus _ => false
  | .stationConfig _ => true
  | .stationReset _ => true
  | .clearFault _ => true
  | .storeStatus _ => false
  | .setStoreMarks _ => true
  | .setIntakeHold _ => true
  | .setClock _ => true
  | .readClock _ => false
  | .openReception _ => false
  | .setSender _ => false
  | .pageData _ => false
  | .pageEnd _ => false
  | .endReception _ => false
  | .abortReception _ => false
  | .setProfile _ => true
  | .getProfile _ => false
  | .docInfo _ => false
  | .pageInfo _ => false
  | .setDocAttr _ => false
  | .purge _ => true
  | .listDocs _ => true
  | .setRetention _ => true
  | .routeSet _ => true
  | .routeClear _ => true
  | .routeGet _ => true
  | .routeLookup _ => true
  | .setDefaultRoute _ => true
  | .setFallback _ => true
  | .destConfig _ => true
  | .destOpen _ => true
  | .destPause _ => true
  | .destClose _ => true
  | .destStatus _ => false
  | .reroute _ => true
  | .take _ => false
  | .fetchPages _ => false
  | .confirm _ => false
  | .returnCheckout _ => false
  | .withdraw _ => true
  | .cancelTransfer _ => false
  | .setBusPolicy _ => true
  | .busGrant => false
  | .burstComplete _ => false
  | .burstRetry => false
  | .burstError => false

end Sys2Proof
end

