-- ==== Sys2Proof/Certificates/Slice0/Obligations.lean ====
section
/-!
DEFINITION. The statements for the provers, each a proposition about the model. A statement says "the model's choice" where it
rests on a log entry.
-/

open Sys2Proof Sys2Proof.Machine

/-! ## Steps, reset and start-up -/

/-- A step carries out the command at the front of the queue on the rest; on an empty queue nothing happens (the model's
choice, logs 1 and 3). -/
def Obligations.StepRunsFrontCommand : Prop :=
  (∀ (s : State) (c : Instr) (rest : List Instr), s.pending = c :: rest → step s = exec c { s with pending := rest })
    ∧ ∀ s : State, s.pending = [] → step s = .next s

/-- The state right after power-on reset: the values R5, R17, R19, R60, R64, R72, R90, R91, R108, R150, R166, R167, R177, R187
and R188 give, its configuration in its ranges, every table canonical, and its ports, store and queues sound. That the tables
stand at these values already while the part is STARTING is the model's reading (log 4). -/
def Obligations.ResetValues : Prop :=
  let s := State.reset
  s.part = .starting ∧ s.tb = ⟨0, ⟨0, 0, 0, 0, false⟩⟩
    ∧ (s.bsm.lowMark, s.bsm.releaseMark, s.bsm.floor, s.bsm.intakeReserve) = (8192, 16384, 1024, 64) ∧ s.held = false
    ∧ s.bsm.free = 131072 ∧ s.bsm.reserved = 0 ∧ s.bsm.available = 131072 ∧ (∀ b, s.bsm.link b = none)
    ∧ (∀ n, s.context n = none) ∧ (∀ p, s.page p = none) ∧ (∀ i, s.routeEntry i = none) ∧ s.rtu.fallback = none
    ∧ (∀ i, (s.document i).state = .free ∧ (s.document i).generation = 0 ∧ (s.document i).openingSlot = none)
    ∧ (∀ c, s.retentionMinutes c = 0) ∧ s.rtu.defaultRoute = ⟨0, 0, 0, 0, 0, .normal, 0, false⟩
    ∧ (∀ i, s.profile i = ⟨⟨50, 12, 16, .drop, 3⟩, 60⟩)
    ∧ (∀ d, s.destination d = ⟨.closed, [], none, 300, 8, 4, [], [], []⟩)
    ∧ s.te = ⟨[], 3, 3, .fair, none, none⟩ ∧ s.spu.fault = false
    ∧ (s.station 0).config = ⟨⟨false, false, true⟩, 0, 65535, 0, 0, ⟨false, false, false⟩⟩
    ∧ (∀ n, n ≠ 0 → (s.station n).config = ⟨⟨false, false, false⟩, 0, 0, 0, 0, ⟨false, false, false⟩⟩)
    ∧ (∀ n, (s.station n).requests = [] ∧ (s.station n).replies = [] ∧ (s.station n).assembly = none
        ∧ (s.station n).latch = none ∧ (s.station n).reserved = 0)
    ∧ s.InRange ∧ s.Canonical ∧ s.PortsSound ∧ s.StoreSound ∧ s.QueuesSound

/-- START_UP of a STARTING part (R195): READY, every block at its power-on values, the free-block stack 0, 1, …, 131,071 with
block 0 on top, F and A 131,072, no reply in any queue; uptime and the clock, which took their values at power-on reset, run on
(R187, R188; that start-up sets neither back is the model's reading, log 5), and the store memory reads 0 (the model's choice,
log 9). In another state nothing happens (the model's choice, log 1). -/
def Obligations.StartUp : Prop :=
  (∀ s : State, s.part = .starting → ∃ t, exec .startUp s = .next t ∧ t.part = .ready
    ∧ t.bsm.stack = List.range 131072 ∧ t.bsm.free = 131072 ∧ t.bsm.available = 131072 ∧ t.held = false
    ∧ t.bsm = State.reset.bsm ∧ t.iu = State.reset.iu ∧ t.dt = State.reset.dt ∧ t.rtu = State.reset.rtu
    ∧ t.dqu = State.reset.dqu ∧ t.te = State.reset.te ∧ t.spu = State.reset.spu
    ∧ (∀ n, (t.station n).replies = [])
    ∧ t.tb = s.tb ∧ t.pending = s.pending)
    ∧ ∀ s : State, s.part ≠ .starting → exec .startUp s = .next s

/-- POWER_ON_RESET puts the part in STARTING with power-on values from any state (R193; the unwritten store, the kept count of
open orders and the model's own fields are its choices, logs 9, 12 and 25). CHASSIS_RESET makes a READY part RECOVERING, ends
every tenure and bus request, keeps everything else, and the value of held is kept from that moment (R193, R196, R197); it is
without effect while STARTING. While RECOVERING it abandons the scan where it stands (R197), a point of which nothing is known
(the model's choice, log 7): the part stays RECOVERING, the value of held at leaving READY, the configuration, the clocks and
the store memory are kept, a set fault condition stays set, no context appears, no job is left where stage 2 was reached, and S
is 0 where stage 4 was. -/
def Obligations.PowerOnAndChassisReset : Prop :=
  (∀ s : State, exec .powerOnReset s = .next { State.reset with pending := s.pending, choice := s.choice })
    ∧ (∀ s : State, s.part = .ready → exec .chassisReset s = .next
        { s with part := .recovering, heldAtLeave := s.held, te := { s.te with request := none, tenure := none } })
    ∧ (∀ s : State, s.part = .recovering → ∃ t p, exec .chassisReset s = .next t
      ∧ t = { s.scanUpTo p with
          part := .recovering, choice := (s.scanUpTo p).choice + 1, te := { (s.scanUpTo p).te with request := none, tenure := none } }
      ∧ t.settings = s.settings ∧ (∀ n, (t.station n).config = (s.station n).config)
      ∧ (∀ d, (t.destination d).settings = (s.destination d).settings) ∧ SameStore s t
      ∧ (s.spu.fault = true → t.spu.fault = true) ∧ (∀ n c, t.context n = some c → s.context n = some c)
      ∧ (p = .notBegun ∨ p = .stations ∨ t.te.jobs = [])
      ∧ (p = .reservation ∨ p = .stack ∨ p = .hold ∨ (∃ k, p = .purges k ∨ p = .releases k) → t.bsm.reserved = 0))
    ∧ ∀ s : State, s.part = .starting → exec .chassisReset s = .next s

/-- RECOVERY_SCAN of a RECOVERING part (R196, R45, R166): READY; every context FREE; the engine empty and the last channel
granted 3; S is 0; no document PURGE_PENDING; every slot's request queue, assembly, latch and reservations empty; the
configuration, the clocks, the fallback, the routes, the store memory and the link table kept. Stages 4 and 5 (R18): the
free-block stack, lowest number on top, holds exactly the blocks of no committed page. Stage 1 (R143, R125), with checkout
lists sound and tables canonical: every checkout has come back, to the head of its class, to the fallback or WITHDRAWN, and
every checkout list is empty; the document of every reception is FREE or has completed INCOMPLETE (stage 3, R45), and no
page record is left that no document lists (R89). (That one sweep brings back the checkouts of all slots, so that those of
different slots at one destination stand in the order in which they were taken, is the model's reading, log 23; that an
UNROUTED one gets no settle time, log 26.) -/
def Obligations.RecoveryScan : Prop :=
  (∀ s : State, s.part = .recovering → ∃ t, exec .recoveryScan s = .next t
    ∧ t.settings = { s.settings with part := .ready }
    ∧ (∀ n, (t.station n).config = (s.station n).config)
    ∧ (∀ d, (t.destination d).settings = (s.destination d).settings)
    ∧ (∀ n, n < 64 → t.context n = none) ∧ t.te.jobs = [] ∧ t.te.lastGranted = 3 ∧ t.bsm.reserved = 0
    ∧ (∀ i, (t.document i).state ≠ .purgePending)
    ∧ (∀ n, n < 16 → (t.station n).requests = [] ∧ (t.station n).assembly = none ∧ (t.station n).latch = none
        ∧ (t.station n).reserved = 0 ∧ (t.station n).framing = false)
    ∧ SameStore s t
    ∧ (s.Canonical → s.CheckoutsSound → s.CheckoutsReturned t (fun _ => true)
        ∧ (∀ d, d < 32 → (t.destination d).checkouts = []) ∧ s.ReceptionsEnded t (fun _ => true)
        ∧ ∀ p, t.page p ≠ none → ∃ i, (t.document i).state ≠ .free ∧ p ∈ (t.document i).pages))
    ∧ ∀ s : State, s.scanStack.bsm.reserved = 0
      ∧ s.scanStack.bsm.stack = (List.range 131072).filter (fun n => decide (n ∉ s.committedBlocks.map Fin.val))

/-! ## Time -/

/-- UPTIME_TICK: uptime rises by one and stays at its greatest value (R187); the clock's count of milliseconds rises by one,
wrapping after 65,536 days, and its count within the week rises by one, wrapping after 7 days (R188); nothing else changes. -/
def Obligations.UptimeTick : Prop :=
  ∀ s : State, s.tb.clock.Sound → s.tb.uptime ≤ 281474976710655 → ∃ t, exec .uptimeTick s = .next t
    ∧ t = { s with tb := t.tb } ∧ t.tb.uptime = min (s.tb.uptime + 1) 281474976710655
    ∧ t.tb.clock.isSet = s.tb.clock.isSet ∧ t.tb.clock.Sound
    ∧ t.tb.clock.count = (s.tb.clock.count + 1) % (65536 * 86400000)
    ∧ t.tb.clock.weekCount = (s.tb.clock.weekCount + 1) % (7 * 86400000)

/-- IDLE_TIMER_EXPIRY of a context whose deadline is reached, while READY (R41, R35 to R37): the context is FREE and its
reservation released; a document with no committed page is FREE, another one completes INCOMPLETE: stamped, its WAITING
entries re-checked and joining their queues (R113), and QUEUED or UNROUTED (no settle time for an UNROUTED one: log 26);
RECEPTION_TIMEOUT joins the opener's queue where it has room. Other contexts and documents, the engine, the store memory and
the configuration are as they were. Before the deadline, and while the part is not READY, nothing happens (R192; that the
event then changes nothing is the model's choice, log 1). -/
def Obligations.IdleTimerExpiry : Prop :=
  (∀ (s : State) (n : Nat) (c : Context) (deadline : Nat), s.part = .ready → s.context n = some c →
    c.idleDeadline = some deadline → deadline ≤ s.tb.uptime → ∃ t, exec (.idleTimerExpiry n) s = .next t
      ∧ t.context n = none ∧ (∀ m, m ≠ n → t.context m = s.context m)
      ∧ t.bsm.reserved = s.bsm.reserved - c.reservation
      ∧ SameDocumentsBut s t c.handle.index ∧ t.te = s.te ∧ SameConfig s t ∧ SameStore s t
      ∧ ((s.document c.handle.index).pages = [] → t.document c.handle.index = { Document.free with
            generation := (s.document c.handle.index).generation, openingSlot := (s.document c.handle.index).openingSlot }
          ∧ t.dqu = s.dqu)
      ∧ ((s.document c.handle.index).pages ≠ [] → (t.document c.handle.index).incomplete = true
          ∧ (t.document c.handle.index).endTime = some s.tb.clock
          ∧ (t.document c.handle.index).pages = (s.document c.handle.index).pages
          ∧ s.CompletesAs c.handle.index true (t.document c.handle.index)
          ∧ s.JoinsQueues t c.handle.index (t.document c.handle.index)
          ∧ (t.document c.handle.index).state =
              if (t.document c.handle.index).countIn .queued = 0 then .unrouted else .queued)
      ∧ ((s.endReception n c true).replyRoom c.openingSlot = true → s.spu.underReset = [] →
          (t.station c.openingSlot).replies.getLast? = some ⟨.receptionTimeout, 0, 0xFFFF,
            [c.handle.word, word c.lineId, word (s.document c.handle.index).pages.length,
             word (if (s.document c.handle.index).pages = [] then 1 else 0),
             word ((t.document c.handle.index).countIn .queued)]⟩))
    ∧ ∀ (s : State) (n : Nat), (s.part ≠ .ready ∨ ∀ c deadline, s.context n = some c → c.idleDeadline = some deadline →
        s.tb.uptime < deadline) → exec (.idleTimerExpiry n) s = .next s

/-- RETENTION_EXPIRY of a DONE document while READY (R73, R74): freed where its deadline is reached, legal hold is clear, no
job of it is in the engine and nothing is outstanding, its blocks returning as one change with the intake hold test (R10, R11);
otherwise, and while the part is not READY, nothing changes (the
model's choice, logs 1 and 35). -/
def Obligations.RetentionExpiry : Prop :=
  (∀ (s : State) (i deadline : Nat), s.part = .ready → (s.document i).state = .done →
    (s.document i).retentionDeadline = some deadline → deadline ≤ s.tb.uptime → (s.document i).legalHold = false →
    s.activeJobs i = 0 → (s.document i).outstandingSet = [] → ∃ t, exec (.retentionExpiry i) s = .next t
      ∧ t.document i = { Document.free with
          generation := (s.document i).generation, openingSlot := (s.document i).openingSlot }
      ∧ SameDocumentsBut s t i ∧ (∀ p ∈ (s.document i).pages, t.page p = none)
      ∧ (∀ p, p ∉ (s.document i).pages → t.page p = s.page p)
      ∧ t.bsm.free = s.bsm.free + (s.documentBlocks (s.document i)).length ∧ t.bsm.reserved = s.bsm.reserved
      ∧ t.bsm.storeHold = (if t.bsm.available < s.bsm.lowMark then true else if s.bsm.releaseMark ≤ t.bsm.available then false
          else s.bsm.storeHold)
      ∧ t.iu = s.iu ∧ t.dqu = s.dqu ∧ t.te = s.te ∧ SameConfig s t ∧ SameStore s t)
    ∧ ∀ (s : State) (i : Nat), (s.part ≠ .ready ∨ (s.document i).state ≠ .done ∨ (s.document i).legalHold = true
        ∨ 0 < s.activeJobs i ∨ ∀ deadline, (s.document i).retentionDeadline = some deadline → s.tb.uptime < deadline) →
      exec (.retentionExpiry i) s = .next s

/-! ## The port window -/

/-- REQUEST_START and REQUEST_WORD of a slot in use while READY (R168, R169): a read returns 0; a header write is answered
RETRY while 8 records are queued, and otherwise closes or opens the assembly, setting FRAMING over an open one; a word write
appends, and completes the record at its length, or sets FRAMING where no assembly is open. Nothing else changes. -/
def Obligations.RequestWrites : Prop :=
  ∀ (s : State) (slot : Nat) (w : Word), s.part = .ready → (s.rights slot).any = true →
    exec (.requestStart slot .read) s = .next { s with answer := .word 0 }
    ∧ exec (.requestWord slot .read) s = .next { s with answer := .word 0 }
    ∧ (8 ≤ (s.station slot).requests.length →
        exec (.requestStart slot (.write w)) s = .next { s with answer := .retry })
    ∧ ((s.station slot).requests.length < 8 → (decodeHeader w).length = 0 ∨ (decodeHeader w).length = 1
          ∨ 64 < (decodeHeader w).length →
        exec (.requestStart slot (.write w)) s = .next { s.setStation slot { s.station slot with
          framing := (s.station slot).framing || (s.station slot).assembly.isSome, assembly := none,
          requests := (s.station slot).requests ++ [⟨decodeHeader w, []⟩] } with answer := .done })
    ∧ ((s.station slot).requests.length < 8 → 2 ≤ (decodeHeader w).length → (decodeHeader w).length ≤ 64 →
        exec (.requestStart slot (.write w)) s = .next { s.setStation slot { s.station slot with
          framing := (s.station slot).framing || (s.station slot).assembly.isSome,
          assembly := some ⟨decodeHeader w, []⟩ } with answer := .done })
    ∧ ((s.station slot).assembly = none →
        exec (.requestWord slot (.write w)) s =
          .next { s.setStation slot { s.station slot with framing := true } with answer := .done })
    ∧ (∀ r, (s.station slot).assembly = some r → r.words.length + 2 < r.header.length →
        exec (.requestWord slot (.write w)) s = .next { s.setStation slot { s.station slot with
          assembly := some ⟨r.header, r.words ++ [w]⟩ } with answer := .done })
    ∧ ∀ r, (s.station slot).assembly = some r → r.words.length + 2 = r.header.length →
        exec (.requestWord slot (.write w)) s = .next { s.setStation slot { s.station slot with
          assembly := none, requests := (s.station slot).requests ++ [⟨r.header, r.words ++ [w]⟩] } with answer := .done }

/-- A read of REPLY by a slot in use while READY (R173): the empty header 0xFFFF_00FF, the header of the oldest reply, or the
latched reply's next word; with its last word the reply leaves the queue and the latch empties. Nothing else changes. The tables
stand in their canonical form (`InvariantKept`), in which a slot written back unchanged leaves the table as it was. -/
def Obligations.ReplyRead : Prop :=
  ∀ (s : State) (slot : Nat), s.Canonical → s.part = .ready → (s.rights slot).any = true →
    ((s.station slot).replies = [] → exec (.reply slot) s = .next { s with answer := .word 0xFFFF00FF })
    ∧ (∀ r rest, (s.station slot).replies = r :: rest → (s.station slot).latch = none → r.words = [] →
        exec (.reply slot) s = .next
          { s.setStation slot { s.station slot with replies := rest } with answer := .word r.header })
    ∧ (∀ r rest, (s.station slot).replies = r :: rest → (s.station slot).latch = none → r.words ≠ [] →
        exec (.reply slot) s = .next
          { s.setStation slot { s.station slot with latch := some 1 } with answer := .word r.header })
    ∧ (∀ r rest k x, (s.station slot).replies = r :: rest → (s.station slot).latch = some (k + 1) → k + 1 < r.words.length →
        r.words[k]? = some x → exec (.reply slot) s = .next
          { s.setStation slot { s.station slot with latch := some (k + 2) } with answer := .word x })
    ∧ ∀ r rest k x, (s.station slot).replies = r :: rest → (s.station slot).latch = some (k + 1) → k + 1 = r.words.length →
        r.words[k]? = some x → exec (.reply slot) s = .next
          { s.setStation slot { s.station slot with latch := none, replies := rest } with answer := .word x }

/-- A read of PORT_STATUS by a slot in use while READY: FRAMING is cleared after it and nothing else changes (R174), and the
word returned carries each field in its bits (R199). -/
def Obligations.PortStatusRead : Prop :=
  ∀ (s : State) (slot : Nat), s.part = .ready → (s.rights slot).any = true → slot < 16 →
    (s.station slot).requests.length ≤ 8 → (s.station slot).replies.length ≤ 32 → s.jobCount slot ≤ 4 →
    ∃ w : Word, exec (.portStatus slot) s =
        .next { s.setStation slot { s.station slot with framing := false } with answer := .word w }
      ∧ (w.extractLsb' 0 4).toNat = slot
      ∧ w.getLsbD 4 = (s.rights slot).intake ∧ w.getLsbD 5 = (s.rights slot).deliver
      ∧ w.getLsbD 6 = (s.rights slot).administer
      ∧ (w.extractLsb' 7 4).toNat = (s.station slot).requests.length
      ∧ w.getLsbD 11 = (s.station slot).assembly.isSome
      ∧ (w.extractLsb' 12 6).toNat = (s.station slot).replies.length
      ∧ w.getLsbD 18 = (s.station slot).latch.isSome
      ∧ w.getLsbD 19 = !(s.station slot).replies.isEmpty ∧ w.getLsbD 20 = (s.station slot).work
      ∧ w.getLsbD 21 = s.spu.fault ∧ w.getLsbD 22 = (s.station slot).framing
      ∧ w.getLsbD 23 = (s.station slot).noticeLost ∧ w.getLsbD 24 = s.spu.fault
      ∧ (w.extractLsb' 25 3).toNat = s.jobCount slot ∧ (w.extractLsb' 28 4).toNat = 0

/-- ATTENTION_ACK (R178) and the accesses without effect (R168) of a slot in use while READY (which row stands for a read of an
offset is the model's choice, log 28). The attention output of a slot in use is asserted exactly while some cause is pending and
enabled, that of an UNUSED slot never; the REPLY cause is a reply queue that is not empty, the FAULT cause the fault condition,
and the fault output is the fault condition whatever the enables (R177, R178). -/
def Obligations.AcknowledgeAndIgnored : Prop :=
  (∀ (s : State) (slot : Nat) (w : Word), s.part = .ready → (s.rights slot).any = true →
    exec (.attentionAck slot (.write w)) s =
        .next { s.setStation slot { s.station slot with work := false } with answer := .done }
    ∧ exec (.attentionAck slot .read) s = .next { s with answer := .word 0 }
    ∧ exec (.portReset slot .read) s = .next { s with answer := .word 0 }
    ∧ (∀ off, off = .reply ∨ off = .portStatus ∨ off = .spare18 ∨ off = .spare1C →
        exec (.writeIgnored slot off (.write w)) s = .next { s with answer := .done })
    ∧ ∀ off, off = .spare18 ∨ off = .spare1C → exec (.writeIgnored slot off .read) s = .next { s with answer := .word 0 })
    ∧ ∀ (s : State) (slot : Nat),
      (s.attention slot = true ↔
        ((s.rights slot).intake = true ∨ (s.rights slot).deliver = true ∨ (s.rights slot).administer = true)
          ∧ (((s.station slot).replies ≠ [] ∧ (s.station slot).enables.reply = true)
            ∨ ((s.station slot).work = true ∧ (s.station slot).enables.work = true)
            ∨ (s.spu.fault = true ∧ (s.station slot).enables.fault = true)))
      ∧ s.faultOutput = s.spu.fault

/-- While the part is STARTING or RECOVERING every access is answered RETRY and changes nothing else (R194); while it is READY
every access of an UNUSED slot is answered with bus error and changes nothing else (R167). Among them are the accesses of
WRITE_IGNORED: writes to REPLY and PORT_STATUS, and any access to the spare offsets 18 and 1C (R168; which row stands for which
access is the model's choice, log 28). -/
def Obligations.AccessesTurnedAway : Prop :=
  (∀ (s : State) (slot : Nat) (off : PortOffset) (acc : Access) (c : Instr), s.part ≠ .ready →
    c ∈ [.portAccessRetry slot off acc, .requestStart slot acc, .requestWord slot acc, .reply slot, .portStatus slot,
        .attentionAck slot acc, .portReset slot acc, .unusedSlotAccess slot off acc]
      ∨ (c = .writeIgnored slot off acc
        ∧ (off = .spare18 ∨ off = .spare1C ∨ ((off = .reply ∨ off = .portStatus) ∧ acc ≠ .read))) →
    exec c s = .next { s with answer := .retry })
    ∧ ∀ (s : State) (slot : Nat) (off : PortOffset) (acc : Access) (c : Instr), s.part = .ready → (s.rights slot).any = false →
    c ∈ [.unusedSlotAccess slot off acc, .requestStart slot acc, .requestWord slot acc, .reply slot, .portStatus slot,
        .attentionAck slot acc, .portReset slot acc]
      ∨ (c = .writeIgnored slot off acc
        ∧ (off = .spare18 ∨ off = .spare1C ∨ ((off = .reply ∨ off = .portStatus) ∧ acc ≠ .read))) →
    exec c s = .next { s with answer := .busError }

/-- A write to PORT_RESET by a slot in use while READY (R181, R182): it completes; the slot's assembly, request queue, reply
queue, reservations and latch are empty, FRAMING and NOTICE_LOST clear, WORK set exactly where an OPEN or PAUSED destination
bound to it has a queue that is not empty; no reception it opened is left; its jobs still in the engine are cancelled with
their replies suppressed; the configuration and the store memory are kept. With checkout lists sound, its checkouts have
left their lists and come back at the head of their class, or, at a DRAINING destination, to the fallback's tail or
WITHDRAWN (R143), and the document of every reception it opened is FREE or has completed INCOMPLETE (R43; no settle time for
an UNROUTED one: log 26); a queue of another slot's destination that was empty and is not any more sets WORK there. -/
def Obligations.PortReset : Prop :=
  ∀ (s : State) (slot : Nat) (w : Word), s.part = .ready → (s.rights slot).any = true →
    ∃ t, exec (.portReset slot (.write w)) s = .next t ∧ t.answer = .done
      ∧ (t.station slot).assembly = none ∧ (t.station slot).requests = [] ∧ (t.station slot).replies = []
      ∧ (t.station slot).reserved = 0 ∧ (t.station slot).latch = none ∧ (t.station slot).framing = false
      ∧ (t.station slot).noticeLost = false ∧ (t.station slot).work = t.workWaits slot
      ∧ (∀ n c, n < 64 → t.context n = some c → c.openingSlot ≠ slot)
      ∧ (∀ j ∈ t.te.jobs, j.slot = slot → j.cancelled = true ∧ j.suppressed = true)
      ∧ t.settings = { s.settings with answer := .done } ∧ (∀ n, (t.station n).config = (s.station n).config)
      ∧ (∀ d, (t.destination d).settings = (s.destination d).settings) ∧ SameStore s t
      ∧ (s.CheckoutsSound → s.CheckoutsReturned t (fun m => decide (m = slot))
        ∧ s.ReceptionsEnded t (fun m => decide (m = slot))
        ∧ ∀ d m, d < 32 → m ≠ slot → (s.destination d).bound = some m → (s.destination d).accepting = true →
            (s.destination d).queue = [] → s.takenBy (fun m => decide (m = slot)) d ≠ [] → (t.station m).work = true)

/-! ## Taken records: refusals and station commands -/

/-- A taken record of a wrong length is refused BAD_LENGTH: for every command of one length, for those that end in a counted
string or two where the length is not the one their count words fix (R21), and for the one-word bad-length record of every
command; a record of a code outside the manual is refused BAD_COMMAND, unless its header's length is out of range. A refused
command changes nothing, and its reply is the header alone (R171; which row takes a one-word bad-length record is the
model's choice, log 22). -/
def Obligations.BadShapeRefused : Prop :=
  (∀ (s : State) (c : Instr) (slot : Nat) (r : Record), c.requester = some slot → s.HasHead slot r →
    c.code = some r.header.code →
    (r.header.badLength = true ∨ (∃ n, c.fixedLength = some n ∧ r.words.length ≠ n)
      ∨ (∃ k, (c, k) ∈ [(.setSender slot, 1), (.setDocAttr slot, 5), (.routeSet slot, 9), (.routeLookup slot, 0), (.destConfig slot, 5)]
        ∧ ¬ r.StringEnds k r.words.length)
      ∨ (c = .openReception slot ∧ ∀ m, r.StringEnds 2 m → ¬ r.StringEnds m r.words.length)) →
    exec c s = .next (s.replying slot ⟨.badLength, r.header.code, r.header.tag, []⟩))
    ∧ ∀ (s : State) (slot : Nat) (r : Record), s.HasHead slot r → r.header.code ∉ commandCodes →
      exec (.badCommand slot) s = .next (s.replying slot
        ⟨if r.header.badLength = true then .badLength else .badCommand, r.header.code, r.header.tag, []⟩)

/-- Rights, handles and owners. A command from a slot without the right it needs is refused NO_RIGHT (R171): one that requires
ADMINISTER, a reception command without INTAKE, ABORT_RECEPTION without INTAKE and ADMINISTER, one of a document or checkout that
needs DELIVER or ADMINISTER without either, and one open to any right from a slot with none. From a slot with the right a command
needs, one that names a document under another generation than the record's is refused STALE_HANDLE (R27, R38, R65, R77, R80, R131,
R141). A reception command from another slot than the opening one is refused NOT_OWNER, and WRONG_STATE for a document not RECEIVING
(R27, R38, ADMINISTER may abort any); FETCH_PAGES, CONFIRM and RETURN of a checkout from another slot than its taking slot are refused
NOT_OWNER (R131), and TAKE by a slot the destination is not bound to (R127), unless the slot holds ADMINISTER; a delivery viewer that
names a document with no entry of a destination bound to it is refused NOT_VISIBLE (R80). A refused command changes nothing, and its
reply is the header alone. -/
def Obligations.AdministerRequired : Prop :=
  (∀ (s : State) (c : Instr) (slot : Nat) (r : Record), c.requester = some slot → s.HasHead slot r →
    c.code = some r.header.code → r.header.badLength = false →
    (c.fixedLength = some r.words.length
      ∨ ∃ k ws cs, (c, k) ∈ [(.setSender slot, 1), (.setDocAttr slot, 5), (.routeSet slot, 9), (.routeLookup slot, 0),
          (.destConfig slot, 5)] ∧ r.words.drop k = ws ∧ CountedAs ws cs) →
    ((c.needsAdminister = true ∧ (s.rights slot).administer = false)
      ∨ (c ∈ [.setSender slot, .pageData slot, .pageEnd slot, .endReception slot] ∧ (s.rights slot).intake = false)
      ∨ (c = .abortReception slot ∧ (s.rights slot).intake = false ∧ (s.rights slot).administer = false)
      ∨ (c ∈ [.docInfo slot, .pageInfo slot, .setDocAttr slot, .take slot, .fetchPages slot, .confirm slot, .returnCheckout slot]
        ∧ (s.rights slot).deliver = false ∧ (s.rights slot).administer = false)
      ∨ (c ∈ [.readStatus slot, .storeStatus slot, .readClock slot, .getProfile slot, .destStatus slot, .cancelTransfer slot]
        ∧ (s.rights slot).any = false)) →
    exec c s = .next (s.replying slot (r.reply .noRight [])))
    ∧ (∀ (s : State) (c : Instr) (slot : Nat) (r : Record) (w1 : Word) (ws : List Word) (cs : List Byte) (d : Document),
      s.HasHead slot r → c.code = some r.header.code → r.header.badLength = false → (s.rights slot).intake = true →
      (c = .setSender slot ∧ r.words = w1 :: ws ∧ CountedAs ws cs) ∨ (c ∈ [.pageData slot, .pageEnd slot, .endReception slot]
        ∧ c.fixedLength = some r.words.length ∧ r.words.head? = some w1) → d = s.document (decodeHandle w1).index →
      ((decodeHandle w1).generation ≠ d.generation → exec c s = .next (s.replying slot (r.reply .staleHandle [])))
      ∧ ((decodeHandle w1).generation = d.generation → d.openingSlot ≠ some slot →
          exec c s = .next (s.replying slot (r.reply .notOwner [])))
      ∧ ((decodeHandle w1).generation = d.generation → d.openingSlot = some slot → d.state ≠ .receiving →
          exec c s = .next (s.replying slot (r.reply .wrongState []))))
    ∧ (∀ (s : State) (slot : Nat) (r : Record) (w1 : Word) (d : Document), s.Takes slot 0x25 r → r.words = [w1] →
      (s.rights slot).intake = true ∨ (s.rights slot).administer = true → d = s.document (decodeHandle w1).index →
      ((decodeHandle w1).generation ≠ d.generation →
          exec (.abortReception slot) s = .next (s.replying slot (r.reply .staleHandle [])))
      ∧ ((decodeHandle w1).generation = d.generation → (s.rights slot).administer = false → d.openingSlot ≠ some slot →
          exec (.abortReception slot) s = .next (s.replying slot (r.reply .notOwner [])))
      ∧ ((decodeHandle w1).generation = d.generation → (s.rights slot).administer = true ∨ d.openingSlot = some slot →
          d.state ≠ .receiving → exec (.abortReception slot) s = .next (s.replying slot (r.reply .wrongState []))))
    ∧ (∀ (s : State) (c : Instr) (slot : Nat) (r : Record) (w1 : Word) (ws : List Word) (cs : List Byte) (d : Document),
      s.HasHead slot r → c.code = some r.header.code → r.header.badLength = false → r.words.head? = some w1 →
      d = s.document (decodeHandle w1).index →
      c.fixedLength = some r.words.length ∨ (c = .setDocAttr slot ∧ r.words.drop 5 = ws ∧ CountedAs ws cs) →
      ((decodeHandle w1).generation ≠ d.generation →
        (c ∈ [.purge slot, .reroute slot, .withdraw slot] ∧ (s.rights slot).administer = true)
          ∨ (c ∈ [.docInfo slot, .pageInfo slot, .fetchPages slot, .confirm slot, .returnCheckout slot, .setDocAttr slot]
            ∧ ((s.rights slot).administer = true ∨ (s.rights slot).deliver = true)) →
        exec c s = .next (s.replying slot (r.reply .staleHandle [])))
      ∧ ((decodeHandle w1).generation = d.generation → c ∈ [.docInfo slot, .pageInfo slot, .setDocAttr slot] →
        (s.rights slot).deliver = true → (s.rights slot).administer = false →
        (∀ x ∈ d.entryList, (s.destination x.2.destination).bound ≠ some slot) →
        exec c s = .next (s.replying slot (r.reply .notVisible []))))
    ∧ (∀ (s : State) (c : Instr) (slot : Nat) (r : Record) (w1 w2 w3 : Word) (rest : List Word) (p : Nat) (e : Entry),
      s.HasHead slot r → c.code = some r.header.code → r.header.badLength = false →
      c ∈ [.fetchPages slot, .confirm slot, .returnCheckout slot] → r.words = w1 :: w2 :: w3 :: rest →
      c.fixedLength = some r.words.length → (s.rights slot).deliver = true → (s.rights slot).administer = false →
      (decodeHandle w1).generation = (s.document (decodeHandle w1).index).generation →
      (s.document (decodeHandle w1).index).checkedOut (min w2.toNat 31) w3.toNat = some (p, e) →
      (∀ x, s.checkoutOf (min w2.toNat 31) (decodeHandle w1).index p = some x → x.takingSlot ≠ slot) →
      exec c s = .next (s.replying slot (r.reply .notOwner [])))
    ∧ ∀ (s : State) (slot : Nat) (r : Record) (w1 : Word), s.Takes slot 0x58 r → r.words = [w1] →
      (s.rights slot).deliver = true → (s.rights slot).administer = false →
      (s.destination (min w1.toNat 31)).bound ≠ some slot →
      exec (.take slot) s = .next (s.replying slot (r.reply .notOwner []))

/-- ECHO (R185): a station holding any right; 1 to 16 words come back unchanged, a longer record is refused BAD_LENGTH (one
whose length field is out of range as well); no state changes but the slot's queues. -/
def Obligations.Echo : Prop :=
  (∀ (s : State) (slot : Nat) (r : Record), s.HasHead slot r → r.header.code = 0x01 → r.header.badLength = true →
    exec (.echo slot) s = .next (s.replying slot (r.reply .badLength [])))
    ∧ ∀ (s : State) (slot : Nat) (r : Record), s.Takes slot 0x01 r →
    (15 < r.words.length → exec (.echo slot) s = .next (s.replying slot (r.reply .badLength [])))
    ∧ (r.words.length ≤ 15 → (s.rights slot).any = false →
        exec (.echo slot) s = .next (s.replying slot (r.reply .noRight [])))
    ∧ (r.words.length ≤ 15 → (s.rights slot).any = true →
        exec (.echo slot) s = .next (s.replying slot (r.reply .ok r.words)))

/-- READ_STATUS (R183), STORE_STATUS (R16) and READ_CLOCK (R191) from a station holding any right: their reply words, and no
state changes but the slot's queues. -/
def Obligations.StatusReads : Prop :=
  ∀ (s : State) (slot : Nat) (r : Record), r.words = [] → (s.rights slot).any = true →
    (s.Takes slot 0x02 r → exec (.readStatus slot) s = .next (s.replying slot (r.reply .ok
      [word 2, word (bit s.spu.fault), word (bit s.held), word (bit s.bsm.storeHold), word (bit s.bsm.adminHold),
       word (bit s.spu.fault), word s.contextsInUse, word s.documentsInUse, word s.te.jobs.length,
       word ([0, 1, 2, 3].filter (fun c => s.te.jobs.any (fun j => decide (j.channel = some c)))).length, word slot,
       word ((if (s.rights slot).intake then 1 else 0) + (if (s.rights slot).deliver then 2 else 0)
         + (if (s.rights slot).administer then 4 else 0))])))
    ∧ (s.Takes slot 0x10 r → exec (.storeStatus slot) s = .next (s.replying slot (r.reply .ok
      [word s.bsm.free, word s.bsm.reserved, word (s.bsm.free - s.bsm.reserved), word s.bsm.lowMark, word s.bsm.releaseMark,
       word s.bsm.floor, word s.bsm.intakeReserve, word (bit s.bsm.storeHold), word (bit s.bsm.adminHold),
       word (bit s.spu.fault), word (bit s.held),
       word ((List.range 64).filter (fun n => (s.context n).any (fun c => decide (0 < c.reservation)))).length])))
    ∧ (s.Takes slot 0x14 r → s.tb.uptime ≤ 281474976710655 → exec (.readClock slot) s = .next (s.replying slot (r.reply .ok
      [word s.tb.clock.day, word s.tb.clock.dayOfWeek, word s.tb.clock.minute, word s.tb.clock.millisecond,
       word (bit s.tb.clock.isSet), word (s.tb.uptime % 4294967296), word (s.tb.uptime / 4294967296)])))

/-- STATION_CONFIG (R179, R180, R110). An aperture whose start is above its end refuses the command BAD_FIELD, and one that
would leave no slot with ADMINISTER LAST_ADMIN. Carried out, it replaces the six fields; where DELIVER is removed every
destination bound to the slot is unbound and an OPEN one becomes PAUSED; every other slot's configuration is as it was, and
the reply carries the values stored and the number unbound. Where the slot stays in use, every other destination and all
other blocks are as they were. A slot left UNUSED is reset: its queues, assembly, latch and reservations are empty, its
flags clear, no reception it opened is left, and its jobs still in the engine are cancelled with their replies suppressed,
its checkouts come back (R143), its destinations being unbound, and the document of every reception it opened is FREE or has
completed INCOMPLETE (R43; no settle time for an UNROUTED one: log 26); no reply is posted to a requester that leaves itself
UNUSED. That enables written with empty rights are stored and reported is the model's choice (log 39). -/
def Obligations.StationConfig : Prop :=
  ∀ (s : State) (slot : Nat) (r : Record) (w1 w2 w3 w4 w5 w6 w7 : Word) (n start stop unbound : Nat) (reply : Reply),
    s.Takes slot 0x03 r → r.words = [w1, w2, w3, w4, w5, w6, w7] → (s.rights slot).administer = true →
    n = min w1.toNat 15 → start = min w3.toNat 65535 → stop = min w4.toNat 65535 →
    unbound = (if (s.rights n).deliver = true ∧ w2.getLsbD 1 = false
      then ((List.range 32).filter (fun d => decide ((s.destination d).bound = some n))).length else 0) →
    reply = r.reply .ok [word n, word (w2.toNat % 8), word start, word stop, word (w5.toNat % 65536),
          word (w6.toNat % 65536), word (w7.toNat % 8), word unbound] →
    (stop < start → exec (.stationConfig slot) s = .next (s.replying slot (r.reply .badField [])))
    ∧ (start ≤ stop → w2.getLsbD 2 = false → (∀ m, m < 16 → m ≠ n → (s.rights m).administer = false) →
        exec (.stationConfig slot) s = .next (s.replying slot (r.reply .lastAdmin [])))
    ∧ (start ≤ stop → (w2.getLsbD 2 = true ∨ ∃ m, m < 16 ∧ m ≠ n ∧ (s.rights m).administer = true) →
      ∃ t, exec (.stationConfig slot) s = .next t
      ∧ (t.station n).config = ⟨⟨w2.getLsbD 0, w2.getLsbD 1, w2.getLsbD 2⟩, start, stop, w5.extractLsb' 0 16,
          w6.extractLsb' 0 16, ⟨w7.getLsbD 0, w7.getLsbD 1, w7.getLsbD 2⟩⟩
      ∧ (∀ m, m ≠ n → (t.station m).config = (s.station m).config) ∧ t.settings = s.settings ∧ SameStore s t
      ∧ (∀ d, d < 32 → (s.destination d).bound = some n → (s.rights n).deliver = true → w2.getLsbD 1 = false →
          (t.destination d).bound = none ∧ (t.destination d).state ≠ .opened)
      ∧ (w2.toNat % 8 ≠ 0 → (t.station slot).replies.getLast? = some reply
        ∧ (∀ d, d < 32 → (s.destination d).bound = some n → (s.rights n).deliver = true → w2.getLsbD 1 = false →
            t.destination d = { s.destination d with
              bound := none, state := if (s.destination d).state = .opened then .paused else (s.destination d).state })
        ∧ (∀ d, ((s.destination d).bound ≠ some n ∨ (s.rights n).deliver = false ∨ w2.getLsbD 1 = true) →
            t.destination d = s.destination d)
        ∧ t.bsm = s.bsm ∧ t.iu = s.iu ∧ t.dt = s.dt ∧ t.rtu = s.rtu ∧ t.te = s.te ∧ t.tb = s.tb)
      ∧ (w2.toNat % 8 = 0 → (n ≠ slot → (t.station slot).replies.getLast? = some reply) ∧ (t.station n).replies = []
        ∧ (t.station n).requests = [] ∧ (t.station n).assembly = none ∧ (t.station n).latch = none
        ∧ (t.station n).reserved = 0 ∧ (t.station n).framing = false ∧ (t.station n).noticeLost = false
        ∧ (∀ m c, m < 64 → t.context m = some c → c.openingSlot ≠ n)
        ∧ (∀ j ∈ t.te.jobs, j.slot = n → j.cancelled = true ∧ j.suppressed = true)
        ∧ ∀ b : State, b = { s with dqu := b.dqu } →
          (∀ d, b.destination d = if d < 32 ∧ (s.destination d).bound = some n ∧ (s.rights n).deliver = true
            then { s.destination d with
              bound := none, state := if (s.destination d).state = .opened then .paused else (s.destination d).state }
            else s.destination d) →
          s.CheckoutsSound → b.CheckoutsReturned t (fun m => decide (m = n)) ∧ b.ReceptionsEnded t (fun m => decide (m = n))))

/-- STATION_RESET of a slot (R181, R182): the named slot's request queue, assembly, latch and reservations are emptied, its
flags cleared, its configuration kept; the reply reports the jobs newly cancelled, the receptions ended and the checkouts
returned (jobs already cancelled are not counted again: log 15); a requester that resets itself finds that reply alone in
its queue, another named slot finds its queue empty. With checkout lists sound, the named slot's checkouts have left their
lists and come back at the head of their class, or, at a DRAINING destination, to the fallback's tail or WITHDRAWN (R143,
R181 step 4), and the document of every reception it opened is FREE or has completed INCOMPLETE (R43; no settle time for an
UNROUTED one: log 26); a queue of another slot's destination that was empty and is not any more sets WORK there. -/
def Obligations.StationReset : Prop :=
  ∀ (s : State) (slot : Nat) (r : Record) (w1 : Word) (n : Nat), s.Takes slot 0x04 r → r.words = [w1] →
    (s.rights slot).administer = true → n = min w1.toNat 15 →
    ∃ t, exec (.stationReset slot) s = .next t
      ∧ t.LastReply slot r .ok [word n,
          word (s.te.jobs.filter (fun j => decide (j.slot = n) && !j.cancelled)).length,
          word ((List.range 64).filter (fun c => (s.context c).any (fun x => decide (x.openingSlot = n)))).length,
          word (s.countCheckouts (fun m => decide (m = n)))]
      ∧ (n = slot → (t.station n).replies.length = 1) ∧ (n ≠ slot → (t.station n).replies = [])
      ∧ (t.station n).requests = [] ∧ (t.station n).assembly = none ∧ (t.station n).latch = none
      ∧ (t.station n).reserved = 0 ∧ (t.station n).framing = false ∧ (t.station n).noticeLost = false
      ∧ (∀ m c, m < 64 → t.context m = some c → c.openingSlot ≠ n)
      ∧ SameConfig s t ∧ SameStore s t
      ∧ (s.CheckoutsSound → s.CheckoutsReturned t (fun m => decide (m = n)) ∧ s.ReceptionsEnded t (fun m => decide (m = n))
        ∧ ∀ d m, d < 32 → m ≠ n → (s.destination d).bound = some m → (s.destination d).accepting = true →
            (s.destination d).queue = [] → s.takenBy (fun m => decide (m = n)) d ≠ [] → (t.station m).work = true)

/-- CLEAR_FAULT (R184): the fault condition and the named NOTICE_LOST flags are cleared, and apart from notices (a
STORE_STATE where held changes, and what its losses bring) nothing else changes; the reply words. The condition stays clear
where held does not change, and where every recipient of STORE_STATE has room for it beside the reply reserved for this
command. That word 3 counts a flag which the loss of the command's own STORE_STATE sets again is the model's choice (log
43). -/
def Obligations.ClearFault : Prop :=
  ∀ (s : State) (slot : Nat) (r : Record) (w1 : Word) (named : List Nat), s.Takes slot 0x05 r → r.words = [w1] →
    (s.rights slot).administer = true → named = (if w1.toNat < 16 then [w1.toNat] else List.range 16) →
    ∃ t b, exec (.clearFault slot) s = .next t
      ∧ b = { s.popped slot with spu := { ((s.popped slot).clearNoticeLost named).spu with fault := false } }
      ∧ (∀ n, (b.station n).noticeLost = ((s.station n).noticeLost && decide (n ∉ named)))
      ∧ UpToNotices b t
      ∧ t.LastReply slot r .ok [word (bit s.spu.fault), word (min w1.toNat 16),
          word (named.filter (fun n => (s.station n).noticeLost)).length]
      ∧ ((s.bsm.storeHold = true ∨ s.bsm.adminHold = true ∨ s.spu.fault = false) → t.spu.fault = false)
      ∧ ((∀ m, m < 16 → (s.rights m).intake = true ∨ (s.rights m).administer = true → (s.taken slot).replyRoom m = true) →
          t.spu.fault = false)

/-! ## The block store and the clock -/

/-- SET_STORE_MARKS (R14, R11): the four marks are clamped in order and stored, and the intake hold test runs on them.
SET_INTAKE_HOLD (R15): 0 clears the ADMIN cause, every other action sets it. Apart from notices nothing else changes. The
replies carry the values stored, and held after the command (held and FAULT as they stand once the losses of the command's
own notice have had their effect: the model's reading, log 27). The intake hold test (R11, R13): STORE is set below the low
mark and cleared at the release mark; where held does not change, no notice is sent; where it changes, apart from notices
nothing else does, and every slot holding INTAKE or ADMINISTER with room is sent STORE_STATE with held, the three causes and
A. The same of the change SET_INTAKE_HOLD brings. That each recipient with room is sent its copy before a copy lost
elsewhere escalates is the model's choice (log 10). -/
def Obligations.StoreSettings : Prop :=
  (∀ (s : State) (slot : Nat) (r : Record) (w1 w2 w3 w4 : Word) (low release floor reserve : Nat), s.Takes slot 0x11 r →
    r.words = [w1, w2, w3, w4] → (s.rights slot).administer = true → low = min w1.toNat 65536 →
    release = max low (min w2.toNat 131072) → floor = min w3.toNat low → reserve = min w4.toNat 1024 →
    ∃ t, exec (.setStoreMarks slot) s = .next t
      ∧ UpToNotices { s.popped slot with bsm := { s.bsm with
          lowMark := low, releaseMark := release, floor := floor, intakeReserve := reserve,
          storeHold := if s.bsm.available < low then true else if release ≤ s.bsm.available then false
            else s.bsm.storeHold } } t
      ∧ t.LastReply slot r .ok [word low, word release, word floor, word reserve, word (bit t.held)])
    ∧ (∀ (s : State) (slot : Nat) (r : Record) (w1 : Word) (b : State), s.Takes slot 0x12 r → r.words = [w1] →
      (s.rights slot).administer = true → b = { s.popped slot with bsm := { s.bsm with adminHold := decide (w1 ≠ 0) } } →
      ∃ t, exec (.setIntakeHold slot) s = .next t ∧ UpToNotices b t
        ∧ t.LastReply slot r .ok
            [word (bit t.held), word (bit s.bsm.storeHold), word (if w1 = 0 then 0 else 1), word (bit t.spu.fault)]
        ∧ (b.held = s.held → t = b.appendReply slot (r.reply .ok
            [word (bit s.held), word (bit s.bsm.storeHold), word (if w1 = 0 then 0 else 1), word (bit s.spu.fault)]))
        ∧ (b.held ≠ s.held → s.spu.underReset = [] → ∀ m, m < 16 →
          (s.rights m).intake = true ∨ (s.rights m).administer = true → (s.taken slot).replyRoom m = true →
          ∃ ys, (t.station m).replies = (s.station m).replies ++ ⟨.storeState, 0, 0xFFFF,
            [word (bit b.held), word (bit s.bsm.storeHold), word (if w1 = 0 then 0 else 1), word (bit s.spu.fault),
             word s.bsm.available]⟩ :: ys))
    ∧ ∀ (s b : State), s.part = .ready →
      b = { s with bsm := { s.bsm with
        storeHold := if s.bsm.available < s.bsm.lowMark then true else if s.bsm.releaseMark ≤ s.bsm.available then false
          else s.bsm.storeHold } } →
      (b.held = s.held → s.holdTest = b)
      ∧ (b.held ≠ s.held → UpToNotices b s.holdTest ∧ (s.spu.underReset = [] → ∀ m, m < 16 →
          (s.rights m).intake = true ∨ (s.rights m).administer = true → s.replyRoom m = true →
          ∃ ys, (s.holdTest.station m).replies = (s.station m).replies ++ ⟨.storeState, 0, 0xFFFF,
            [word (bit b.held), word (bit b.bsm.storeHold), word (bit s.bsm.adminHold), word (bit s.spu.fault),
             word s.bsm.available]⟩ :: ys))

/-- SET_CLOCK (R190): fields in range are stored and the clock is SET, nothing else changing but the slot's queues, so that no
deadline moves and no notice is sent; fields out of range refuse the command BAD_FIELD, a slot without ADMINISTER NO_RIGHT, and
any other length BAD_LENGTH, and the clock is kept. -/
def Obligations.SetClock : Prop :=
  (∀ (s : State) (slot : Nat) (r : Record) (day dow minute ms : Word), s.Takes slot 0x13 r → r.words = [day, dow, minute, ms] →
    ((s.rights slot).administer = true → day.toNat ≤ 65535 → dow.toNat ≤ 6 → minute.toNat ≤ 1439 → ms.toNat ≤ 59999 →
      s.tb.uptime ≤ 281474976710655 →
      exec (.setClock slot) s = .next { s.replying slot (r.reply .ok
          [day, dow, minute, ms, word (bit s.tb.clock.isSet), word (s.tb.uptime % 4294967296),
           word (s.tb.uptime / 4294967296)]) with
        tb := ⟨s.tb.uptime, ⟨day.toNat, dow.toNat, minute.toNat, ms.toNat, true⟩⟩ })
    ∧ ((s.rights slot).administer = true → (65535 < day.toNat ∨ 6 < dow.toNat ∨ 1439 < minute.toNat ∨ 59999 < ms.toNat) →
      exec (.setClock slot) s = .next (s.replying slot (r.reply .badField [])))
    ∧ ((s.rights slot).administer = false → exec (.setClock slot) s = .next (s.replying slot (r.reply .noRight []))))
    ∧ ∀ (s : State) (slot : Nat) (r : Record), s.HasHead slot r → r.header.code = 0x13 →
      (r.header.badLength = true ∨ r.words.length ≠ 4) →
      exec (.setClock slot) s = .next (s.replying slot (r.reply .badLength []))

/-! ## Receptions -/

/-- OPEN_RECEPTION (R12, R22 to R25, R6, R40, R95). Refused NO_RIGHT without INTAKE; with it BAD_FIELD for a called digit that is no
digit, then STORE_LOW while intake is held, CONTEXT_FULL without a FREE context, and TABLE_FULL without a FREE record, nothing being
taken. Otherwise the lowest FREE context `n` and the lowest FREE record `i` are taken; the record is RECEIVING under the next
generation with the strings cut and the resolution's result, and holds one WAITING entry for each member of the delivery set,
ascending, at positions 1 onward, whose original destination is the lowest closed member replaced where the member itself was not
chosen, and absent otherwise; the reservation is min(intake reserve, max(0, A − floor)); the idle timer starts; the intake hold test
runs; apart from notices nothing else changes. The reply words. -/
def Obligations.OpenReception : Prop :=
  ∀ (s : State) (slot : Nat) (r : Record) (w1 w2 : Word) (ws vs : List Word) (called caller : List Byte),
    s.Takes slot 0x20 r → r.words = w1 :: w2 :: (ws ++ vs) → CountedAs ws called → CountedAs vs caller →
    ((s.rights slot).intake = false → exec (.openReception slot) s = .next (s.replying slot (r.reply .noRight [])))
    ∧ ((s.rights slot).intake = true → (∃ c ∈ called, c.toNat < 0x30 ∨ 0x39 < c.toNat) →
        exec (.openReception slot) s = .next (s.replying slot (r.reply .badField [])))
    ∧ ((s.rights slot).intake = true → (∀ c ∈ called, 0x30 ≤ c.toNat ∧ c.toNat ≤ 0x39) →
      (s.held = true → exec (.openReception slot) s = .next (s.replying slot (r.reply .storeLow [])))
      ∧ (s.held = false → (∀ n, n < 64 → s.context n ≠ none) →
          exec (.openReception slot) s = .next (s.replying slot (r.reply .contextFull [])))
      ∧ (s.held = false → (∃ n, n < 64 ∧ s.context n = none) → (∀ i, i < 4096 → (s.document i).state ≠ .free) →
          exec (.openReception slot) s = .next (s.replying slot (r.reply .tableFull [])))
      ∧ ∀ (n i g : Nat) (x : Resolution) (b : Bsm), s.held = false →
        n < 64 → s.context n = none → (∀ m, m < n → s.context m ≠ none) →
        i < 4096 → (s.document i).state = .free → (∀ j, j < i → (s.document j).state ≠ .free) →
        x = s.resolve (called.take 16) → g = min s.bsm.intakeReserve (s.bsm.available - s.bsm.floor) →
        b = { s.bsm with reserved := s.bsm.reserved + g } →
        (∀ p, (x.entries.read none p) = if p = 0 ∨ 8 < p then none
          else ((members x.replacement.delivery)[p - 1]?).map (fun d =>
            ⟨d, if member x.chosen d = true then none else (members x.replacement.replaced).head?, .waiting, 0, 0, none, none⟩))
        ∧ ∃ t, exec (.openReception slot) s = .next t
          ∧ UpToNotices { ((s.popped slot).setDocument i { Document.free with
                generation := ((s.document i).generation + 1) % 65536, state := .receiving, openingSlot := some slot,
                lineId := min w1.toNat 255, calledDigits := called.take 16, callerNumber := caller.take 20,
                receiveTime := some s.tb.clock, routeSource := x.source, priority := x.route.priority,
                retentionClass := x.route.retentionClass, confidential := x.route.confidential,
                entries := x.entries }).setContext n
              (some ⟨⟨i, ((s.document i).generation + 1) % 65536⟩, slot, min w1.toNat 255, min w2.toNat 7, none, .empty, none, g, 0,
                some (s.tb.uptime + 1000 * (s.profile (min w2.toNat 7)).idleTimeout), .betweenPages⟩) with
              bsm := { b with storeHold := if b.available < b.lowMark then true else if b.releaseMark ≤ b.available then false
                else b.storeHold } } t
          ∧ t.LastReply slot r .ok [word (i + 65536 * (((s.document i).generation + 1) % 65536)), word (min w1.toNat 255),
              word (min w2.toNat 7), word g, word x.source.code, word (min (members x.replacement.delivery).length 8),
              word (if 16 < called.length then 1 else 0), word (if 20 < caller.length then 1 else 0)])

/-- SET_SENDER of a reception the slot opened (R28, R40): the string is cut at 20 characters and stored, the idle timer restarts
unless the reception is INTAKE_ACTIVE, and nothing else changes but the slot's queues. -/
def Obligations.SetSender : Prop :=
  ∀ (s : State) (slot : Nat) (r : Record) (w1 : Word) (ws : List Word) (cs : List Byte) (n : Nat) (c : Context), s.Takes slot 0x21 r →
    r.words = w1 :: ws → CountedAs ws cs → (s.rights slot).intake = true →
    s.Receives slot (decodeHandle w1) n c →
    exec (.setSender slot) s = .next ((((s.setDocument (decodeHandle w1).index
        { s.document (decodeHandle w1).index with sender := cs.take 20 }).setContext n (some (if c.state = .intakeActive then c
          else { c with idleDeadline := some (s.tb.uptime + 1000 * (s.profile c.profile).idleTimeout) }))).replying slot
        (r.reply .ok [word (min cs.length 20), word (if 20 < cs.length then 1 else 0)])))

/-- PAGE_DATA of a reception the slot opened (R29 to R31): with a page open, or after opening one on the lowest FREE page
record with the profile's acceptance fields as its snapshot, the context becomes INTAKE_ACTIVE with its timer stopped and an
intake job joins the engine, its reply slot reserved; refused INTAKE_BUSY, WRONG_STATE, PAGE_LIMIT, NO_PAGE_RECORD and
ENGINE_FULL as R29 says. -/
def Obligations.PageData : Prop :=
  ∀ (s : State) (slot : Nat) (r : Record) (w1 w2 : Word) (n : Nat) (c : Context), s.Takes slot 0x22 r → r.words = [w1, w2] →
    (s.rights slot).intake = true → s.Receives slot (decodeHandle w1) n c →
    (c.state = .intakeActive → exec (.pageData slot) s = .next (s.replying slot (r.reply .intakeBusy [])))
    ∧ (∀ p, c.state = .pageOpen → c.openPage = some p → (p.flags.truncated.isSome = true ∨ p.flags.framingError = true) →
        exec (.pageData slot) s = .next (s.replying slot (r.reply .wrongState [])))
    ∧ (c.state = .betweenPages → 255 ≤ (s.document (decodeHandle w1).index).pages.length →
        exec (.pageData slot) s = .next (s.replying slot (r.reply .pageLimit [])))
    ∧ (∀ p, c.state = .pageOpen → c.openPage = some p → p.flags.truncated = none → p.flags.framingError = false →
        32 ≤ s.te.jobs.length → exec (.pageData slot) s = .next (s.replying slot (r.reply .engineFull [])))
    ∧ (∀ p, c.state = .pageOpen → c.openPage = some p → p.flags.truncated = none → p.flags.framingError = false →
        s.te.jobs.length < 32 → exec (.pageData slot) s = .next (((s.taken slot).setContext n
          (some { c with state := .intakeActive, idleDeadline := none })).queueJob
          (Job.new (.intake n) slot r.header.tag w2)))
    ∧ (c.state = .betweenPages → (s.document (decodeHandle w1).index).pages.length < 255 → (∀ p, p < 32768 → s.page p ≠ none) →
        exec (.pageData slot) s = .next (s.replying slot (r.reply .noPageRecord [])))
    ∧ (c.state = .betweenPages → (s.document (decodeHandle w1).index).pages.length < 255 → (∃ p, p < 32768 ∧ s.page p = none) →
        32 ≤ s.te.jobs.length → exec (.pageData slot) s = .next (s.replying slot (r.reply .engineFull [])))
    ∧ ∀ p, c.state = .betweenPages → (s.document (decodeHandle w1).index).pages.length < 255 → p < 32768 → s.page p = none →
        (∀ q, q < p → s.page q ≠ none) → s.te.jobs.length < 32 →
        exec (.pageData slot) s = .next ((((s.taken slot).setPage p (some PageRecord.opened)).setContext n
          (some { c with
            snapshot := some (s.profile c.profile).acceptance, parser := .empty,
            openPage := some ⟨p, [], 0, ⟨0, 0, 0, 0, 0⟩, ⟨none, false, false, false⟩⟩, state := .intakeActive,
            idleDeadline := none })).queueJob (Job.new (.intake n) slot r.header.tag w2))

/-- PAGE_END of a reception whose page is open (R33, R54, R56 to R59): the partial record is dropped, the verdict found, and
the page committed as the document's next page, or its blocks pushed in chain order and its page record returned; the
context is BETWEEN_PAGES with its timer restarted; the reply words. Returned blocks are one change with the intake hold test
(R10, R11). Refused INTAKE_BUSY while INTAKE_ACTIVE and WRONG_STATE while BETWEEN_PAGES. Apart from notices nothing else
changes. What is done on the way: a record still being assembled makes the page RAGGED and is counted as one BAD line, or at
32,767 lines marks it TRUNCATED with LINE_LIMIT, and a parser that is EMPTY or STOPPED leaves it (R54); Q is the least whole
number not below 1000 × B ÷ L, lies in 0 to 1,000, is 1,000 where every line is BAD and 0 exactly where none is (R56; its
word "exactly" for 1,000 is not followed, log 41); the verdict is the first case of R57; and the action follows verdict,
poor action and drop counter (R58, R59). -/
def Obligations.PageEnd : Prop :=
  (∀ (s : State) (slot : Nat) (r : Record) (w1 : Word) (n : Nat) (c : Context), s.Takes slot 0x23 r → r.words = [w1] →
    (s.rights slot).intake = true → s.Receives slot (decodeHandle w1) n c →
    (c.state = .intakeActive → exec (.pageEnd slot) s = .next (s.replying slot (r.reply .intakeBusy [])))
    ∧ (c.state = .betweenPages → exec (.pageEnd slot) s = .next (s.replying slot (r.reply .wrongState []))))
    ∧ (∀ (s : State) (slot : Nat) (r : Record) (w1 : Word) (n : Nat) (c : Context) (p0 p : OpenPage) (a : Acceptance) (v : Verdict)
    (flags : PageFlags) (d : Document),
    s.Takes slot 0x23 r → r.words = [w1] → (s.rights slot).intake = true → s.Receives slot (decodeHandle w1) n c →
    c.state = .pageOpen → c.openPage = some p0 → c.snapshot = some a → p = p0.dropPartial c.parser →
    v = verdict a p.counts p.storedBytes → flags = { p.flags with poorForced := (pageAction a c.dropCounter v).2 } →
    d = s.document (decodeHandle w1).index →
    ∃ t, exec (.pageEnd slot) s = .next t
      ∧ t.context n = some { c with
          snapshot := none, parser := .empty, openPage := none, state := .betweenPages,
          idleDeadline := some (s.tb.uptime + 1000 * (s.profile c.profile).idleTimeout),
          dropCounter := match (pageAction a c.dropCounter v).1 with
            | .committed => 0
            | .discarded => c.dropCounter
            | .dropped => c.dropCounter + 1 }
      ∧ (∀ m, m ≠ n → t.context m = s.context m)
      ∧ SameDocumentsBut s t (decodeHandle w1).index ∧ (∀ q, q ≠ p.record → t.page q = s.page q)
      ∧ ((pageAction a c.dropCounter v).1 = .committed →
          t.document (decodeHandle w1).index = { d with
            pages := d.pages ++ [p.record], totalBlocks := d.totalBlocks + p.blocks.length,
            truncatedPages := d.truncatedPages || flags.truncated.isSome || flags.framingError,
            poorPages := d.poorPages || decide (v = .poor) }
          ∧ t.page p.record = some ⟨d.pages.length + 1, p.blocks.head?, p.blocks.length, p.storedBytes, p.counts.lines,
              p.counts.bad, p.counts.repaired, p.counts.longest, quality p.counts, v, flags⟩
          ∧ t.bsm = s.bsm)
      ∧ ((pageAction a c.dropCounter v).1 ≠ .committed →
          t.document (decodeHandle w1).index = d ∧ t.page p.record = none
          ∧ t.bsm.stack = (p.blocks.map Fin.val).reverse ++ s.bsm.stack ∧ t.bsm.reserved = s.bsm.reserved
          ∧ t.bsm.storeHold = (if t.bsm.available < s.bsm.lowMark then true else if s.bsm.releaseMark ≤ t.bsm.available then false
              else s.bsm.storeHold))
      ∧ t.LastReply slot r .ok [word v.code, word (pageAction a c.dropCounter v).1.code,
          word (if (pageAction a c.dropCounter v).1 = .committed then d.pages.length + 1 else 0), word p.counts.lines,
          word p.counts.bad, word p.counts.repaired, word p.counts.longest, word (quality p.counts), flags.word,
          word p.storedBytes]
      ∧ t.rtu = s.rtu ∧ t.dqu = s.dqu ∧ t.te = s.te ∧ t.tb = s.tb ∧ SameStore s t)
    ∧ (∀ (p : OpenPage) (ws : List Word),
      p.dropPartial .empty = p ∧ p.dropPartial .stopped = p
      ∧ (p.counts.lines = 32767 → p.dropPartial (.assembling ws) = { p with
          flags := { p.flags with ragged := true, truncated := some .lineLimit } })
      ∧ (p.counts.lines ≠ 32767 → p.flags.truncated = none → p.flags.framingError = false →
          p.dropPartial (.assembling ws) = { p with
            flags := { p.flags with ragged := true }
            counts := ⟨p.counts.lines + 1, p.counts.bad + 1, p.counts.repaired, p.counts.run + 1,
              if p.counts.longest < p.counts.run + 1 then p.counts.run + 1 else p.counts.longest⟩ }))
    ∧ (∀ c : Counts, c.bad ≤ c.lines → quality c ≤ 1000 ∧ (c.lines = 0 → quality c = 0)
      ∧ (0 < c.lines → 1000 * c.bad ≤ quality c * c.lines ∧ (∀ q, 1000 * c.bad ≤ q * c.lines → quality c ≤ q)
          ∧ (c.bad = c.lines → quality c = 1000) ∧ (quality c = 0 ↔ c.bad = 0)))
    ∧ (∀ (a : Acceptance) (c : Counts) (stored : Nat), verdict a c stored =
      if c.lines = 0 ∨ stored = 0 then .empty
      else if c.lines < a.minimumLines then .short
      else if c.bad = 0 then .clean
      else if quality c ≤ a.acceptLimit ∧ c.longest ≤ a.runLimit then .acceptable
      else .poor)
    ∧ ∀ (a : Acceptance) (drops : Nat), pageAction a drops .empty = (.discarded, false)
      ∧ (∀ v, v = .short ∨ v = .clean ∨ v = .acceptable → pageAction a drops v = (.committed, false))
      ∧ (a.poorAction = .keep → pageAction a drops .poor = (.committed, false))
      ∧ (a.poorAction = .drop → drops < a.retryLimit → pageAction a drops .poor = (.dropped, false))
      ∧ (a.poorAction = .drop → a.retryLimit ≤ drops → pageAction a drops .poor = (.committed, true))

/-- END_RECEPTION while no intake job is in flight (R34 to R37): the context is FREE and its reservation released; a
document with no committed page is FREE, no queue having changed, and the status EMPTY_DOCUMENT; another one completes (R36,
R113): its WAITING entries, by ascending position, are QUEUED at the tail of their class where their destination is OPEN or
PAUSED, else given to the usable fallback where the document has no entry for it, else WITHDRAWN, WORK is set at a queue
that was empty, and the document is QUEUED or UNROUTED (without a settle time: the model's reading, log 26); refused
INTAKE_BUSY while INTAKE_ACTIVE. Where no entry became QUEUED the document is UNROUTED, and (where nothing returns to the
store, so that no notice comes before) every ADMINISTER slot with room is sent UNROUTED_DOC with handle, pages, cause 0 and
the counts of UNDELIVERABLE and WITHDRAWN entries (R71). That each recipient with room is sent its copy before a copy lost
elsewhere escalates is the model's choice (log 10). -/
def Obligations.EndReception : Prop :=
  ∀ (s : State) (slot : Nat) (r : Record) (w1 w2 : Word) (n : Nat) (c : Context) (d : Document),
    s.Takes slot 0x24 r → r.words = [w1, w2] → (s.rights slot).intake = true → s.Receives slot (decodeHandle w1) n c →
    d = s.document (decodeHandle w1).index →
    (c.state = .intakeActive → exec (.endReception slot) s = .next (s.replying slot (r.reply .intakeBusy [])))
    ∧ (c.state ≠ .intakeActive → ∃ t, exec (.endReception slot) s = .next t
      ∧ t.context n = none ∧ (∀ m, m ≠ n → t.context m = s.context m)
      ∧ t.bsm.reserved = s.bsm.reserved - c.reservation
      ∧ SameDocumentsBut s t (decodeHandle w1).index ∧ t.te = s.te ∧ SameConfig s t ∧ SameStore s t
      ∧ (d.pages = [] → t.document (decodeHandle w1).index =
            { Document.free with generation := d.generation, openingSlot := d.openingSlot }
          ∧ t.dqu = s.dqu
          ∧ t.LastReply slot r .emptyDocument [word 0, word 0, word (if w2 = 0 then 0 else 1)])
      ∧ (d.pages ≠ [] → (t.document (decodeHandle w1).index).incomplete = (d.incomplete || decide (w2 ≠ 0))
          ∧ (t.document (decodeHandle w1).index).endTime = some s.tb.clock
          ∧ s.CompletesAs (decodeHandle w1).index (decide (w2 ≠ 0)) (t.document (decodeHandle w1).index)
          ∧ s.JoinsQueues t (decodeHandle w1).index (t.document (decodeHandle w1).index)
          ∧ (t.document (decodeHandle w1).index).state =
              (if (t.document (decodeHandle w1).index).countIn .queued = 0 then .unrouted else .queued)
          ∧ t.LastReply slot r .ok [word d.pages.length, word ((t.document (decodeHandle w1).index).countIn .queued),
              word (if w2 = 0 then 0 else 1)]
          ∧ ((t.document (decodeHandle w1).index).state = .unrouted → c.openPage = none → c.reservation = 0 →
              s.bsm.storeTest = s.bsm.storeHold → s.spu.underReset = [] → ∀ m, m < 16 → (s.rights m).administer = true →
              (s.taken slot).replyRoom m = true → ∃ ys, (t.station m).replies = (s.station m).replies ++
                ⟨.unroutedDoc, 0, 0xFFFF, [word ((decodeHandle w1).index + 65536 * d.generation), word d.pages.length, word 0,
                  word ((t.document (decodeHandle w1).index).countIn .undeliverable),
                  word ((t.document (decodeHandle w1).index).countIn .withdrawn)]⟩ :: ys)))

/-- ABORT_RECEPTION from the opening slot or an ADMINISTER station (R38, R39): the context and the document are FREE, the
generation and the opening slot kept; its intake job, where one is left in the engine, is detached and cancelled; the reply
counts the committed pages and the blocks of the open and the committed pages, and reports a transfer cancelled where the
reception is INTAKE_ACTIVE, also where its job was cancelled before (the model's choice, log 15); where no job is in the
engine, and the open page's record is none of the document's pages, every other document and context is as it was and the
blocks are free again. -/
def Obligations.AbortReception : Prop :=
  ∀ (s : State) (slot : Nat) (r : Record) (w1 : Word) (n : Nat) (c : Context) (d : Document) (blocks : Nat),
    s.Takes slot 0x25 r → r.words = [w1] → d = s.document (decodeHandle w1).index →
    (((s.rights slot).intake = true ∧ d.openingSlot = some slot) ∨ (s.rights slot).administer = true) →
    (decodeHandle w1).generation = d.generation → d.state = .receiving → s.contextOf (decodeHandle w1) = some n →
    s.context n = some c → c.handle.index = (decodeHandle w1).index →
    blocks = (c.openPage.elim 0 (fun p => p.blocks.length)) + (s.documentBlocks d).length →
    ∃ t, exec (.abortReception slot) s = .next t
      ∧ t.context n = none ∧ t.document (decodeHandle w1).index =
          { Document.free with generation := d.generation, openingSlot := d.openingSlot }
      ∧ t.LastReply slot r .ok [word d.pages.length, word blocks, word (if c.state = .intakeActive then 1 else 0)]
      ∧ (∀ j ∈ t.te.jobs, j.kind = .intake n → j.detached = true
          ∧ ((∀ k ∈ s.te.jobs, k.kind = .intake n → k.detached = true → k.cancelled = true) → j.cancelled = true))
      ∧ SameConfig s t ∧ SameStore s t
      ∧ (s.te.jobs = [] → (∀ p, c.openPage = some p → p.record ∉ d.pages) → SameDocumentsBut s t (decodeHandle w1).index
          ∧ (∀ m, m ≠ n → t.context m = s.context m) ∧ t.bsm.free = s.bsm.free + blocks ∧ t.bsm.reserved = s.bsm.reserved - c.reservation ∧ t.dqu = s.dqu)

/-- SET_PROFILE (R62) and GET_PROFILE (R63): the profile number and every field clamped, the poor action aliased, the fields
replaced together and reported; nothing else changes but the slot's queues, so that no notice is sent. SET_PROFILE from a slot
without ADMINISTER and GET_PROFILE from a slot without a right are refused NO_RIGHT, and any other length BAD_LENGTH. -/
def Obligations.Profiles : Prop :=
  (∀ (s : State) (slot : Nat) (r : Record) (w1 w2 w3 w4 w5 w6 w7 : Word) (p : Profile), s.Takes slot 0x26 r →
    r.words = [w1, w2, w3, w4, w5, w6, w7] →
    p = ⟨⟨min w2.toNat 1000, min w3.toNat 1000, min w4.toNat 1000, if w5 = 0 then .keep else .drop, min w6.toNat 7⟩,
      max 5 (min w7.toNat 600)⟩ →
    ((s.rights slot).administer = true → exec (.setProfile slot) s =
      .next ((s.setProfile (min w1.toNat 7) p).replying slot (r.reply .ok
        [word (min w1.toNat 7), word p.acceptance.acceptLimit, word p.acceptance.runLimit, word p.acceptance.minimumLines,
         word (if w5 = 0 then 0 else 1), word p.acceptance.retryLimit, word p.idleTimeout])))
    ∧ ((s.rights slot).administer = false → exec (.setProfile slot) s = .next (s.replying slot (r.reply .noRight []))))
    ∧ (∀ (s : State) (slot : Nat) (r : Record) (w1 : Word) (p : Profile), s.Takes slot 0x27 r → r.words = [w1] →
      p = s.profile (min w1.toNat 7) →
      ((s.rights slot).any = true → exec (.getProfile slot) s = .next (s.replying slot (r.reply .ok
        [word (min w1.toNat 7), word p.acceptance.acceptLimit, word p.acceptance.runLimit, word p.acceptance.minimumLines,
         word p.acceptance.poorAction.code, word p.acceptance.retryLimit, word p.idleTimeout])))
      ∧ ((s.rights slot).any = false → exec (.getProfile slot) s = .next (s.replying slot (r.reply .noRight []))))
    ∧ ∀ (s : State) (slot : Nat) (r : Record), s.HasHead slot r →
      (r.header.code = 0x26 → (r.header.badLength = true ∨ r.words.length ≠ 7) →
        exec (.setProfile slot) s = .next (s.replying slot (r.reply .badLength [])))
      ∧ (r.header.code = 0x27 → (r.header.badLength = true ∨ r.words.length ≠ 1) →
        exec (.getProfile slot) s = .next (s.replying slot (r.reply .badLength [])))

/-- The spec's promises for the whole part, each kept by every step from every state that has it (the tables canonical). The ports:
queued and reserved replies of a station are at most 32 and its requests, with the place of an open assembly, at most 8, one reply
slot being reserved for each job that will reply (R169, R170, R172), and a RECOVERING part neither requests nor holds the bus
(R166, R196). The store: no block is in two places, and while the part is not
RECOVERING each of the 131,072 is in one, S is the sum of the remaining reservations, and S is at most F (R1, R2, R4). The queues: an
entry is in its destination's queue, once and in its document's class, exactly when it is QUEUED, in its checkout list exactly when
it is CHECKED_OUT, and no document has two entries for one destination (R111, R125). That the three hold after reset stands in
`ResetValues`. -/
def Obligations.PromisesKept : Prop :=
  (∀ s t : State, s.Canonical → s.PortsSound → step s = .next t → t.PortsSound)
    ∧ (∀ s t : State, s.Canonical → s.StoreSound → step s = .next t → t.StoreSound)
    ∧ ∀ s t : State, s.Canonical → s.QueuesSound → step s = .next t → t.QueuesSound

/-- The parser (R46, R47): a STOPPED one takes nothing in; a header of length 4,093 or more makes a framing error; one of
length 0 is a record by itself; any other is held until the last word its length calls for, and the record is then offered
for storage. A complete record (R48 to R50) is discarded at 32,767 lines (LINE_LIMIT). Where it fits the last block it is
written behind the bytes stored before, which are unchanged, as is every byte of the store but those written (at the page's
chain positions); the counts follow R48 (every record adds a line; BAD adds to B and to the run, and raises R to the run;
REPAIRED adds to P; GOOD and REPAIRED set the run to 0; the others stay). Where it does not fit, a page of 256 blocks is
TRUNCATED with SIZE_LIMIT; otherwise the block on top of the stack is taken, from the reservation or from the pool (R7),
linked behind the page's last block with END in its own link (R3), and the record written across both; without reservation
and with A at the floor the block is refused, the page is TRUNCATED with STORE_EXHAUSTED, the job takes no further word, and
the block store does not change (R8, R50). -/
def Obligations.RecordStored : Prop :=
  (∀ (s : State) (n : Nat) (c : Context) (p : OpenPage) (w : Word) (k : Nat), s.context n = some c → c.openPage = some p →
      k = 1 + (w.toNat % 65536 + 3) / 4 →
      (c.parser = .stopped → s.parseWord n w = (s, false))
      ∧ (c.parser = .empty → 4093 ≤ w.toNat % 65536 → s.parseWord n w = (s.setContext n (some { c with
          parser := .stopped, openPage := some { p with flags := { p.flags with framingError := true } } }), false))
      ∧ (c.parser = .empty → w.toNat % 65536 = 0 → s.parseWord n w = s.storeRecord n c p [w])
      ∧ (c.parser = .empty → 1 ≤ w.toNat % 65536 → w.toNat % 65536 ≤ 4092 →
          s.parseWord n w = (s.setContext n (some { c with parser := .assembling [w] }), false))
      ∧ ∀ (ws : List Word) (x : Word), c.parser = .assembling (w :: ws) →
        (ws.length + 2 = k → s.parseWord n x = s.storeRecord n c p (w :: ws ++ [x]))
        ∧ (ws.length + 2 < k → s.parseWord n x =
            (s.setContext n (some { c with parser := .assembling (w :: ws ++ [x]) }), false)))
    ∧ ∀ (s : State) (n : Nat) (c : Context) (p : OpenPage) (ws : List Word) (t : State) (full : Bool) (k : Counts),
    k = (if (ws.headD 0).toNat / 65536 = 0 then ⟨p.counts.lines + 1, p.counts.bad, p.counts.repaired, 0, p.counts.longest⟩
      else if (ws.headD 0).toNat / 65536 = 1 then ⟨p.counts.lines + 1, p.counts.bad, p.counts.repaired + 1, 0, p.counts.longest⟩
      else ⟨p.counts.lines + 1, p.counts.bad + 1, p.counts.repaired, p.counts.run + 1,
        if p.counts.longest < p.counts.run + 1 then p.counts.run + 1 else p.counts.longest⟩) →
    p.blocks.Nodup → ws ≠ [] → ws.length ≤ 1024 → p.storedBytes ≤ 4096 * p.blocks.length → s.storeRecord n c p ws = (t, full) →
    (p.counts.lines = 32767 → full = false ∧ t = s.setContext n (some { c with
      parser := .stopped
      openPage := c.openPage.map (fun q => { q with flags := { q.flags with truncated := some .lineLimit } }) }))
    ∧ (p.counts.lines < 32767 → p.storedBytes + 4 * ws.length ≤ 4096 * p.blocks.length →
      full = false
      ∧ t.bsm.readChain p.blocks p.storedBytes (4 * ws.length) = bytesOf ws
      ∧ t.bsm.readChain p.blocks 0 p.storedBytes = s.bsm.readChain p.blocks 0 p.storedBytes
      ∧ (∀ a, (∀ k, p.storedBytes ≤ k → k < p.storedBytes + 4 * ws.length → chainAddress p.blocks k ≠ some a) →
          t.bsm.readByte a = s.bsm.readByte a)
      ∧ t.context n = some { c with
          parser := .empty, openPage := some { p with storedBytes := p.storedBytes + 4 * ws.length, counts := k } }
      ∧ t.bsm.links = s.bsm.links ∧ t.bsm.stack = s.bsm.stack ∧ t.bsm.reserved = s.bsm.reserved ∧ t.dt = s.dt ∧ t.te = s.te)
    ∧ (p.counts.lines < 32767 → 4096 * p.blocks.length < p.storedBytes + 4 * ws.length → 256 ≤ p.blocks.length →
      full = false ∧ t = s.setContext n (some { c with
        parser := .stopped
        openPage := c.openPage.map (fun q => { q with flags := { q.flags with truncated := some .sizeLimit } }) }))
    ∧ (p.counts.lines < 32767 → 4096 * p.blocks.length < p.storedBytes + 4 * ws.length → p.blocks.length < 256 →
      c.reservation = 0 → s.bsm.available ≤ s.bsm.floor →
      full = true ∧ t = s.setContext n (some { c with
        parser := .stopped
        openPage := c.openPage.map (fun q => { q with flags := { q.flags with truncated := some .storeExhausted } }) }))
    ∧ ∀ (b : Block) (rest : List Nat), p.counts.lines < 32767 → 4096 * p.blocks.length < p.storedBytes + 4 * ws.length →
      p.blocks.length < 256 → 0 < c.reservation ∨ s.bsm.floor < s.bsm.available → s.bsm.stack = b.val :: rest → b ∉ p.blocks →
      full = false ∧ t.bsm.stack = rest
      ∧ t.bsm.reserved = (if 0 < c.reservation then s.bsm.reserved - 1 else s.bsm.reserved)
      ∧ t.bsm.link b = none ∧ (∀ m, p.blocks.getLast? = some m → t.bsm.link m = some b)
      ∧ (∀ m, m ≠ b → p.blocks.getLast? ≠ some m → t.bsm.link m = s.bsm.link m)
      ∧ t.bsm.readChain (p.blocks ++ [b]) p.storedBytes (4 * ws.length) = bytesOf ws
      ∧ t.bsm.readChain (p.blocks ++ [b]) 0 p.storedBytes = s.bsm.readChain p.blocks 0 p.storedBytes
      ∧ (∀ a, (∀ k, p.storedBytes ≤ k → k < p.storedBytes + 4 * ws.length → chainAddress (p.blocks ++ [b]) k ≠ some a) →
          t.bsm.readByte a = s.bsm.readByte a)
      ∧ t.context n = some { c with
          parser := .empty, reservation := if 0 < c.reservation then c.reservation - 1 else 0
          openPage := some { p with
            blocks := p.blocks ++ [b], storedBytes := p.storedBytes + 4 * ws.length, counts := k } }
      ∧ (∀ m, m ≠ n → t.context m = s.context m) ∧ t.dt = s.dt ∧ t.te = s.te ∧ SameConfig s t

/-! ## The document table -/

/-- DOC_INFO read whole by an ADMINISTER station (R80, R82): the words of every part; nothing else changes but the slot's
queues. A reserved part number is read as part 0 (that it is echoed as 0 is the model's choice, log 20). -/
def Obligations.DocInfo : Prop :=
  ∀ (s : State) (slot : Nat) (r : Record) (w1 w2 : Word) (d : Document), s.Takes slot 0x30 r → r.words = [w1, w2] →
    (s.rights slot).administer = true → d = s.document (decodeHandle w1).index → (decodeHandle w1).generation = d.generation →
    (w2.toNat = 0 ∨ 12 ≤ w2.toNat → exec (.docInfo slot) s = .next (s.replying slot (r.reply .ok
      [word 0, word d.state.code, optWord d.openingSlot, word d.lineId, word d.routeSource.code, word d.priority.code,
       word d.retentionClass, word (bit d.confidential), word (bit d.legalHold),
       word ((if d.incomplete then 1 else 0) + (if d.poorPages then 2 else 0) + (if d.truncatedPages then 4 else 0)),
       word d.pages.length, word d.totalBlocks, word d.entryList.length, word d.outstandingSet.length,
       word (s.te.jobs.filter (fun j => j.reads (decodeHandle w1).index)).length])))
    ∧ (w2.toNat = 1 → exec (.docInfo slot) s = .next (s.replying slot (r.reply .ok
        (word 1 :: (optStamp d.receiveTime ++ optStamp d.endTime ++ optUptime d.settleTime ++ optUptime d.retentionDeadline)))))
    ∧ (w2.toNat = 2 → exec (.docInfo slot) s = .next (s.replying slot (r.reply .ok
        (word 2 :: (countedString d.calledDigits ++ countedString d.callerNumber)))))
    ∧ (w2.toNat = 3 → exec (.docInfo slot) s = .next (s.replying slot (r.reply .ok
        (word 3 :: (countedString d.sender ++ countedString d.matter)))))
    ∧ (∀ e, 4 ≤ w2.toNat → w2.toNat ≤ 11 → d.entry (w2.toNat - 3) = some e →
        exec (.docInfo slot) s = .next (s.replying slot (r.reply .ok
          ([word w2.toNat, word e.state.code, word e.destination, optWord e.original, word e.attempts, word e.ticket]
            ++ optUptime e.deadline ++ (optUptime e.settleTime).take 1))))
    ∧ (4 ≤ w2.toNat → w2.toNat ≤ 11 → d.entry (w2.toNat - 3) = none →
        exec (.docInfo slot) s = .next (s.replying slot (r.reply .ok
          ([word w2.toNat, word 0] ++ List.replicate 7 0xFFFFFFFF))))

/-- What a delivery viewer is shown (R80, R81, R82): of a document with no entry for a destination bound to its slot, nothing,
the command being refused NOT_VISIBLE; else, in DOC_INFO, an entry bound elsewhere reads as absent and is counted neither among the
entries nor among the outstanding ones; legal hold, retention class, retention deadline and route source read as absent; the
caller number and the sender of a confidential document read as empty strings; and every other field reads as in the full
record. A reserved part number is read as part 0 (that it is echoed as 0 is the model's choice, log 20). -/
def Obligations.DeliveryView : Prop :=
  ∀ (s : State) (slot : Nat) (r : Record) (w1 w2 : Word) (d : Document), s.Takes slot 0x30 r → r.words = [w1, w2] →
    (s.rights slot).administer = false → (s.rights slot).deliver = true → d = s.document (decodeHandle w1).index →
    (decodeHandle w1).generation = d.generation →
    ((∀ x ∈ d.entryList, (s.destination x.2.destination).bound ≠ some slot) →
      exec (.docInfo slot) s = .next (s.replying slot (r.reply .notVisible [])))
    ∧ ((∃ x ∈ d.entryList, (s.destination x.2.destination).bound = some slot) →
      (w2.toNat = 0 ∨ 12 ≤ w2.toNat → exec (.docInfo slot) s = .next (s.replying slot (r.reply .ok
        [word 0, word d.state.code, optWord d.openingSlot, word d.lineId, 0xFFFFFFFF, word d.priority.code, 0xFFFFFFFF,
         word (bit d.confidential), 0xFFFFFFFF,
         word ((if d.incomplete then 1 else 0) + (if d.poorPages then 2 else 0) + (if d.truncatedPages then 4 else 0)),
         word d.pages.length, word d.totalBlocks,
         word (d.entryList.filter (fun x => decide ((s.destination x.2.destination).bound = some slot))).length,
         word (d.entryList.filter (fun x => x.2.outstanding
           && decide ((s.destination x.2.destination).bound = some slot))).length,
         word (s.te.jobs.filter (fun j => j.reads (decodeHandle w1).index)).length])))
      ∧ (w2.toNat = 1 → exec (.docInfo slot) s = .next (s.replying slot (r.reply .ok
        (word 1 :: (optStamp d.receiveTime ++ optStamp d.endTime ++ optUptime d.settleTime ++ [0xFFFFFFFF, 0xFFFFFFFF])))))
      ∧ (w2.toNat = 2 → exec (.docInfo slot) s = .next (s.replying slot (r.reply .ok
          (word 2 :: (countedString d.calledDigits ++ countedString (if d.confidential then [] else d.callerNumber))))))
      ∧ (w2.toNat = 3 → exec (.docInfo slot) s = .next (s.replying slot (r.reply .ok
          (word 3 :: (countedString (if d.confidential then [] else d.sender) ++ countedString d.matter)))))
      ∧ (4 ≤ w2.toNat → w2.toNat ≤ 11 → d.entry (w2.toNat - 3) = none →
          exec (.docInfo slot) s = .next (s.replying slot (r.reply .ok
            ([word w2.toNat, word 0] ++ List.replicate 7 0xFFFFFFFF))))
      ∧ ∀ e, 4 ≤ w2.toNat → w2.toNat ≤ 11 → d.entry (w2.toNat - 3) = some e →
          ((s.destination e.destination).bound ≠ some slot → exec (.docInfo slot) s = .next (s.replying slot (r.reply .ok
            ([word w2.toNat, word 0] ++ List.replicate 7 0xFFFFFFFF))))
          ∧ ((s.destination e.destination).bound = some slot → exec (.docInfo slot) s = .next (s.replying slot (r.reply .ok
            ([word w2.toNat, word e.state.code, word e.destination, optWord e.original, word e.attempts, word e.ticket]
              ++ optUptime e.deadline ++ (optUptime e.settleTime).take 1)))))

/-- PAGE_INFO by an ADMINISTER station, or by a delivery viewer that may name the document (R83, R80): the words of a committed
page, or BAD_FIELD for a page number that is not one; nothing else changes but the slot's queues. -/
def Obligations.PageInfo : Prop :=
  ∀ (s : State) (slot : Nat) (r : Record) (w1 w2 : Word) (d : Document), s.Takes slot 0x31 r → r.words = [w1, w2] →
    d = s.document (decodeHandle w1).index → (decodeHandle w1).generation = d.generation →
    ((s.rights slot).administer = true ∨ ((s.rights slot).deliver = true
      ∧ ∃ x ∈ d.entryList, (s.destination x.2.destination).bound = some slot)) →
    (w2.toNat = 0 ∨ d.pages.length < w2.toNat →
        exec (.pageInfo slot) s = .next (s.replying slot (r.reply .badField [])))
    ∧ ∀ q p, 1 ≤ w2.toNat → d.pages[w2.toNat - 1]? = some q → s.page q = some p →
        exec (.pageInfo slot) s = .next (s.replying slot (r.reply .ok
          [word p.number, optWord (p.firstBlock.map Fin.val), word p.blockCount, word p.storedBytes, word p.lines, word p.bad,
           word p.repaired, word p.longest, word p.quality, word p.verdict.code,
           word ((if p.flags.truncated.isSome then 1 else 0) + 2 * truncationCode p.flags.truncated
             + (if p.flags.framingError then 8 else 0) + (if p.flags.ragged then 16 else 0)
             + (if p.flags.poorForced then 32 else 0))]))

/-- SET_DOC_ATTR (R84 to R86). From an ADMINISTER station each of the four fields is kept or replaced, and a DONE document's
deadline follows a new class; where that makes it due for release it is freed, and the reply shows FREE (and in its other
words what the command wrote: the model's choice, log 36). That the release test runs also where class and hold are both
kept is the model's choice (log 42). A string that comes with a KEEP is ignored (the model's choice, log 37). From a
delivery viewer the matter reference alone is written. A FREE or PURGE_PENDING document refuses the command WRONG_STATE.
Nothing else changes but the slot's queues and, on a release, the document's store. -/
def Obligations.SetDocAttr : Prop :=
  ∀ (s : State) (slot : Nat) (r : Record) (w1 w2 w3 w4 w5 : Word) (ws : List Word) (cs matter : List Byte) (d d' : Document),
    s.Takes slot 0x32 r → r.words = w1 :: w2 :: w3 :: w4 :: w5 :: ws → CountedAs ws cs →
    d = s.document (decodeHandle w1).index → (decodeHandle w1).generation = d.generation → matter = (if w2 = 1 then cs.take 16 else d.matter) →
    d' = { d with
      matter := matter
      legalHold := if w3 = 0 then false else if w3 = 1 then true else d.legalHold
      retentionClass := if w4.toNat ≤ 7 then w4.toNat else d.retentionClass
      confidential := if w5 = 0 then false else if w5 = 1 then true else d.confidential
      retentionDeadline := match d.settleTime with
        | some t => if d.state = .done ∧ w4.toNat ≤ 7 then some (t + 60000 * s.retentionMinutes w4.toNat)
            else d.retentionDeadline
        | none => d.retentionDeadline } →
    ((d.state = .free ∨ d.state = .purgePending) → ((s.rights slot).administer = true ∨ ((s.rights slot).deliver = true
        ∧ ∃ x ∈ d.entryList, (s.destination x.2.destination).bound = some slot)) →
      exec (.setDocAttr slot) s = .next (s.replying slot (r.reply .wrongState [])))
    ∧ (d.state ≠ .free → d.state ≠ .purgePending → (s.rights slot).administer = true →
      ((d.state ≠ .done ∨ (∀ t, d'.retentionDeadline = some t → s.tb.uptime < t) ∨ d'.legalHold = true
          ∨ 0 < s.activeJobs (decodeHandle w1).index) →
        exec (.setDocAttr slot) s = .next ((s.setDocument (decodeHandle w1).index d').replying slot (r.reply .ok
          ([word (if w2 = 1 ∧ 16 < cs.length then 1 else 0), word (bit d'.legalHold), word d'.retentionClass,
            word (bit d'.confidential), word d.state.code] ++ countedString matter))))
      ∧ (∀ t0, d.state = .done → d'.retentionDeadline = some t0 → t0 ≤ s.tb.uptime → d'.legalHold = false →
          s.activeJobs (decodeHandle w1).index = 0 → d.outstandingSet = [] →
        ∃ t, exec (.setDocAttr slot) s = .next t
          ∧ t.document (decodeHandle w1).index =
              { Document.free with generation := d.generation, openingSlot := d.openingSlot }
          ∧ SameDocumentsBut s t (decodeHandle w1).index ∧ t.iu = s.iu ∧ t.dqu = s.dqu ∧ t.te = s.te ∧ SameConfig s t
          ∧ SameStore s t
          ∧ t.LastReply slot r .ok ([word (if w2 = 1 ∧ 16 < cs.length then 1 else 0), word 0, word d'.retentionClass,
              word (bit d'.confidential), word 0] ++ countedString matter)))
    ∧ (d.state ≠ .free → d.state ≠ .purgePending → (s.rights slot).administer = false → (s.rights slot).deliver = true →
      (∃ x ∈ d.entryList, (s.destination x.2.destination).bound = some slot) →
      exec (.setDocAttr slot) s = .next ((s.setDocument (decodeHandle w1).index { d with matter := matter }).replying slot
        (r.reply .ok ([word (if w2 = 1 ∧ 16 < cs.length then 1 else 0), 0xFFFFFFFF, 0xFFFFFFFF, word (bit d.confidential),
          word d.state.code] ++ countedString matter))))

/-- PURGE (R77, R78). Of a QUEUED, UNROUTED or DONE document without legal hold: nothing of it is outstanding, its QUEUED
and CHECKED_OUT entries have left their queues and checkout lists, a DRAINING destination whose list so emptied being
CLOSED, its delivery jobs still in the engine are cancelled, and it is FREE, or PURGE_PENDING while such a job is left; the
reply. Where the engine is empty, every other document is as it was, and its blocks are free again. Of a RECEIVING document
without legal hold it has the effects of ABORT_RECEPTION (R39): context and document are FREE, generation and opening slot
kept, and the reply gives its committed pages, the blocks of the open and the committed pages, its WAITING entries, 1 where
the reception is INTAKE_ACTIVE, and FREE; with no job in the engine, and the open page's record none of the document's
pages, every other document and context is as it was and the blocks are free again. Under legal hold both are refused HELD;
a FREE or PURGE_PENDING one WRONG_STATE. The jobs counted are those newly cancelled, and an INTAKE_ACTIVE reception counts
also where its job was cancelled before (the model's choice, log 15); a document that a job's end released is reported as
freed (log 34). -/
def Obligations.Purge : Prop :=
  ∀ (s : State) (slot : Nat) (r : Record) (w1 : Word) (i : Nat) (d : Document), s.Takes slot 0x33 r → r.words = [w1] →
    (s.rights slot).administer = true → i = (decodeHandle w1).index → d = s.document i →
    (decodeHandle w1).generation = d.generation →
    (d.state = .free ∨ d.state = .purgePending → exec (.purge slot) s = .next (s.replying slot (r.reply .wrongState [])))
    ∧ (d.legalHold = true → d.state = .receiving ∨ d.state = .queued ∨ d.state = .unrouted ∨ d.state = .done →
      exec (.purge slot) s = .next (s.replying slot (r.reply .held [])))
    ∧ (d.state = .queued ∨ d.state = .unrouted ∨ d.state = .done → d.legalHold = false → ∃ t, exec (.purge slot) s = .next t
      ∧ (t.document i).outstandingSet = [] ∧ (t.document i).generation = d.generation
      ∧ (t.document i).state = (if t.activeJobs i = 0 then .free else .purgePending)
      ∧ ((t.document i).state = .free → t.document i =
          { Document.free with generation := d.generation, openingSlot := d.openingSlot })
      ∧ ((t.document i).state = .purgePending → t.document i = { d with state := .purgePending, entries := (t.document i).entries }
          ∧ ∀ p e, 1 ≤ p → p ≤ 8 → d.entry p = some e → (t.document i).entry p = some (if e.outstanding = true then { e with
              state := .withdrawn, settleTime := some s.tb.uptime, deadline := none } else e))
      ∧ (∀ x named left, named = (fun st p => decide (1 ≤ p ∧ p ≤ 8) && (d.entry p).any (fun e =>
            decide (e.destination = x ∧ e.state = st))) →
          left = (s.destination x).checkouts.filter (fun y => !(decide (y.handle.index = i) && named .checkedOut y.position)) →
          t.destination x = { s.destination x with
            checkouts := left
            urgent := (s.destination x).urgent.filter (fun y => !(decide (y.handle.index = i) && named .queued y.position))
            normal := (s.destination x).normal.filter (fun y => !(decide (y.handle.index = i) && named .queued y.position))
            state := if (s.destination x).state = .draining ∧ (List.range 9).any (named .checkedOut) = true ∧ left = [] then .closed
              else (s.destination x).state })
      ∧ (∀ j ∈ t.te.jobs, j.reads i = true → j.cancelled = true)
      ∧ SameConfig s t ∧ SameStore s t
      ∧ t.LastReply slot r .ok [word (if (t.document i).state = .free then d.pages.length else 0),
          word (if (t.document i).state = .free then (s.documentBlocks d).length else 0), word d.outstandingSet.length,
          word (s.te.jobs.filter (fun j => j.reads i && !j.cancelled)).length, word (t.document i).state.code]
      ∧ (s.te.jobs = [] → SameDocumentsBut s t i ∧ t.iu = s.iu
          ∧ t.bsm.free = s.bsm.free + (s.documentBlocks d).length ∧ t.bsm.reserved = s.bsm.reserved))
    ∧ ∀ (n : Nat) (c : Context) (blocks : Nat), d.state = .receiving → d.legalHold = false →
      s.contextOf (decodeHandle w1) = some n → s.context n = some c → c.handle.index = i →
      blocks = (c.openPage.elim 0 (fun p => p.blocks.length)) + (s.documentBlocks d).length →
      ∃ t, exec (.purge slot) s = .next t
        ∧ t.context n = none
        ∧ t.document i = { Document.free with generation := d.generation, openingSlot := d.openingSlot }
        ∧ t.LastReply slot r .ok [word d.pages.length, word blocks,
            word (d.entryList.filter (fun x => decide (x.2.state = .waiting))).length,
            word (if c.state = .intakeActive then 1 else 0), word 0]
        ∧ (∀ j ∈ t.te.jobs, j.kind = .intake n → j.detached = true
            ∧ ((∀ k ∈ s.te.jobs, k.kind = .intake n → k.detached = true → k.cancelled = true) → j.cancelled = true))
        ∧ SameConfig s t ∧ SameStore s t
        ∧ (s.te.jobs = [] → (∀ p, c.openPage = some p → p.record ∉ d.pages) → SameDocumentsBut s t i
            ∧ (∀ m, m ≠ n → t.context m = s.context m) ∧ t.bsm.free = s.bsm.free + blocks
            ∧ t.bsm.reserved = s.bsm.reserved - c.reservation ∧ t.dqu = s.dqu)

/-- LIST_DOCS (R87): the handles of the first 12 records, from the start index up, whose state passes the filter, and the index
to resume at. DEST_STATUS (R122) from an ADMINISTER station or from the slot the destination is bound to. Nothing else changes
but the slot's queues. -/
def Obligations.ListDocsAndDestStatus : Prop :=
  (∀ (s : State) (slot : Nat) (r : Record) (w1 w2 : Word) (found : List Nat), s.Takes slot 0x34 r → r.words = [w1, w2] →
    (s.rights slot).administer = true →
    found = ((List.range 4096).filter (fun i => decide (min w2.toNat 4095 ≤ i
      ∧ if w1.toNat ≤ 5 then (s.document i).state.code = w1.toNat else (s.document i).state ≠ .free))).take 12 →
    exec (.listDocs slot) s = .next (s.replying slot (r.reply .ok ([word found.length,
        word (match found.getLast? with
          | none => 4096
          | some last => if found.length = 12 ∧ last < 4095 then last + 1 else 4096)]
      ++ found.map (fun i => word (i + 65536 * (s.document i).generation))))))
    ∧ ∀ (s : State) (slot : Nat) (r : Record) (w1 : Word) (n : Nat) (d : Destination), s.Takes slot 0x54 r → r.words = [w1] →
      n = min w1.toNat 31 → d = s.destination n →
      (((s.rights slot).administer = true ∨ ((s.rights slot).any = true ∧ d.bound = some slot)) →
        exec (.destStatus slot) s = .next (s.replying slot (r.reply .ok
          ([word n, word d.state.code, word (d.bound.getD 16), word d.holdTime, word d.attemptLimit, word d.checkoutLimit,
            word (d.urgent.length + d.normal.length), word d.urgent.length, word d.checkouts.length,
            (match (d.urgent ++ d.normal).head? with
              | none => 0xFFFFFFFF
              | some x => word (x.handle.index + 65536 * x.handle.generation)),
            word (if s.rtu.fallback = some n then 1 else 0)] ++ countedString d.label))))
      ∧ ((s.rights slot).administer = false → (s.rights slot).any = true → d.bound ≠ some slot →
        exec (.destStatus slot) s = .next (s.replying slot (r.reply .notVisible [])))

/-! ## Routing -/

/-- ROUTE_SET (R98, R100 to R102): the fields clamped and aliased, the digits cut at 16, the entry replaced; refused
BAD_FIELD for a prefix that is empty or holds no digit, SET_TOO_LARGE for a set of more than 8 members and DUPLICATE_PREFIX
where another entry holds the digits; nothing else changes but the slot's queues. -/
def Obligations.RouteSet : Prop :=
  ∀ (s : State) (slot : Nat) (r : Record) (w1 w2 w3 w4 w5 w6 w7 w8 w9 : Word) (ws : List Word) (cs : List Byte) (i : Nat) (x : Route),
    s.Takes slot 0x40 r → r.words = w1 :: w2 :: w3 :: w4 :: w5 :: w6 :: w7 :: w8 :: w9 :: ws → CountedAs ws cs →
    (s.rights slot).administer = true →
    i = min w1.toNat 1023 → s.rtu.routes.WF none →
    x = ⟨w2, w3, w4.extractLsb' 0 7, min w5.toNat 1439, min w6.toNat 1439, if w7 = 1 then .urgent else .normal,
      min w8.toNat 7, decide (w9 = 1)⟩ →
    ((cs = [] ∨ ∃ c ∈ cs, c.toNat < 0x30 ∨ 0x39 < c.toNat) → exec (.routeSet slot) s = .next (s.replying slot (r.reply .badField [])))
    ∧ (cs ≠ [] → (∀ c ∈ cs, 0x30 ≤ c.toNat ∧ c.toNat ≤ 0x39) → ((8 < (members w2).length ∨ 8 < (members w3).length) →
      exec (.routeSet slot) s = .next (s.replying slot (r.reply .setTooLarge [])))
    ∧ ((members w2).length ≤ 8 → (members w3).length ≤ 8 →
      ((∃ m e, m ≠ i ∧ s.routeEntry m = some e ∧ e.digits = cs.take 16) →
        exec (.routeSet slot) s = .next (s.replying slot (r.reply .duplicatePrefix [])))
      ∧ ((∀ m e, m ≠ i → s.routeEntry m = some e → e.digits ≠ cs.take 16) →
        exec (.routeSet slot) s = .next ((s.setRouteEntry i (some ⟨cs.take 16, x⟩)).replying slot (r.reply .ok
          [word i, word (bit (s.routeEntry i).isSome), word (min cs.length 16), word (if 16 < cs.length then 1 else 0),
           word x.start, word x.stop, word x.retentionClass])))))

/-- ROUTE_CLEAR (R103), SET_DEFAULT_ROUTE (R106), SET_FALLBACK (R107) and SET_RETENTION (R88): what each stores, clamped, and
its reply; a named fallback that is CLOSED or DRAINING is refused DEST_UNAVAILABLE; nothing else changes but the slot's
queues. -/
def Obligations.RoutingSettings : Prop :=
  ∀ (s : State) (slot : Nat) (r : Record), (s.rights slot).administer = true →
    (∀ w1, s.Takes slot 0x41 r → r.words = [w1] → exec (.routeClear slot) s = .next
      ((s.setRouteEntry (min w1.toNat 1023) none).replying slot (r.reply .ok
        [word (min w1.toNat 1023), word (bit (s.routeEntry (min w1.toNat 1023)).isSome)])))
    ∧ (∀ w1 w2 w3 w4 w5 w6 w7 w8 x, s.Takes slot 0x44 r → r.words = [w1, w2, w3, w4, w5, w6, w7, w8] →
      x = Route.mk w1 w2 (w3.extractLsb' 0 7) (min w4.toNat 1439) (min w5.toNat 1439) (if w6 = 1 then .urgent else .normal)
        (min w7.toNat 7) (decide (w8 = 1)) →
      ((8 < (members w1).length ∨ 8 < (members w2).length) →
        exec (.setDefaultRoute slot) s = .next (s.replying slot (r.reply .setTooLarge [])))
      ∧ ((members w1).length ≤ 8 → (members w2).length ≤ 8 → exec (.setDefaultRoute slot) s = .next
        ({ s with rtu := { s.rtu with defaultRoute := x } }.replying slot (r.reply .ok
          [w1, w2, word (w3.toNat % 128), word x.start, word x.stop, word x.priority.code, word x.retentionClass,
           word (bit x.confidential)]))))
    ∧ (∀ w1, s.Takes slot 0x45 r → r.words = [w1] →
      (31 < w1.toNat → exec (.setFallback slot) s = .next ({ s with rtu := { s.rtu with fallback := none } }.replying slot
        (r.reply .ok [word 32, word (s.rtu.fallback.getD 32)])))
      ∧ (w1.toNat ≤ 31 → (s.destination w1.toNat).state = .opened ∨ (s.destination w1.toNat).state = .paused →
        exec (.setFallback slot) s = .next ({ s with rtu := { s.rtu with fallback := some w1.toNat } }.replying slot
          (r.reply .ok [w1, word (s.rtu.fallback.getD 32)])))
      ∧ (w1.toNat ≤ 31 → (s.destination w1.toNat).state = .closed ∨ (s.destination w1.toNat).state = .draining →
        exec (.setFallback slot) s = .next (s.replying slot (r.reply .destUnavailable []))))
    ∧ ∀ w1 w2, s.Takes slot 0x35 r → r.words = [w1, w2] → exec (.setRetention slot) s = .next
      ({ s with dt := { s.dt with retention := s.dt.retention.write 0 (min w1.toNat 7) (min w2.toNat 65535) } }.replying slot
        (r.reply .ok [word (min w1.toNat 7), word (min w2.toNat 65535), word (s.retentionMinutes (min w1.toNat 7))]))

/-- ROUTE_GET (R104) and ROUTE_LOOKUP (R105) of an ADMINISTER station: the words of a VALID entry, of an EMPTY one and of the
default route; and the words of a resolution, which changes nothing, and is refused BAD_FIELD for a character
that is no digit. The last count is the number of VALID entries: the cells of
a canonical route table are exactly those. -/
def Obligations.RouteReads : Prop :=
  ∀ (s : State) (slot : Nat) (r : Record), (s.rights slot).administer = true →
    (∀ w1 e, s.Takes slot 0x42 r → r.words = [w1] → w1.toNat < 1024 → s.routeEntry w1.toNat = some e →
      exec (.routeGet slot) s = .next (s.replying slot (r.reply .ok
        ([w1, word 1, e.route.business, e.route.afterHours, word e.route.days.toNat, word e.route.start, word e.route.stop,
          word e.route.priority.code, word e.route.retentionClass, word (bit e.route.confidential),
          word (s.rtu.fallback.getD 32), word s.rtu.routes.cells.length] ++ countedString e.digits))))
    ∧ (∀ w1, s.Takes slot 0x42 r → r.words = [w1] → w1.toNat < 1024 → s.routeEntry w1.toNat = none →
      exec (.routeGet slot) s = .next (s.replying slot (r.reply .ok
        [w1, word 0, 0, 0, 0, 0, 0, 0, 0, 0, word (s.rtu.fallback.getD 32), word s.rtu.routes.cells.length, 0])))
    ∧ (∀ w1 d, s.Takes slot 0x42 r → r.words = [w1] → 1024 ≤ w1.toNat → d = s.rtu.defaultRoute →
      exec (.routeGet slot) s = .next (s.replying slot (r.reply .ok
        [word 1024, word 1, d.business, d.afterHours, word d.days.toNat, word d.start, word d.stop, word d.priority.code,
         word d.retentionClass, word (bit d.confidential), word (s.rtu.fallback.getD 32), word s.rtu.routes.cells.length, 0])))
    ∧ (∀ cs x, s.Takes slot 0x43 r → CountedAs r.words cs → x = s.resolve (cs.take 16) →
      ((∃ c ∈ cs, c.toNat < 0x30 ∨ 0x39 < c.toNat) → exec (.routeLookup slot) s = .next (s.replying slot (r.reply .badField [])))
      ∧ ((∀ c ∈ cs, 0x30 ≤ c.toNat ∧ c.toNat ≤ 0x39) → exec (.routeLookup slot) s = .next (s.replying slot (r.reply .ok
        [word x.source.code, word (bit x.windowHeld), word (if x.windowHeld then 0 else 1), x.chosen, x.replacement.delivery,
         x.replacement.replaced, x.replacement.removed, word x.route.priority.code, word x.route.retentionClass,
         word (bit x.route.confidential), word (if 16 < cs.length then 1 else 0)]))))
    ∧ (s.rtu.routes.WF none → (s.rtu.routes.cells.map Prod.fst).Nodup
      ∧ ∀ i, i ∈ s.rtu.routes.cells.map Prod.fst ↔ (s.routeEntry i).isSome = true)

/-- Resolution (R93 to R95). The source is the VALID entry whose digits are the longest that begin the called digits, and the
default route where none does. The business-hours set is chosen exactly while the clock is SET, the day of week is in the day
set and start ≤ minute < stop. Of the chosen set the members OPEN or PAUSED stay; where some member is closed, a usable fallback
joins in its place, and without one the closed members are removed. -/
def Obligations.RouteResolved : Prop :=
  ∀ (s : State) (called : List Byte) (x : Resolution), s.rtu.routes.WF none → x = s.resolve called →
    ((x.source = .default ∧ x.route = s.rtu.defaultRoute
        ∧ ∀ i e, s.routeEntry i = some e → e.digits ≠ [] → ¬ e.digits <+: called)
      ∨ ∃ i e, s.routeEntry i = some e ∧ e.digits ≠ [] ∧ e.digits <+: called ∧ x.source = .entry i ∧ x.route = e.route
        ∧ ∀ j f, s.routeEntry j = some f → f.digits <+: called → f.digits.length ≤ e.digits.length)
    ∧ (x.windowHeld = true ↔ s.tb.clock.isSet = true ∧ x.route.days.getLsbD s.tb.clock.dayOfWeek = true
        ∧ x.route.start ≤ s.tb.clock.minute ∧ s.tb.clock.minute < x.route.stop)
    ∧ x.chosen = (if x.windowHeld = true then x.route.business else x.route.afterHours)
    ∧ (∀ d, d < 32 → (member x.replacement.delivery d = true ↔
        (member x.chosen d = true ∧ (s.destination d).accepting = true)
        ∨ (s.rtu.fallback = some d ∧ (s.destination d).accepting = true
          ∧ ∃ m, m < 32 ∧ member x.chosen m = true ∧ (s.destination m).accepting = false)))
    ∧ (∀ f, s.rtu.fallback = some f → (s.destination f).accepting = true → x.replacement.removed = 0
        ∧ ∀ d, d < 32 → (member x.replacement.replaced d = true ↔
          (member x.chosen d = true ∧ (s.destination d).accepting = false)))
    ∧ ((∀ f, s.rtu.fallback = some f → (s.destination f).accepting = false) → x.replacement.replaced = 0
        ∧ ∀ d, d < 32 → (member x.replacement.removed d = true ↔
          (member x.chosen d = true ∧ (s.destination d).accepting = false)))

/-! ## Destinations -/

/-- DEST_CONFIG (R117, R114): the settings clamped and stored, an OPEN destination left unbound PAUSED, WORK set at a newly
bound slot where the queue is not empty and the destination OPEN or PAUSED; a slot named without DELIVER refuses the command.
The reply joins the requester's queue as its record leaves. Every other destination, every other block and every other field of
every slot, the requester's own among them, is as it was. -/
def Obligations.DestConfig : Prop :=
  ∀ (s : State) (slot : Nat) (r : Record) (w1 w2 w3 w4 w5 : Word) (ws : List Word) (cs : List Byte) (n : Nat) (bound : Option Nat)
    (d d' : Destination) (x : Reply), s.Takes slot 0x50 r → r.words = w1 :: w2 :: w3 :: w4 :: w5 :: ws → CountedAs ws cs →
    (s.rights slot).administer = true → n = min w1.toNat 31 →
    bound = (if w2.toNat < 16 then some w2.toNat else none) → d = s.destination n →
    d' = { d with
      bound := bound, holdTime := max 10 (min w3.toNat 3600), attemptLimit := max 1 (min w4.toNat 15),
      checkoutLimit := max 1 (min w5.toNat 16), label := cs.take 16,
      state := if d.state = .opened ∧ bound = none then .paused else d.state } →
    x = r.reply .ok ([word n, word (bound.getD 16), word d'.holdTime, word d'.attemptLimit, word d'.checkoutLimit,
      word (if 16 < cs.length then 1 else 0), word d'.state.code] ++ countedString (cs.take 16)) →
    ((∃ m, bound = some m ∧ (s.rights m).deliver = false) →
      exec (.destConfig slot) s = .next (s.replying slot (r.reply .noRight [])))
    ∧ ((∀ m, bound = some m → (s.rights m).deliver = true) → ∃ t, exec (.destConfig slot) s = .next t
      ∧ t.destination n = d' ∧ SameDestinationsBut s t [n]
      ∧ (∀ m, t.station m = { s.station m with
          requests := if m = slot then (s.station m).requests.tail else (s.station m).requests
          replies := if m = slot then (s.station m).replies ++ [x] else (s.station m).replies
          work := (s.station m).work || decide (bound = some m ∧ bound ≠ d.bound ∧ d.urgent ++ d.normal ≠ []
            ∧ (d'.state = .opened ∨ d'.state = .paused)) })
      ∧ t.spu.fault = s.spu.fault ∧ t.bsm = s.bsm ∧ t.iu = s.iu ∧ t.dt = s.dt ∧ t.rtu = s.rtu ∧ t.te = s.te ∧ t.tb = s.tb)

/-- DEST_OPEN (R118) and DEST_PAUSE (R119) change the state where it differs. The bound slot is sent DEST_STATE with the new and
the former state (R115), before the reply of the command where it is the requester, and on an opening with a queue that is not
empty WORK (R114); apart from notices nothing else changes. Refused WRONG_STATE as the rules say. -/
def Obligations.DestOpenPause : Prop :=
  ∀ (s : State) (slot : Nat) (r : Record) (w1 : Word) (n : Nat) (d : Destination) (note : Nat → Reply), r.words = [w1] →
    (s.rights slot).administer = true → n = min w1.toNat 31 → d = s.destination n →
    note = (fun code => ⟨.destState, 0, 0xFFFF,
      [word n, word code, word d.state.code, word (d.urgent.length + d.normal.length), word d.checkouts.length]⟩) →
    (s.Takes slot 0x51 r →
      ((d.state = .closed ∨ d.state = .paused) → ∃ t, exec (.destOpen slot) s = .next t
        ∧ (∀ m b, d.bound = some m → b = (s.popped slot).setDestination n { d with state := .opened } →
            UpToNotices (b.setStation m { b.station m with
              work := (b.station m).work || decide (d.urgent ++ d.normal ≠ []) }) t)
        ∧ (d.bound = none → UpToNotices ((s.popped slot).setDestination n { d with state := .opened }) t)
        ∧ (∀ m, d.bound = some m → s.spu.underReset = [] → (s.taken slot).replyRoom m = true →
            (t.station m).replies = (s.station m).replies ++ note 1 ::
              (if m = slot then [r.reply .ok [word n, word d.state.code, word 1]] else []))
        ∧ t.LastReply slot r .ok [word n, word d.state.code, word 1])
      ∧ (d.state = .opened → exec (.destOpen slot) s = .next (s.replying slot (r.reply .ok [word n, word 1, word 1])))
      ∧ (d.state = .draining → exec (.destOpen slot) s = .next (s.replying slot (r.reply .wrongState []))))
    ∧ (s.Takes slot 0x52 r →
      (d.state = .opened → ∃ t, exec (.destPause slot) s = .next t
        ∧ UpToNotices ((s.popped slot).setDestination n { d with state := .paused }) t
        ∧ (∀ m, d.bound = some m → s.spu.underReset = [] → (s.taken slot).replyRoom m = true →
            (t.station m).replies = (s.station m).replies ++ note 2 ::
              (if m = slot then [r.reply .ok [word n, word 1, word 2]] else []))
        ∧ t.LastReply slot r .ok [word n, word 1, word 2])
      ∧ (d.state = .paused → exec (.destPause slot) s = .next (s.replying slot (r.reply .ok [word n, word 2, word 2])))
      ∧ ((d.state = .closed ∨ d.state = .draining) →
          exec (.destPause slot) s = .next (s.replying slot (r.reply .wrongState []))))

/-- DEST_CLOSE of an OPEN or PAUSED destination that is not the fallback (R120): its queue is empty, it is DRAINING while
checkouts stand and CLOSED otherwise, and no document the queue does not name, no destination but the fallback, no context and
no job has changed. In a sound queue each entry goes one of two ways: with a usable fallback its document has no entry for, it
is the fallback's, QUEUED, its original destination the one it has or else the one it leaves, and its item stands behind the
fallback's own in its class, in queue order; otherwise it is WITHDRAWN with its settle time, and its document settles where
nothing is outstanding (R70). The reply counts both, and the bound slot is sent DEST_STATE (R115; here: where
no entry is WITHDRAWN, so that no notice comes before). The fallback setting is refused IS_FALLBACK, and a CLOSED or DRAINING
destination changes nothing. -/
def Obligations.DestClose : Prop :=
  ∀ (s : State) (slot : Nat) (r : Record) (w1 : Word) (n : Nat) (d : Destination) (away : Nat → QueueItem → Bool),
    s.Takes slot 0x53 r → r.words = [w1] → (s.rights slot).administer = true → n = min w1.toNat 31 → d = s.destination n →
    away = (fun f x => (s.document x.handle.index).entryList.all (fun y => decide (y.2.destination ≠ f))) →
    (s.rtu.fallback = some n → exec (.destClose slot) s = .next (s.replying slot (r.reply .isFallback [])))
    ∧ (s.rtu.fallback ≠ some n → (d.state = .closed ∨ d.state = .draining) → exec (.destClose slot) s =
        .next (s.replying slot (r.reply .ok [word n, word d.state.code, word d.state.code, word 0, word 0])))
    ∧ (s.rtu.fallback ≠ some n → (d.state = .opened ∨ d.state = .paused) →
      ∃ t moved withdrawn, exec (.destClose slot) s = .next t
        ∧ (t.destination n).urgent = [] ∧ (t.destination n).normal = [] ∧ (t.destination n).checkouts = d.checkouts
        ∧ (t.destination n).state = (if d.checkouts = [] then .closed else .draining)
        ∧ moved + withdrawn = d.urgent.length + d.normal.length
        ∧ ((∀ f, s.rtu.fallback = some f → (s.destination f).accepting = false) →
            moved = 0 ∧ SameDestinationsBut s t [n])
        ∧ (s.QueueSound d → ∀ f, s.rtu.fallback = some f → (s.destination f).accepting = true →
            moved = ((d.urgent ++ d.normal).filter (away f)).length
            ∧ t.destination f = { s.destination f with
                urgent := (s.destination f).urgent ++ d.urgent.filter (away f)
                normal := (s.destination f).normal ++ d.normal.filter (away f) })
        ∧ (s.QueueSound d → ∀ x ∈ d.urgent ++ d.normal, ∀ e m, m = s.document x.handle.index → m.entry x.position = some e →
            (∀ f, s.rtu.fallback = some f → (s.destination f).accepting = true → away f x = true →
              t.document x.handle.index = m.setEntry x.position (some { e with
                destination := f, original := some (e.original.getD e.destination), state := .queued, deadline := none }))
            ∧ ((∀ f, s.rtu.fallback = some f → (s.destination f).accepting = true → away f x = false) →
              s.Settles x.handle.index (m.setEntry x.position (some { e with
                state := .withdrawn, settleTime := some s.tb.uptime, deadline := none })) (t.document x.handle.index)))
        ∧ (withdrawn = 0 → ∀ b, d.bound = some b → s.spu.underReset = [] → (s.taken slot).replyRoom b = true →
            ∃ ys, (t.station b).replies = (s.station b).replies ++ ⟨.destState, 0, 0xFFFF,
              [word n, word (if d.checkouts = [] then 0 else 3), word d.state.code, word 0, word d.checkouts.length]⟩ :: ys)
        ∧ SameDestinationsBut s t (n :: s.rtu.fallback.toList)
        ∧ (∀ j, (∀ x ∈ d.urgent ++ d.normal, x.handle.index ≠ j) → t.document j = s.document j)
        ∧ t.iu = s.iu ∧ t.te = s.te ∧ SameConfig s t ∧ SameStore s t
        ∧ t.LastReply slot r .ok [word n, word d.state.code, word (if d.checkouts = [] then 0 else 3), word moved,
            word withdrawn])

/-- The three cases of an entry that cannot stay at its destination (R113, R120): with a usable fallback the document has no
entry for, the entry names the fallback, QUEUED, keeps as its original destination the one it has or else the one it leaves,
and joins the tail of its class there; in the two other cases it becomes WITHDRAWN with its settle time, and no queue
changes. -/
def Obligations.MoveEntry : Prop :=
  ∀ (s : State) (i p : Nat) (e : Entry) (d : Document), d = s.document i →
    (∀ f, s.rtu.fallback = some f → ((s.destination f).state = .opened ∨ (s.destination f).state = .paused) →
      (∀ x ∈ d.entryList, x.2.destination ≠ f) →
      ((s.moveEntry i p e).document i).entry p = some { e with
          destination := f, original := some (e.original.getD e.destination), state := .queued, deadline := none }
      ∧ (d.priority = .urgent → ((s.moveEntry i p e).destination f).urgent =
          (s.destination f).urgent ++ [⟨⟨i, d.generation⟩, p⟩]
          ∧ ((s.moveEntry i p e).destination f).normal = (s.destination f).normal)
      ∧ (d.priority = .normal → ((s.moveEntry i p e).destination f).normal =
          (s.destination f).normal ++ [⟨⟨i, d.generation⟩, p⟩]
          ∧ ((s.moveEntry i p e).destination f).urgent = (s.destination f).urgent)
      ∧ SameDestinationsBut s (s.moveEntry i p e) [f] ∧ SameDocumentsBut s (s.moveEntry i p e) i)
    ∧ ((s.rtu.fallback = none ∨ (∃ f, s.rtu.fallback = some f
          ∧ ((s.destination f).state = .closed ∨ (s.destination f).state = .draining
            ∨ ∃ x ∈ d.entryList, x.2.destination = f))) →
      s.moveEntry i p e = s.setDocument i (d.setEntry p
        (some { e with state := .withdrawn, settleTime := some s.tb.uptime, deadline := none })))

/-- REROUTE of a QUEUED, UNROUTED or DONE document (R123, R124) with the delivery set D of its set. A destination of D whose
entry is outstanding is left alone; one whose entry is settled has it reset at its position, its original destination kept,
QUEUED with attempts and ticket 0; each of the others, ascending, takes the lowest empty position, and then the lowest that
holds an UNDELIVERABLE or WITHDRAWN entry whose destination is not in D, with a new QUEUED entry, whose original destination
is the lowest replaced member where it was not in the set itself. No other entry changes. Every reset or new entry joins the
tail of its class in its destination's queue, setting WORK where that was empty. The document is QUEUED without settle time
and deadline, and settles where nothing is outstanding, as with D = 0 (R70). The reply counts the three kinds. Where the
positions do not suffice, or the set has more than 8 members, it is refused SET_TOO_LARGE, an empty set BAD_FIELD, and a
FREE, RECEIVING or PURGE_PENDING document WRONG_STATE. -/
def Obligations.Reroute : Prop :=
  ∀ (s : State) (slot : Nat) (r : Record) (w1 w2 D : Word) (i : Nat) (d : Document) (own : Nat → Option (Nat × Entry))
    (fresh places : List Nat), s.Takes slot 0x55 r → r.words = [w1, w2] →
    (s.rights slot).administer = true → i = (decodeHandle w1).index → d = s.document i →
    (decodeHandle w1).generation = d.generation → D = (s.replaceClosed w2).delivery →
    own = (fun m => d.entryList.find? (fun x => decide (x.2.destination = m))) →
    fresh = (members D).filter (fun m => (own m).isNone) →
    places = [1, 2, 3, 4, 5, 6, 7, 8].filter (fun p => (d.entry p).isNone)
      ++ [1, 2, 3, 4, 5, 6, 7, 8].filter (fun p => (d.entry p).any (fun e =>
        decide (e.state = .undeliverable ∨ e.state = .withdrawn) && !member D e.destination)) →
    (8 < (members w2).length → exec (.reroute slot) s = .next (s.replying slot (r.reply .setTooLarge [])))
    ∧ (w2 = 0 → exec (.reroute slot) s = .next (s.replying slot (r.reply .badField [])))
    ∧ (w2 ≠ 0 → (members w2).length ≤ 8 → d.state = .free ∨ d.state = .receiving ∨ d.state = .purgePending →
      exec (.reroute slot) s = .next (s.replying slot (r.reply .wrongState [])))
    ∧ (w2 ≠ 0 → (members w2).length ≤ 8 → d.state = .queued ∨ d.state = .unrouted ∨ d.state = .done →
    (places.length < fresh.length → exec (.reroute slot) s = .next (s.replying slot (r.reply .setTooLarge [])))
    ∧ (fresh.length ≤ places.length → ∃ t m', exec (.reroute slot) s = .next t
      ∧ m' = { d with entries := m'.entries, state := .queued, settleTime := none, retentionDeadline := none }
      ∧ s.Settles i m' (t.document i) ∧ (D ≠ 0 → t.document i = m')
      ∧ (∀ x ∈ fresh.zip places, m'.entry x.2 = some ⟨x.1, if member w2 x.1 = true then none
          else (members (s.replaceClosed w2).replaced).head?, .queued, 0, 0, none, none⟩)
      ∧ (∀ m ∈ members D, ∀ p e, own m = some (p, e) → m'.entry p = if e.outstanding = true then some e else some { e with
          state := .queued, attempts := 0, ticket := 0, deadline := none, settleTime := none })
      ∧ (∀ p, (∀ x ∈ fresh.zip places, x.2 ≠ p) → (∀ m ∈ members D, ∀ x, own m = some x → x.1 ≠ p) → m'.entry p = d.entry p)
      ∧ (∀ m p, (m, p) ∈ fresh.zip places ∨ (m ∈ members D ∧ ∃ e, own m = some (p, e) ∧ e.outstanding = false) →
          t.destination m = { s.destination m with
            urgent := (s.destination m).urgent ++ if d.priority = .urgent then [⟨⟨i, d.generation⟩, p⟩] else []
            normal := (s.destination m).normal ++ if d.priority = .normal then [⟨⟨i, d.generation⟩, p⟩] else [] }
          ∧ ∀ b, (s.destination m).bound = some b → (s.destination m).queue = [] → (t.station b).work = true)
      ∧ (∀ m, m ∉ fresh → (m ∈ members D → ∀ x, own m = some x → x.2.outstanding = true) →
          t.destination m = s.destination m)
      ∧ SameDocumentsBut s t i ∧ (D ≠ 0 → t.bsm = s.bsm) ∧ t.iu = s.iu ∧ t.te = s.te ∧ SameConfig s t ∧ SameStore s t
      ∧ t.LastReply slot r .ok [word d.state.code, word (t.document i).state.code,
          word ((members D).filter (fun m => (own m).any (fun x => x.2.outstanding))).length,
          word ((members D).filter (fun m => (own m).any (fun x => !x.2.outstanding))).length, word fresh.length,
          (s.replaceClosed w2).replaced, (s.replaceClosed w2).removed, word (t.document i).outstandingSet.length]))

/-! ## Checkout and delivery -/

/-- TAKE from an OPEN destination with room in its checkout list, by an ADMINISTER station or the slot it is bound to (R127 to
R129): the head entry leaves the queue, is CHECKED_OUT under the next ticket with its deadline set, and stands last in the
checkout list with its taking slot; an empty queue is answered EMPTY; and a lone head at attempt count 15 becomes UNDELIVERABLE,
the queue then being found empty. Nothing else changes but the slot's queues and, in the last case, notices. In a sound queue any
number of heads at attempt count 15 become UNDELIVERABLE one after another, the document of each settling where nothing is
outstanding (R70), and the first entry below 15 is checked out; every ADMINISTER slot with room is sent UNDELIVERABLE (R138), before
a copy lost elsewhere escalates (the model's choice, log 10). A destination that is not OPEN refuses the command DEST_UNAVAILABLE, a
checkout list at its limit CHECKOUT_LIMIT (R127). -/
def Obligations.Take : Prop :=
  ∀ (s : State) (slot : Nat) (r : Record) (w1 : Word) (n : Nat) (d : Destination), s.Takes slot 0x58 r → r.words = [w1] →
    n = min w1.toNat 31 → d = s.destination n →
    ((s.rights slot).administer = true ∨ ((s.rights slot).deliver = true ∧ d.bound = some slot)) →
    (d.state ≠ .opened → exec (.take slot) s = .next (s.replying slot (r.reply .destUnavailable [])))
    ∧ (d.state = .opened → d.checkoutLimit ≤ d.checkouts.length →
      exec (.take slot) s = .next (s.replying slot (r.reply .checkoutLimit [])))
    ∧ (d.state = .opened → d.checkouts.length < d.checkoutLimit →
    (d.urgent = [] → d.normal = [] → exec (.take slot) s = .next (s.replying slot (r.reply .empty [word n])))
    ∧ (∀ x rest e m, d.urgent ++ d.normal = x :: rest → m = s.document x.handle.index → m.entry x.position = some e →
        e.attempts < 15 → (∀ y ∈ rest, ¬ (y.handle.index = x.handle.index ∧ y.position = x.position)) →
        exec (.take slot) s = .next (((s.setDestination n { d with
            urgent := if d.urgent = [] then [] else d.urgent.tail
            normal := if d.urgent = [] then d.normal.tail else d.normal
            checkouts := d.checkouts ++ [⟨x.handle, x.position, slot, e.attempts + 1⟩] }).setDocument x.handle.index
            (m.setEntry x.position (some { e with
              attempts := e.attempts + 1, ticket := e.attempts + 1, state := .checkedOut,
              deadline := some (s.tb.uptime + 1000 * d.holdTime) }))).replying slot (r.reply .ok
          [word (x.handle.index + 65536 * x.handle.generation), word n, word (e.attempts + 1), word m.priority.code,
           word m.pages.length, word (m.pages.map (fun q => (s.page q).elim 0 (fun z => z.storedBytes))).sum,
           word rest.length])))
    ∧ (∀ x e m, d.urgent ++ d.normal = [x] → m = s.document x.handle.index → m.entry x.position = some e → 15 ≤ e.attempts →
        (∃ y ∈ m.entryList, y.1 ≠ x.position ∧ y.2.outstanding = true) →
        ∃ t, exec (.take slot) s = .next t
          ∧ UpToNotices (((s.popped slot).setDestination n { d with urgent := [], normal := [] }).setDocument x.handle.index
            (m.setEntry x.position (some { e with
              state := .undeliverable, settleTime := some s.tb.uptime, deadline := none }))) t
          ∧ t.LastReply slot r .empty [word n])
    ∧ ∀ spent rest, d.urgent ++ d.normal = spent ++ rest → s.QueueSound d →
        (∀ x ∈ spent, ∀ e, (s.document x.handle.index).entry x.position = some e → 15 ≤ e.attempts) →
        (∀ x e, rest.head? = some x → (s.document x.handle.index).entry x.position = some e → e.attempts < 15) →
        ∃ t, exec (.take slot) s = .next t ∧ SameDestinationsBut s t [n] ∧ t.iu = s.iu ∧ t.te = s.te ∧ SameConfig s t ∧ SameStore s t
          ∧ (∀ x ∈ spent, ∀ e, (s.document x.handle.index).entry x.position = some e →
            s.Settles x.handle.index ((s.document x.handle.index).setEntry x.position (some { e with
              state := .undeliverable, settleTime := some s.tb.uptime, deadline := none })) (t.document x.handle.index))
          ∧ (∀ j, (∀ x ∈ spent ++ rest.take 1, x.handle.index ≠ j) → t.document j = s.document j)
          ∧ (∀ x e a, spent.head? = some x → (s.document x.handle.index).entry x.position = some e → a < 16 →
            (s.rights a).administer = true → s.spu.underReset = [] → (s.taken slot).replyRoom a = true →
            ∃ ys, (t.station a).replies = (s.station a).replies ++ ⟨.undeliverable, 0, 0xFFFF,
              [word (x.handle.index + 65536 * x.handle.generation), word e.destination, word x.position, word e.attempts, word 3,
               optWord e.original]⟩ :: ys)
          ∧ (rest = [] → t.destination n = { d with urgent := [], normal := [] } ∧ t.LastReply slot r .empty [word n])
          ∧ ∀ x left e m, rest = x :: left → m = s.document x.handle.index → m.entry x.position = some e →
            t.document x.handle.index = m.setEntry x.position (some { e with
              attempts := e.attempts + 1, ticket := e.attempts + 1, state := .checkedOut,
              deadline := some (s.tb.uptime + 1000 * d.holdTime) })
            ∧ t.destination n = { d with
              urgent := d.urgent.drop (spent.length + 1), normal := d.normal.drop (spent.length + 1 - d.urgent.length)
              checkouts := d.checkouts ++ [⟨x.handle, x.position, slot, e.attempts + 1⟩] }
            ∧ t.LastReply slot r .ok [word (x.handle.index + 65536 * x.handle.generation), word n, word (e.attempts + 1),
              word m.priority.code, word m.pages.length, word (m.pages.map (fun q => (t.page q).elim 0 (fun z => z.storedBytes))).sum,
              word left.length])

/-- FETCH_PAGES of a checkout (R131 to R133): a delivery job for the pages asked for, the count clamped, joins the engine, its
reply slot reserved; BAD_FIELD for a first page that is not committed, NOT_CHECKED_OUT where no entry is checked out under the
ticket, TRANSFER_ACTIVE while a job of the position is in the engine, ENGINE_FULL where the job queue is full. -/
def Obligations.FetchPages : Prop :=
  ∀ (s : State) (slot : Nat) (r : Record) (w1 w2 w3 w4 w5 w6 : Word) (h : Handle) (m : Document), s.Takes slot 0x59 r →
    r.words = [w1, w2, w3, w4, w5, w6] → h = decodeHandle w1 → m = s.document h.index →
    ((s.rights slot).deliver = true ∨ (s.rights slot).administer = true) → h.generation = m.generation →
    (∀ p e, m.checkedOut (min w2.toNat 31) w3.toNat = some (p, e) →
      ((s.rights slot).administer = true
        ∨ (s.checkoutOf (min w2.toNat 31) h.index p).any (fun x => decide (x.takingSlot = slot)) = true) →
      ((w4.toNat = 0 ∨ m.pages.length < w4.toNat) →
        exec (.fetchPages slot) s = .next (s.replying slot (r.reply .badField [])))
      ∧ (1 ≤ w4.toNat → w4.toNat ≤ m.pages.length → s.jobMark h.index p = true →
        exec (.fetchPages slot) s = .next (s.replying slot (r.reply .transferActive [])))
      ∧ (1 ≤ w4.toNat → w4.toNat ≤ m.pages.length → s.jobMark h.index p = false → 32 ≤ s.te.jobs.length →
        exec (.fetchPages slot) s = .next (s.replying slot (r.reply .engineFull [])))
      ∧ (1 ≤ w4.toNat → w4.toNat ≤ m.pages.length → s.jobMark h.index p = false → s.te.jobs.length < 32 →
        exec (.fetchPages slot) s = .next ((s.taken slot).queueJob (Job.new (.delivery ⟨h, p, w3.toNat, w4.toNat,
          max 1 (min w5.toNat (m.pages.length - w4.toNat + 1)), w4.toNat, 0, 0⟩) slot r.header.tag w6))))
    ∧ ((∀ x ∈ m.entryList, ¬ (x.2.destination = min w2.toNat 31 ∧ x.2.state = .checkedOut ∧ x.2.ticket = w3.toNat)) →
        (1 ≤ w4.toNat → w4.toNat ≤ m.pages.length →
          exec (.fetchPages slot) s = .next (s.replying slot (r.reply .notCheckedOut [])))
        ∧ ((w4.toNat = 0 ∨ m.pages.length < w4.toNat) →
          exec (.fetchPages slot) s = .next (s.replying slot (r.reply .badField []))))

/-- CONFIRM of a checkout (R135, R70, R121): the entry is DELIVERED and leaves the checkout list; a QUEUED document with
nothing outstanding left is DONE with its retention deadline, or freed where that is reached; a DRAINING destination left
without checkouts is CLOSED, and its bound slot is sent DEST_STATE (R115; here: where something else is outstanding).
Refused NOT_CHECKED_OUT where no entry is checked out under the ticket, and TRANSFER_ACTIVE while a job of the position is
in the engine (R131). Every other document and destination, the contexts and the engine are as they were. -/
def Obligations.Confirm : Prop :=
  ∀ (s : State) (slot : Nat) (r : Record) (w1 w2 w3 : Word) (h : Handle) (n p : Nat) (e : Entry) (m m' : Document)
    (left : List Checkout), s.Takes slot 0x5A r → r.words = [w1, w2, w3] → h = decodeHandle w1 → n = min w2.toNat 31 →
    ((s.rights slot).deliver = true ∨ (s.rights slot).administer = true) → m = s.document h.index → h.generation = m.generation →
    m' = m.setEntry p (some { e with state := .delivered, settleTime := some s.tb.uptime, deadline := none }) →
    left = (s.destination n).checkouts.filter (fun x => decide (¬ (x.handle.index = h.index ∧ x.position = p))) →
    (m.checkedOut n w3.toNat = none → exec (.confirm slot) s = .next (s.replying slot (r.reply .notCheckedOut [])))
    ∧ (m.checkedOut n w3.toNat = some (p, e) → s.jobMark h.index p = true → ((s.rights slot).administer = true
        ∨ (s.checkoutOf n h.index p).any (fun x => decide (x.takingSlot = slot)) = true) →
      exec (.confirm slot) s = .next (s.replying slot (r.reply .transferActive [])))
    ∧ (s.Holds slot h n w3.toNat p e → ∃ t, exec (.confirm slot) s = .next t
      ∧ t.destination n = { s.destination n with
          checkouts := left
          state := if (s.destination n).state = .draining ∧ left = [] then .closed else (s.destination n).state }
      ∧ SameDestinationsBut s t [n] ∧ SameDocumentsBut s t h.index ∧ t.iu = s.iu ∧ t.te = s.te ∧ SameConfig s t ∧ SameStore s t
      ∧ ((m.state ≠ .queued ∨ m'.outstandingSet ≠ []) → t.document h.index = m')
      ∧ (m.state = .queued → m'.outstandingSet = [] →
          (0 < s.retentionMinutes m.retentionClass ∨ m.legalHold = true ∨ 0 < s.activeJobs h.index) →
          t.document h.index = { m' with
            state := .done, settleTime := some s.tb.uptime,
            retentionDeadline := some (s.tb.uptime + 60000 * s.retentionMinutes m.retentionClass) })
      ∧ (m.state = .queued → m'.outstandingSet = [] → s.retentionMinutes m.retentionClass = 0 → m.legalHold = false →
          s.activeJobs h.index = 0 → (t.document h.index).state = .free)
      ∧ t.LastReply slot r .ok [word 4, word (t.document h.index).state.code, word (t.document h.index).outstandingSet.length,
          word (t.destination n).state.code]
      ∧ ∀ b, (s.destination n).state = .draining → left = [] → m'.outstandingSet ≠ [] → (s.destination n).bound = some b →
          s.spu.underReset = [] → (s.taken slot).replyRoom b = true → ∃ ys, (t.station b).replies = (s.station b).replies ++
            ⟨.destState, 0, 0xFFFF, [word n, word 0, word 3, word ((s.destination n).urgent.length + (s.destination n).normal.length),
              word 0]⟩ :: ys)

/-- RETURN of a checkout (R137, R136, R70). At its attempt limit the entry is UNDELIVERABLE; below it, at an OPEN or PAUSED
destination, it is QUEUED at the tail of its class, WORK being set where the queue was empty; below it, at a DRAINING destination, it
is moved to the usable fallback, or WITHDRAWN where there is none or the document has an entry for it. A document with nothing
outstanding left settles, and a DRAINING destination without checkouts is CLOSED (R121), its bound slot being sent DEST_STATE
(R115; here: where the entry moved). The reply gives the entry's state and
destination after, its attempt count, the document's state after, and the queued count of the queue it joined. Refused NOT_CHECKED_OUT
and TRANSFER_ACTIVE as R131 says. That each ADMINISTER slot with room is sent its copy of UNDELIVERABLE (R138) before a copy lost
elsewhere escalates is the model's choice (log 10). -/
def Obligations.Return : Prop :=
  ∀ (s : State) (slot : Nat) (r : Record) (w1 w2 w3 w4 : Word) (h : Handle) (n : Nat) (m : Document) (d : Destination),
    s.Takes slot 0x5B r → r.words = [w1, w2, w3, w4] → h = decodeHandle w1 → n = min w2.toNat 31 →
    ((s.rights slot).deliver = true ∨ (s.rights slot).administer = true) → m = s.document h.index → h.generation = m.generation →
    d = s.destination n →
    (m.checkedOut n w3.toNat = none → exec (.returnCheckout slot) s = .next (s.replying slot (r.reply .notCheckedOut [])))
    ∧ ∀ p e, m.checkedOut n w3.toNat = some (p, e) →
    ((s.rights slot).administer = true ∨ (s.checkoutOf n h.index p).any (fun x => decide (x.takingSlot = slot)) = true) →
    (s.jobMark h.index p = true → exec (.returnCheckout slot) s = .next (s.replying slot (r.reply .transferActive [])))
    ∧ (s.jobMark h.index p = false → ∃ t e', exec (.returnCheckout slot) s = .next t ∧ s.ComesBack t h.index p e e'
      ∧ SameDocumentsBut s t h.index ∧ t.iu = s.iu ∧ t.te = s.te ∧ SameConfig s t ∧ SameStore s t
      ∧ ((m.setEntry p (some e')).outstandingSet ≠ [] → t.bsm = s.bsm)
      ∧ (d.attemptLimit ≤ e.attempts → s.spu.underReset = [] → ∀ a, a < 16 → (s.rights a).administer = true →
          (s.taken slot).replyRoom a = true → ∃ ys, (t.station a).replies = (s.station a).replies ++ ⟨.undeliverable, 0, 0xFFFF,
            [word (h.index + 65536 * m.generation), word n, word p, word e.attempts, word (if w4 = 1 then 1 else 0),
             optWord e.original]⟩ :: ys)
      ∧ (d.state = .draining → e'.state = .queued → d.checkouts.filter (fun x =>
            decide (¬ (x.handle.index = h.index ∧ x.position = p))) = [] → ∀ b, d.bound = some b → s.spu.underReset = [] →
          (s.taken slot).replyRoom b = true → ∃ ys, (t.station b).replies = (s.station b).replies ++ ⟨.destState, 0, 0xFFFF,
            [word n, word 0, word 3, word (d.urgent.length + d.normal.length), word 0]⟩ :: ys)
      ∧ t.LastReply slot r .ok [word e'.state.code, word e'.destination, word e.attempts, word (t.document h.index).state.code,
          if e'.state = .queued
          then word ((s.destination e'.destination).urgent.length + (s.destination e'.destination).normal.length + 1)
          else 0xFFFFFFFF])

/-- HOLD_EXPIRY (R139, R136): while the part is READY, a CHECKED_OUT entry whose deadline is reached and whose position has no
job in the engine comes back as by a RETURN: UNDELIVERABLE at its attempt limit, else QUEUED again, moved to the fallback or
WITHDRAWN, its document settling where nothing is outstanding. Its taking slot is first sent CHECKOUT_EXPIRED, with the outcome and
the entry's destination after, where it has room; then, at the limit, every other ADMINISTER slot with room is sent UNDELIVERABLE
with reason EXPIRED (R138), before a copy lost elsewhere escalates (the model's choice, log 10). Before the deadline, while a job of
the position is in the engine, and while the part is not READY, nothing happens (the model's choice, log 1). -/
def Obligations.HoldExpiry : Prop :=
  (∀ (s : State) (i p deadline : Nat) (e : Entry) (m : Document) (d : Destination), s.part = .ready → m = s.document i →
    1 ≤ p → p ≤ 8 → m.entry p = some e → e.state = .checkedOut → e.deadline = some deadline → deadline ≤ s.tb.uptime →
    s.jobMark i p = false → d = s.destination e.destination → ∃ t e', exec (.holdExpiry i p) s = .next t
      ∧ s.ComesBack t i p e e' ∧ SameDocumentsBut s t i ∧ t.iu = s.iu ∧ t.te = s.te ∧ SameConfig s t ∧ SameStore s t
      ∧ ((m.setEntry p (some e')).outstandingSet ≠ [] → t.bsm = s.bsm)
      ∧ ∀ x, s.checkoutOf e.destination i p = some x → s.replyRoom x.takingSlot = true → s.spu.underReset = [] →
        (∃ ys, (t.station x.takingSlot).replies = (s.station x.takingSlot).replies ++ ⟨.checkoutExpired, 0, 0xFFFF,
            [word (x.handle.index + 65536 * x.handle.generation), word e.destination, word x.ticket,
             word (if e'.state = .undeliverable then 3 else if e'.state = .withdrawn then 2
               else if e'.destination = e.destination then 0 else 1), word e'.destination]⟩ :: ys
          ∧ (e.attempts < d.attemptLimit → d.accepting = true → ys = []))
        ∧ (d.attemptLimit ≤ e.attempts → ∀ a, a < 16 → a ≠ x.takingSlot → (s.rights a).administer = true →
          s.replyRoom a = true → ∃ ys, (t.station a).replies = (s.station a).replies ++ ⟨.undeliverable, 0, 0xFFFF,
            [word (i + 65536 * m.generation), word e.destination, word p, word e.attempts, word 2, optWord e.original]⟩ :: ys))
    ∧ ∀ (s : State) (i p : Nat), (s.part ≠ .ready ∨ s.jobMark i p = true ∨ ∀ e deadline, (s.document i).entry p = some e →
        e.state = .checkedOut → e.deadline = some deadline → s.tb.uptime < deadline) →
      exec (.holdExpiry i p) s = .next s

/-- WITHDRAW (R141, R142): the outstanding entry of the document for the destination becomes WITHDRAWN and leaves its queue
or its checkout list, a DRAINING destination whose list is then empty being CLOSED (R121), and the delivery jobs of its
position left in the engine are cancelled; word 3 of the reply counts those newly cancelled (the model's choice, log 15); a
document without such an entry refuses the command WRONG_STATE. Where something else is outstanding, or it is RECEIVING, the
document stays as it is; where nothing is, it settles (R70): it is UNROUTED, with its notice UNROUTED_DOC to every
ADMINISTER slot that has room (R71; that each such slot is sent its copy before a copy lost elsewhere escalates is the
model's choice, log 10), or DONE, or freed. -/
def Obligations.Withdraw : Prop :=
  ∀ (s : State) (slot : Nat) (r : Record) (w1 w2 : Word) (h : Handle) (n : Nat) (m : Document)
    (left : Nat → Entry → List Checkout) (others : Nat → QueueItem → Bool) (after : Nat → Entry → Destination), s.Takes slot 0x5C r →
    r.words = [w1, w2] → (s.rights slot).administer = true → h = decodeHandle w1 → n = min w2.toNat 31 →
    m = s.document h.index → h.generation = m.generation →
    others = (fun p x => decide (¬ (x.handle.index = h.index ∧ x.position = p))) →
    left = (fun p e => if e.state = .checkedOut then (s.destination n).checkouts.filter (fun x => others p ⟨x.handle, x.position⟩)
      else (s.destination n).checkouts) →
    after = (fun p e => { s.destination n with
        checkouts := left p e
        urgent := if e.state = .queued then (s.destination n).urgent.filter (others p) else (s.destination n).urgent
        normal := if e.state = .queued then (s.destination n).normal.filter (others p) else (s.destination n).normal
        state := if (s.destination n).state = .draining ∧ left p e = [] then .closed else (s.destination n).state }) →
    ((∀ x ∈ m.entryList, x.2.destination = n → x.2.outstanding = false) →
      exec (.withdraw slot) s = .next (s.replying slot (r.reply .wrongState [])))
    ∧ (∀ p e, m.outstandingFor n = some (p, e) → m.state = .receiving ∨ (m.state = .queued
        ∧ ∃ y ∈ m.entryList, y.1 ≠ p ∧ y.2.outstanding = true) →
      ∃ t, exec (.withdraw slot) s = .next t
        ∧ t.destination n = after p e ∧ SameDestinationsBut s t [n]
        ∧ (t.document h.index).entry p = some { e with
            state := .withdrawn, settleTime := some s.tb.uptime, deadline := none }
        ∧ (t.document h.index).state = m.state ∧ SameConfig s t ∧ SameStore s t
        ∧ (e.state = .checkedOut → ∀ j ∈ t.te.jobs, j.serves h.index p = true → j.cancelled = true)
        ∧ (s.te.jobs = [] → t.document h.index = m.setEntry p
              (some { e with state := .withdrawn, settleTime := some s.tb.uptime, deadline := none })
            ∧ SameDocumentsBut s t h.index ∧ t.bsm = s.bsm ∧ t.iu = s.iu)
        ∧ t.LastReply slot r .ok [word p, word e.state.code,
            word (if e.state = .checkedOut then (s.te.jobs.filter (fun j => j.serves h.index p && !j.cancelled)).length else 0),
            word (t.document h.index).state.code, word (t.document h.index).outstandingSet.length])
    ∧ (∀ p e m', m.state = .queued → m.outstandingFor n = some (p, e) →
      (∀ y ∈ m.entryList, y.1 ≠ p → y.2.outstanding = false) →
      m' = m.setEntry p (some { e with state := .withdrawn, settleTime := some s.tb.uptime, deadline := none }) →
      ∃ t, exec (.withdraw slot) s = .next t
        ∧ t.Settles h.index m' (t.document h.index) ∧ t.destination n = after p e ∧ SameDestinationsBut s t [n]
        ∧ (e.state = .queued ∨ s.te.jobs = [] → SameDocumentsBut s t h.index ∧ t.iu = s.iu) ∧ SameConfig s t ∧ SameStore s t
        ∧ (m'.countIn .delivered = 0 → e.state = .queued ∨ s.te.jobs = [] → s.spu.underReset = [] → ∀ a, a < 16 →
            (s.rights a).administer = true →
            (s.taken slot).replyRoom a = true → ∃ ys, (t.station a).replies = (s.station a).replies ++ ⟨.unroutedDoc, 0, 0xFFFF,
              [word (h.index + 65536 * h.generation), word m.pages.length, word 1, word (m'.countIn .undeliverable),
               word (m'.countIn .withdrawn)]⟩ :: ys)
        ∧ t.LastReply slot r .ok [word p, word e.state.code,
            word (if e.state = .checkedOut then (s.te.jobs.filter (fun j => j.serves h.index p && !j.cancelled)).length else 0),
            word (t.document h.index).state.code, word 0])

/-! ## Notices -/

/-- What becomes of a notice to one slot, no reset being under way (R175 to R177): with room it joins the tail of the reply
queue and nothing else happens. Without room it is lost: NOTICE_LOST is set, and every other ADMINISTER slot with room is sent
NOTICE_OVERRUN; the fault condition is set where no such slot has room, and is unchanged where one has. A NOTICE_OVERRUN itself
does not escalate so (R176 step 4), and is no notice of this statement. A slot
under reset is sent nothing, and nothing is lost (R175). -/
def Obligations.NoticePosted : Prop :=
  (∀ (s : State) (kind : Status) (ws : List Word) (n : Nat), n ∈ s.spu.underReset → s.send kind ws [n] = s)
    ∧ ∀ (s t : State) (kind : Status) (ws : List Word) (n : Nat), s.spu.underReset = [] → kind ≠ .noticeOverrun → t = s.send kind ws [n] →
    (s.replyRoom n = true → t = s.setStation n
        { s.station n with replies := (s.station n).replies ++ [⟨kind, 0, 0xFFFF, ws⟩] })
    ∧ (s.replyRoom n = false → UpToNotices s t ∧ (t.station n).noticeLost = true
      ∧ ((∃ m, m < 16 ∧ m ≠ n ∧ (s.rights m).administer = true ∧ s.replyRoom m = true) →
          t.spu.fault = s.spu.fault
          ∧ ∀ m, m < 16 → m ≠ n → (s.rights m).administer = true → s.replyRoom m = true →
            (t.station m).replies = (s.station m).replies ++ [⟨.noticeOverrun, 0, 0xFFFF, [word n, word kind.code]⟩])
      ∧ ((∀ m, m < 16 → m ≠ n → (s.rights m).administer = true → s.replyRoom m = false) → t.spu.fault = true))

/-! ## The transfer engine -/

/-- CANCEL_TRANSFER (R162, R164): every job of the slot under the tag that is left in the engine is cancelled and has its
burst under way, and every other one has ended CANCELLED, with its bytes moved (and, the only job of the engine, with all
the effects of a job's end, R161); a running job that is neither tagged nor cancelled stands as it was; the reply counts the
jobs newly cancelled, queued and running (log 15). SET_BUS_POLICY (R151): level clamped, mode aliased, the tenure that is
held unchanged. -/
def Obligations.EngineCommands : Prop :=
  ∀ (s : State) (slot : Nat) (r : Record),
    (∀ w1 newly, s.Takes slot 0x60 r → r.words = [w1] → (s.rights slot).any = true →
      newly = s.te.jobs.filter (fun j => decide (j.slot = slot ∧ j.tag = min w1.toNat 65535 ∧ j.cancelled = false)) →
      ∃ t, exec (.cancelTransfer slot) s = .next t
        ∧ (∀ j ∈ t.te.jobs, j.slot = slot → j.tag = min w1.toNat 65535 →
            j.cancelled = true ∧ ∃ x, s.te.tenure = some x ∧ j.channel = some x.channel)
        ∧ (∀ j ∈ s.te.jobs, ¬ (j.slot = slot ∧ j.tag = min w1.toNat 65535) → j.cancelled = false → j.channel ≠ none →
            j.fetch ≠ none ∨ j.current ≠ none → j ∈ t.te.jobs)
        ∧ (∀ j ∈ s.te.jobs, j.slot = slot → j.tag = min w1.toNat 65535 → j.suppressed = false →
            (∀ x, s.te.tenure = some x → j.channel ≠ some x.channel) →
            ∃ x ∈ (t.station slot).replies, x.status = .cancelled ∧ x.tag = j.tag ∧ x.words.head? = some (word j.moved))
        ∧ (∀ j, s.te.jobs = [j] → j.slot = slot → j.tag = min w1.toNat 65535 → j.suppressed = false →
            (∀ x, s.te.tenure = some x → j.channel ≠ some x.channel) → s.JobEnds t j .cancelled j.moved (s.doneSoFar j))
        ∧ t.te.tenure = s.te.tenure ∧ SameConfig s t ∧ SameStore s t
        ∧ t.LastReply slot r .ok [word newly.length,
            word (newly.filter (fun j => decide (j.channel = none))).length,
            word (newly.filter (fun j => decide (j.channel ≠ none))).length])
    ∧ ∀ w1 w2, s.Takes slot 0x61 r → r.words = [w1, w2] → (s.rights slot).administer = true →
      exec (.setBusPolicy slot) s = .next ({ s with te := { s.te with
        level := min w1.toNat 3, mode := if w2 = 1 then .hold else .fair } }.replying slot (r.reply .ok
          [word (min w1.toNat 3), word (if w2 = 1 then 1 else 0), word (if s.te.tenure.isSome then 1 else 0)]))

/-- A job joins an engine in which every job has started and a channel is IDLE (R146, R148, R152 to R155): it runs on the
lowest IDLE channel, and where its chain address is a multiple of 16 and lies relocated inside the aperture, its first
descriptor fetch stands ready and, while no tenure is held, the bus is requested; else it ends CHAIN_FAULT or
APERTURE_FAULT, and the others go on. With four running jobs it waits at the tail. Relocation replaces the selected address
bits. -/
def Obligations.JobQueued : Prop :=
  (∀ (st : Station) (a : Word), (st.relocate a).extractLsb' 0 16 = a.extractLsb' 0 16
    ∧ ∀ k, k < 16 → (st.relocate a).getLsbD (16 + k) =
        if st.selectMask.getLsbD k then st.relocationBase.getLsbD k else a.getLsbD (16 + k))
    ∧ (∀ (s : State) (kind : JobKind) (slot tag c : Nat) (chain bus : Word) (j : Job) (st : Station),
      (∀ k ∈ s.te.jobs, k.channel ≠ none ∧ (k.fetch ≠ none ∨ k.current ≠ none)) → c < 4 →
      (∀ k ∈ s.te.jobs, k.channel ≠ some c) → (∀ m, m < c → ∃ k ∈ s.te.jobs, k.channel = some m) →
      j = Job.new kind slot tag chain → st = s.station slot → bus = st.relocate chain →
      (chain.toNat % 16 = 0 → st.apertureStart * 65536 ≤ bus.toNat → bus.toNat + 15 ≤ st.apertureEnd * 65536 + 65535 →
        s.queueJob j = { s with te := { s.te with
          jobs := s.te.jobs ++ [{ j with channel := some c, fetch := some (chain, bus) }]
          request := if s.te.tenure = none then some (s.te.request.getD ⟨s.te.level, s.te.mode⟩) else s.te.request } })
      ∧ (chain.toNat % 16 ≠ 0 → (s.queueJob j).te.jobs = s.te.jobs
          ∧ ∃ x ∈ ((s.queueJob j).station slot).replies, x.status = .chainFault ∧ x.tag = tag)
      ∧ (chain.toNat % 16 = 0 → (bus.toNat < st.apertureStart * 65536 ∨ st.apertureEnd * 65536 + 65535 < bus.toNat + 15) →
          (s.queueJob j).te.jobs = s.te.jobs
          ∧ ∃ x ∈ ((s.queueJob j).station slot).replies, x.status = .apertureFault ∧ x.tag = tag))
    ∧ ∀ (s : State) (kind : JobKind) (slot tag : Nat) (chain : Word), (∀ c, c < 4 → ∃ k ∈ s.te.jobs, k.channel = some c) →
      (∀ k ∈ s.te.jobs, k.channel ≠ none → k.fetch ≠ none ∨ k.current ≠ none) →
      (s.queueJob (Job.new kind slot tag chain)).te.jobs = s.te.jobs ++ [Job.new kind slot tag chain]
      ∧ (s.queueJob (Job.new kind slot tag chain)).spu = s.spu ∧ (s.queueJob (Job.new kind slot tag chain)).dt = s.dt
      ∧ (s.queueJob (Job.new kind slot tag chain)).iu = s.iu

/-- BUS_GRANT (R149, R150): the request that stands is granted: a tenure begins in the mode read with the request, and its burst
is that of the first channel with work after the channel granted last. Without a request nothing happens (the model's choice,
log 1). -/
def Obligations.BusGrant : Prop :=
  (∀ (s : State) (q : BusRequest) (c k : Nat) (j : Job) (b : Burst), s.te.request = some q → s.te.tenure = none →
    c = (s.te.lastGranted + 1 + k) % 4 → k < 4 → s.jobOn c = some j → s.nextBurst j = some b →
    (∀ m, m < k → ∀ i, s.jobOn ((s.te.lastGranted + 1 + m) % 4) = some i → s.nextBurst i = none) →
    exec .busGrant s = .next { s with te := { s.te with
      request := none, lastGranted := c, tenure := some ⟨q.mode, c, b⟩ } })
    ∧ ∀ s : State, s.te.request = none → exec .busGrant s = .next s

/-- A burst that ends, the engine holding one job and the tenure being FAIR (R149, R150, R152, R156 to R159, R162): the
tenure is released. A descriptor fetched in its limits, its region inside the aperture, becomes the job's current one; one
out of its limits ends the job CHAIN_FAULT, a region outside the aperture APERTURE_FAULT. Words read within a region go to
the parser in order, and end the job STORE_FULL where it takes no more for want of store; bytes written within a region move
the stream position; a delivery whose stream is complete ends OK with its bytes, whole pages and pages. A region that is
finished is notified by DESCRIPTOR_DONE where its descriptor says so and there is room (R160); the last one ends an intake
job OK and a delivery SHORT_BUFFER while bytes remain; behind another the next descriptor stands ready to be fetched, but a
65th one or an address no multiple of 16 ends the job CHAIN_FAULT, one outside the aperture APERTURE_FAULT. A retried burst
leaves the job as it is; a bus error ends it BUS_ERROR; a cancelled job ends CANCELLED with its burst, however that ends
(R162), its data counted. Every end has the effects of R161. While the job stands, the bus is requested again. In HOLD the
tenure goes on with the job's next burst. A job that waited behind one that ends takes channel 0, all being IDLE, and begins
its walk (R148). -/
def Obligations.BurstEnds : Prop :=
  ∀ (s : State) (j : Job) (c : Nat) (b : Burst) (request : Option BusRequest), c < 4 → s.te.jobs = [j] → j.channel = some c →
    s.te.tenure = some ⟨.fair, c, b⟩ → request = some (s.te.request.getD ⟨s.te.level, s.te.mode⟩) →
    (∀ a bus control region count next last start, j.fetch = some (a, bus) → j.cancelled = false →
      last = (next.getLsbD 0 || control.getLsbD 1) → start = (s.station j.slot).relocate region →
      (4 ≤ count.toNat ∧ count.toNat ≤ 16777216 ∧ count.toNat % 4 = 0 ∧ region.toNat % 4 = 0
          ∧ (last = true ∨ next.toNat % 16 = 0) →
        ((s.station j.slot).apertureStart * 65536 ≤ start.toNat →
          start.toNat + count.toNat ≤ (s.station j.slot).apertureEnd * 65536 + 65536 →
          exec (.burstComplete [control, region, count, next]) s = .next { s with te := { s.te with
            tenure := none, request := request
            jobs := [{ j with
              fetched := j.fetched + 1, fetch := none,
              current := some ⟨a, control.getLsbD 0, last, next, region, count.toNat, start, 0⟩ }] } })
        ∧ (start.toNat < (s.station j.slot).apertureStart * 65536
            ∨ (s.station j.slot).apertureEnd * 65536 + 65536 < start.toNat + count.toNat →
          ∃ t, exec (.burstComplete [control, region, count, next]) s = .next t ∧ t.te.tenure = none
            ∧ s.JobEnds t j .apertureFault j.moved (s.doneSoFar j)))
      ∧ (¬ (4 ≤ count.toNat ∧ count.toNat ≤ 16777216 ∧ count.toNat % 4 = 0 ∧ region.toNat % 4 = 0
          ∧ (last = true ∨ next.toNat % 16 = 0)) →
        ∃ t, exec (.burstComplete [control, region, count, next]) s = .next t ∧ t.te.tenure = none
          ∧ s.JobEnds t j .chainFault j.moved (s.doneSoFar j)))
    ∧ (∀ cur n ws, j.fetch = none → j.current = some cur → j.kind = .intake n → j.detached = false → j.cancelled = false →
      ws.length = b.length / 4 → (s.parseWords n ws).full = false → cur.moved + b.length < cur.count →
      exec (.burstComplete ws) s = .next { (s.parseWords n ws).state with te := { s.te with
        tenure := none, request := request
        jobs := [{ j with
          moved := j.moved + 4 * (s.parseWords n ws).consumed
          current := some { cur with moved := cur.moved + b.length } }] } })
    ∧ (∀ cur n ws, j.fetch = none → j.current = some cur → j.kind = .intake n → j.detached = false → j.cancelled = false →
      ws.length = b.length / 4 → (s.parseWords n ws).full = true →
      ∃ t, exec (.burstComplete ws) s = .next t ∧ t.te.tenure = none
        ∧ (s.parseWords n ws).state.JobEnds t j .storeFull (j.moved + 4 * (s.parseWords n ws).consumed)
            ((s.parseWords n ws).state.openStored n))
    ∧ (∀ cur ws u moved done, j.fetch = none → j.current = some cur →
      (match j.kind with
        | .intake n => ws.length = b.length / 4 ∧ (j.detached = true → j.cancelled = true ∧ u = s ∧ moved = j.moved ∧ done = 0)
            ∧ (j.detached = false → (j.cancelled = false → (s.parseWords n ws).full = false) ∧ u = (s.parseWords n ws).state
              ∧ moved = j.moved + 4 * (s.parseWords n ws).consumed ∧ done = u.openStored n)
        | .delivery d => u = s ∧ moved = j.moved + b.length ∧ done ≤ (s.deliveryPages d).length
            ∧ ((streamLengths (s.deliveryPages d)).take done).sum ≤ moved
            ∧ (done < (s.deliveryPages d).length → moved < ((streamLengths (s.deliveryPages d)).take (done + 1)).sum)) →
      (j.cancelled = true → ∃ t, exec (.burstComplete ws) s = .next t ∧ t.te.tenure = none ∧ u.JobEnds t j .cancelled moved done)
      ∧ (j.cancelled = false → cur.moved + b.length = cur.count →
      (cur.notify = true → s.spu.underReset = [] → u.replyRoom j.slot = true →
        ∃ t ys, exec (.burstComplete ws) s = .next t ∧ (t.station j.slot).replies = (u.station j.slot).replies ++
          ⟨.descriptorDone, 0, 0xFFFF, [word j.tag, word j.fetched, cur.address, word moved, word done]⟩ :: ys)
      ∧ (cur.last = true → (∀ d, j.kind = .delivery d → moved < (streamLengths (s.deliveryPages d)).sum) →
        ∃ t, exec (.burstComplete ws) s = .next t ∧ t.te.tenure = none
          ∧ u.JobEnds t j (match j.kind with | .intake _ => .ok | .delivery _ => .shortBuffer) moved done)
      ∧ (cur.last = false → (∀ d, j.kind = .delivery d → moved < (streamLengths (s.deliveryPages d)).sum) →
        ∀ bus, bus = (s.station j.slot).relocate cur.next →
        (cur.next.toNat % 16 = 0 → j.fetched < 64 → (s.station j.slot).apertureStart * 65536 ≤ bus.toNat →
          bus.toNat + 16 ≤ (s.station j.slot).apertureEnd * 65536 + 65536 →
          ∃ t k, exec (.burstComplete ws) s = .next t ∧ t.te.jobs = [k] ∧ k.fetch = some (cur.next, bus)
            ∧ k.fetched = j.fetched ∧ k.moved = moved ∧ t.te.tenure = none ∧ t.te.request = request)
        ∧ (cur.next.toNat % 16 = 0 → j.fetched < 64 → (bus.toNat < (s.station j.slot).apertureStart * 65536
            ∨ (s.station j.slot).apertureEnd * 65536 + 65536 < bus.toNat + 16) →
          ∃ t, exec (.burstComplete ws) s = .next t ∧ t.te.tenure = none ∧ u.JobEnds t j .apertureFault moved done)
        ∧ (64 ≤ j.fetched ∨ cur.next.toNat % 16 ≠ 0 →
          ∃ t, exec (.burstComplete ws) s = .next t ∧ t.te.tenure = none ∧ u.JobEnds t j .chainFault moved done))))
    ∧ (∀ cur d ws k y, j.fetch = none → j.current = some cur → j.kind = .delivery d → j.cancelled = false →
      cur.moved + b.length < cur.count → j.moved + b.length < (streamLengths (s.deliveryPages d)).sum →
      ((streamLengths (s.deliveryPages d)).take k).sum + y = j.moved + b.length →
      y < (streamLengths (s.deliveryPages d)).getD k 0 →
      exec (.burstComplete ws) s = .next { s with te := { s.te with
        tenure := none, request := request
        jobs := [{ j with
          moved := j.moved + b.length, current := some { cur with moved := cur.moved + b.length }
          kind := .delivery { d with page := d.firstPage + k, byte := y, whole := k } }] } })
    ∧ (∀ cur d ws, j.fetch = none → j.current = some cur → j.kind = .delivery d → j.cancelled = false →
      (streamLengths (s.deliveryPages d)).sum ≤ j.moved + b.length →
      ∃ t, exec (.burstComplete ws) s = .next t ∧ t.te.tenure = none ∧ t.iu = s.iu ∧ t.dqu = s.dqu
        ∧ s.JobEnds t j .ok (j.moved + b.length) (s.deliveryPages d).length)
    ∧ (j.fetch ≠ none ∨ j.current ≠ none → j.cancelled = false →
        exec .burstRetry s = .next { s with te := { s.te with tenure := none, request := request } })
    ∧ (∀ i, i = Instr.burstError ∨ (j.cancelled = true ∧ (i = .burstRetry ∨ (j.fetch ≠ none ∧ ∃ ws, i = .burstComplete ws))) →
      ∃ t, exec i s = .next t ∧ t.te.tenure = none ∧ t.te.request = none
        ∧ s.JobEnds t j (if j.cancelled then .cancelled else .busError) j.moved (s.doneSoFar j))
    ∧ (∀ x next, j.cancelled = false → s.nextBurst j = some next →
        exec .burstRetry { s with te := { s.te with tenure := some ⟨.hold, c, x⟩ } } = .next
          { s with te := { s.te with lastGranted := c, tenure := some ⟨.hold, c, next⟩ } })
    ∧ ∀ k bus, k.channel = none → k.cancelled = false → k.fetch = none → k.current = none → k.fetched < 64 →
        bus = (s.station k.slot).relocate k.chain → k.chain.toNat % 16 = 0 → (s.station k.slot).apertureStart * 65536 ≤ bus.toNat →
        bus.toNat + 16 ≤ (s.station k.slot).apertureEnd * 65536 + 65536 →
        ∃ t, exec .burstError { s with te := { s.te with jobs := [j, k] } } = .next t
          ∧ t.te.jobs = [{ k with channel := some 0, fetch := some (k.chain, bus) }] ∧ t.te.tenure = none ∧ t.te.request = request

/-! ## Invariants and isolation -/

/-- Every step keeps the configuration in its ranges and every table, the store memory among them, in its canonical form: the
marks in their order (R14), the clocks (R187, R188), the retention durations (R72), the profiles (R60), the route entries with
no prefix twice, the default route and the fallback (R90, R91, R98, R101), the apertures (R167), the settings of the
destinations (R108), each bound to a slot that holds DELIVER (R110), the fallback, as long as one is set, OPEN or PAUSED (R107), and
some slot holding ADMINISTER at all times (R179). That
all this holds after reset stands in `ResetValues`. -/
def Obligations.InvariantKept : Prop :=
  ∀ s t : State, s.InRange → s.Canonical → step s = .next t → t.InRange ∧ t.Canonical

/-- No record of a slot without ADMINISTER changes the configuration of the part: the marks, the ADMIN hold, the retention
classes, the routes, the profiles and the fallback, the clock, the bus policy, any slot's STATION_CONFIG fields, any
destination's label, binding, hold time and limits. -/
def Obligations.ConfigurationIsolated : Prop :=
  ∀ (s t : State) (c : Instr) (slot : Nat), c.requester = some slot → (s.rights slot).administer = false →
    exec c s = .next t → SameConfig s t
end

