-- ==== Sys2Proof/Laws/Table.lean ====
section
/-!
SUPPORT. Laws of the sparse tables: a read after a write, a write after a write, and the canonical form, which every write
keeps. The store memory is one of these tables, so these are also the laws of memory.
-/

namespace Sys2Proof.Machine

variable {α : Type}

theorem readCells_erase_same (d : α) (i : Nat) (cells : List (Nat × α)) : readCells d (eraseCell i cells) i = d := by
  induction cells with
  | nil => rfl
  | cons c rest ih =>
    obtain ⟨k, v⟩ := c
    by_cases h : k = i
    · simpa [eraseCell, h] using ih
    · simpa [eraseCell, h, readCells, Ne.symm h] using ih

theorem readCells_erase_ne (d : α) {i j : Nat} (h : j ≠ i) (cells : List (Nat × α)) :
    readCells d (eraseCell i cells) j = readCells d cells j := by
  induction cells with
  | nil => rfl
  | cons c rest ih =>
    obtain ⟨k, v⟩ := c
    have ih' : readCells d (rest.filter (fun c => decide (c.1 ≠ i))) j = readCells d rest j := ih
    by_cases hk : k = i
    · have hj : j ≠ k := fun e => h (e.trans hk)
      simp only [eraseCell, List.filter_cons, hk, ne_eq, not_true_eq_false, decide_false, Bool.false_eq_true, if_false,
        readCells, h]
      exact ih'
    · simp only [eraseCell, List.filter_cons, hk, ne_eq, not_false_eq_true, decide_true, if_true, readCells]
      split
      · rfl
      · exact ih'

theorem readCells_insert_same (d v : α) (i : Nat) (cells : List (Nat × α)) (h : ∀ c ∈ cells, c.1 ≠ i) :
    readCells d (insertCell i v cells) i = v := by
  induction cells with
  | nil => simp [insertCell, readCells]
  | cons c rest ih =>
    obtain ⟨k, w⟩ := c
    have hk : k ≠ i := h (k, w) (by simp)
    by_cases hlt : i < k
    · simp [insertCell, hlt, readCells]
    · simp [insertCell, hlt, readCells, Ne.symm hk, ih (fun c hc => h c (by simp [hc]))]

theorem readCells_insert_ne (d v : α) {i j : Nat} (h : j ≠ i) (cells : List (Nat × α)) :
    readCells d (insertCell i v cells) j = readCells d cells j := by
  induction cells with
  | nil => simp [insertCell, readCells, h]
  | cons c rest ih =>
    obtain ⟨k, w⟩ := c
    by_cases hlt : i < k
    · simp [insertCell, hlt, readCells, h]
    · simp [insertCell, hlt, readCells, ih]

theorem eraseCell_absent (i : Nat) (cells : List (Nat × α)) : ∀ c ∈ eraseCell i cells, c.1 ≠ i := by
  intro c hc
  simpa [eraseCell] using (List.mem_filter.1 hc).2

theorem eraseCell_of_absent (i : Nat) (cells : List (Nat × α)) (h : ∀ c ∈ cells, c.1 ≠ i) : eraseCell i cells = cells := by
  simpa [eraseCell, List.filter_eq_self] using fun a b hab => h (a, b) hab

theorem eraseCell_insert (i : Nat) (v : α) (cells : List (Nat × α)) (h : ∀ c ∈ cells, c.1 ≠ i) :
    eraseCell i (insertCell i v cells) = cells := by
  induction cells with
  | nil => simp [insertCell, eraseCell]
  | cons c rest ih =>
    obtain ⟨k, w⟩ := c
    have hk : k ≠ i := h (k, w) (by simp)
    have ih' := ih (fun c hc => h c (by simp [hc]))
    have he := eraseCell_of_absent i ((k, w) :: rest) h
    by_cases hlt : i < k
    · simp only [insertCell, hlt, if_true]
      simpa [eraseCell] using he
    · simp only [insertCell, hlt, if_false]
      simpa [eraseCell, hk] using ih'

/-- A read after a write of the same number gives the value written. -/
@[simp] theorem Table.read_write_same [DecidableEq α] (d : α) (t : Table α) (i : Nat) (v : α) :
    (t.write d i v).read d i = v := by
  unfold Table.write Table.read
  split
  · rename_i h
    rw [h]
    exact readCells_erase_same d i t.cells
  · exact readCells_insert_same d v i _ (eraseCell_absent i t.cells)

/-- A write leaves every other number alone. -/
theorem Table.read_write_ne [DecidableEq α] (d : α) (t : Table α) {i j : Nat} (v : α) (h : j ≠ i) :
    (t.write d i v).read d j = t.read d j := by
  unfold Table.write Table.read
  split
  · exact readCells_erase_ne d h t.cells
  · exact (readCells_insert_ne d v h _).trans (readCells_erase_ne d h t.cells)

/-- A read after a write, as one equation. -/
theorem Table.read_write [DecidableEq α] (d : α) (t : Table α) (i j : Nat) (v : α) :
    (t.write d i v).read d j = if j = i then v else t.read d j := by
  split
  · rename_i h
    rw [h, Table.read_write_same]
  · rename_i h
    exact Table.read_write_ne d t v h

/-- The last of two writes of one number stands alone. -/
@[simp] theorem Table.write_write [DecidableEq α] (d : α) (t : Table α) (i : Nat) (v w : α) :
    (t.write d i v).write d i w = t.write d i w := by
  have key : eraseCell i (t.write d i v).cells = eraseCell i t.cells := by
    unfold Table.write
    split
    · exact eraseCell_of_absent i _ (eraseCell_absent i t.cells)
    · exact eraseCell_insert i v _ (eraseCell_absent i t.cells)
  show Table.mk _ = Table.mk _
  rw [key]

theorem readCells_cases (d : α) (i : Nat) (cells : List (Nat × α)) :
    (readCells d cells i = d ∧ ∀ c ∈ cells, c.1 ≠ i) ∨ (i, readCells d cells i) ∈ cells := by
  induction cells with
  | nil => exact .inl ⟨rfl, by simp⟩
  | cons c rest ih =>
    obtain ⟨k, v⟩ := c
    by_cases h : i = k
    · exact .inr (by simp [readCells, h])
    · rcases ih with ⟨hd, hn⟩ | hm
      · refine .inl ⟨by simpa [readCells, h] using hd, ?_⟩
        rintro c hc rfl
        rcases List.mem_cons.1 hc with rfl | hc
        · exact h rfl
        · exact hn c hc rfl
      · exact .inr (by simp [readCells, h, hm])

/-- A read gives the default, where no cell has the number, or the value of a cell. -/
theorem Table.read_cases (d : α) (t : Table α) (i : Nat) :
    (t.read d i = d ∧ ∀ c ∈ t.cells, c.1 ≠ i) ∨ (i, t.read d i) ∈ t.cells := readCells_cases d i t.cells

/-- What holds of the default and of every cell holds of every read. -/
theorem Table.read_forall {P : Nat → α → Prop} (d : α) (t : Table α) (hd : ∀ i, P i d) (h : ∀ c ∈ t.cells, P c.1 c.2) (i : Nat) :
    P i (t.read d i) := by
  rcases t.read_cases d i with ⟨e, -⟩ | hm
  · rw [e]
    exact hd i
  · exact h _ hm

theorem insertCell_pairwise (i : Nat) (v : α) (cells : List (Nat × α)) (h : cells.Pairwise (fun a b => a.1 < b.1))
    (hi : ∀ c ∈ cells, c.1 ≠ i) : (insertCell i v cells).Pairwise (fun a b => a.1 < b.1) := by
  induction cells with
  | nil => simp [insertCell]
  | cons c rest ih =>
    obtain ⟨k, w⟩ := c
    have hk : k ≠ i := hi (k, w) (by simp)
    obtain ⟨h1, h2⟩ := List.pairwise_cons.1 h
    by_cases hlt : i < k
    · simp only [insertCell, hlt, if_true, List.pairwise_cons]
      refine ⟨fun a ha => ?_, h1, h2⟩
      rcases List.mem_cons.1 ha with rfl | ha
      · exact hlt
      · exact lt_trans hlt (h1 a ha)
    · simp only [insertCell, hlt, if_false, List.pairwise_cons]
      refine ⟨fun a ha => ?_, ih h2 (fun c hc => hi c (by simp [hc]))⟩
      have : a = (i, v) ∨ a ∈ rest := by
        clear ih h h1 h2 hi
        induction rest with
        | nil => simpa [insertCell] using ha
        | cons c rest ih =>
          obtain ⟨m, x⟩ := c
          by_cases hm : i < m
          · simpa [insertCell, hm] using ha
          · simp only [insertCell, hm, if_false, List.mem_cons] at ha ⊢
            rcases ha with ha | ha
            · exact Or.inr (Or.inl ha)
            · rcases ih ha with h | h
              · exact Or.inl h
              · exact Or.inr (Or.inr h)
      rcases this with rfl | h
      · simp only
        omega
      · exact h1 a h

theorem insertCell_mem (i : Nat) (v : α) (cells : List (Nat × α)) : ∀ c ∈ insertCell i v cells, c = (i, v) ∨ c ∈ cells := by
  induction cells with
  | nil => simp [insertCell]
  | cons c rest ih =>
    obtain ⟨k, w⟩ := c
    intro a ha
    by_cases hlt : i < k
    · simpa [insertCell, hlt] using ha
    · simp only [insertCell, hlt, if_false, List.mem_cons] at ha ⊢
      rcases ha with ha | ha
      · exact Or.inr (Or.inl ha)
      · rcases ih a ha with h | h
        · exact Or.inl h
        · exact Or.inr (Or.inr h)

/-- The empty table is in canonical form. -/
@[simp] theorem Table.empty_wf (d : α) : (Table.mk ([] : List (Nat × α))).WF d := by
  simp [Table.WF]

/-- Cells left out leave the form canonical. -/
theorem Table.filter_wf (d : α) (t : Table α) (p : Nat × α → Bool) (h : t.WF d) : (Table.mk (t.cells.filter p)).WF d :=
  ⟨h.1.filter _, fun c hc => h.2 c (List.mem_filter.1 hc).1⟩

/-- A write keeps the canonical form. -/
theorem Table.write_wf [DecidableEq α] (d : α) (t : Table α) (i : Nat) (v : α) (h : t.WF d) : (t.write d i v).WF d := by
  have he : (Table.mk (eraseCell i t.cells)).WF d := Table.filter_wf d t _ h
  unfold Table.write
  split
  · exact he
  · rename_i hv
    refine ⟨insertCell_pairwise i v _ he.1 (eraseCell_absent i t.cells), fun c hc => ?_⟩
    rcases insertCell_mem i v _ c hc with rfl | hc
    · exact hv
    · exact he.2 c hc

end Sys2Proof.Machine
end

