-- ==== Sys2Proof/Laws/State.lean ====
section
/-!
SUPPORT. One lemma per field per update of the state, and what each accessor reads after each write.
-/

namespace Sys2Proof.Machine

variable (s : State)

/-! ## `setStation` -/

@[simp] theorem State.setStation_part (n : Nat) (x : Station) : (s.setStation n x).part = s.part := rfl
@[simp] theorem State.setStation_bsm (n : Nat) (x : Station) : (s.setStation n x).bsm = s.bsm := rfl
@[simp] theorem State.setStation_iu (n : Nat) (x : Station) : (s.setStation n x).iu = s.iu := rfl
@[simp] theorem State.setStation_dt (n : Nat) (x : Station) : (s.setStation n x).dt = s.dt := rfl
@[simp] theorem State.setStation_rtu (n : Nat) (x : Station) : (s.setStation n x).rtu = s.rtu := rfl
@[simp] theorem State.setStation_dqu (n : Nat) (x : Station) : (s.setStation n x).dqu = s.dqu := rfl
@[simp] theorem State.setStation_te (n : Nat) (x : Station) : (s.setStation n x).te = s.te := rfl
@[simp] theorem State.setStation_tb (n : Nat) (x : Station) : (s.setStation n x).tb = s.tb := rfl
@[simp] theorem State.setStation_heldAtLeave (n : Nat) (x : Station) : (s.setStation n x).heldAtLeave = s.heldAtLeave := rfl
@[simp] theorem State.setStation_answer (n : Nat) (x : Station) : (s.setStation n x).answer = s.answer := rfl
@[simp] theorem State.setStation_choice (n : Nat) (x : Station) : (s.setStation n x).choice = s.choice := rfl
@[simp] theorem State.setStation_pending (n : Nat) (x : Station) : (s.setStation n x).pending = s.pending := rfl

/-! ## `setContext` -/

@[simp] theorem State.setContext_part (n : Nat) (x : Option Context) : (s.setContext n x).part = s.part := rfl
@[simp] theorem State.setContext_spu (n : Nat) (x : Option Context) : (s.setContext n x).spu = s.spu := rfl
@[simp] theorem State.setContext_bsm (n : Nat) (x : Option Context) : (s.setContext n x).bsm = s.bsm := rfl
@[simp] theorem State.setContext_dt (n : Nat) (x : Option Context) : (s.setContext n x).dt = s.dt := rfl
@[simp] theorem State.setContext_rtu (n : Nat) (x : Option Context) : (s.setContext n x).rtu = s.rtu := rfl
@[simp] theorem State.setContext_dqu (n : Nat) (x : Option Context) : (s.setContext n x).dqu = s.dqu := rfl
@[simp] theorem State.setContext_te (n : Nat) (x : Option Context) : (s.setContext n x).te = s.te := rfl
@[simp] theorem State.setContext_tb (n : Nat) (x : Option Context) : (s.setContext n x).tb = s.tb := rfl
@[simp] theorem State.setContext_heldAtLeave (n : Nat) (x : Option Context) : (s.setContext n x).heldAtLeave = s.heldAtLeave := rfl
@[simp] theorem State.setContext_answer (n : Nat) (x : Option Context) : (s.setContext n x).answer = s.answer := rfl
@[simp] theorem State.setContext_choice (n : Nat) (x : Option Context) : (s.setContext n x).choice = s.choice := rfl
@[simp] theorem State.setContext_pending (n : Nat) (x : Option Context) : (s.setContext n x).pending = s.pending := rfl

/-! ## `setDocument` -/

@[simp] theorem State.setDocument_part (n : Nat) (x : Document) : (s.setDocument n x).part = s.part := rfl
@[simp] theorem State.setDocument_spu (n : Nat) (x : Document) : (s.setDocument n x).spu = s.spu := rfl
@[simp] theorem State.setDocument_bsm (n : Nat) (x : Document) : (s.setDocument n x).bsm = s.bsm := rfl
@[simp] theorem State.setDocument_iu (n : Nat) (x : Document) : (s.setDocument n x).iu = s.iu := rfl
@[simp] theorem State.setDocument_rtu (n : Nat) (x : Document) : (s.setDocument n x).rtu = s.rtu := rfl
@[simp] theorem State.setDocument_dqu (n : Nat) (x : Document) : (s.setDocument n x).dqu = s.dqu := rfl
@[simp] theorem State.setDocument_te (n : Nat) (x : Document) : (s.setDocument n x).te = s.te := rfl
@[simp] theorem State.setDocument_tb (n : Nat) (x : Document) : (s.setDocument n x).tb = s.tb := rfl
@[simp] theorem State.setDocument_heldAtLeave (n : Nat) (x : Document) : (s.setDocument n x).heldAtLeave = s.heldAtLeave := rfl
@[simp] theorem State.setDocument_answer (n : Nat) (x : Document) : (s.setDocument n x).answer = s.answer := rfl
@[simp] theorem State.setDocument_choice (n : Nat) (x : Document) : (s.setDocument n x).choice = s.choice := rfl
@[simp] theorem State.setDocument_pending (n : Nat) (x : Document) : (s.setDocument n x).pending = s.pending := rfl

/-! ## `setPage` -/

@[simp] theorem State.setPage_part (n : Nat) (x : Option PageRecord) : (s.setPage n x).part = s.part := rfl
@[simp] theorem State.setPage_spu (n : Nat) (x : Option PageRecord) : (s.setPage n x).spu = s.spu := rfl
@[simp] theorem State.setPage_bsm (n : Nat) (x : Option PageRecord) : (s.setPage n x).bsm = s.bsm := rfl
@[simp] theorem State.setPage_iu (n : Nat) (x : Option PageRecord) : (s.setPage n x).iu = s.iu := rfl
@[simp] theorem State.setPage_rtu (n : Nat) (x : Option PageRecord) : (s.setPage n x).rtu = s.rtu := rfl
@[simp] theorem State.setPage_dqu (n : Nat) (x : Option PageRecord) : (s.setPage n x).dqu = s.dqu := rfl
@[simp] theorem State.setPage_te (n : Nat) (x : Option PageRecord) : (s.setPage n x).te = s.te := rfl
@[simp] theorem State.setPage_tb (n : Nat) (x : Option PageRecord) : (s.setPage n x).tb = s.tb := rfl
@[simp] theorem State.setPage_heldAtLeave (n : Nat) (x : Option PageRecord) : (s.setPage n x).heldAtLeave = s.heldAtLeave := rfl
@[simp] theorem State.setPage_answer (n : Nat) (x : Option PageRecord) : (s.setPage n x).answer = s.answer := rfl
@[simp] theorem State.setPage_choice (n : Nat) (x : Option PageRecord) : (s.setPage n x).choice = s.choice := rfl
@[simp] theorem State.setPage_pending (n : Nat) (x : Option PageRecord) : (s.setPage n x).pending = s.pending := rfl

/-! ## `setRouteEntry` -/

@[simp] theorem State.setRouteEntry_part (n : Nat) (x : Option RouteEntry) : (s.setRouteEntry n x).part = s.part := rfl
@[simp] theorem State.setRouteEntry_spu (n : Nat) (x : Option RouteEntry) : (s.setRouteEntry n x).spu = s.spu := rfl
@[simp] theorem State.setRouteEntry_bsm (n : Nat) (x : Option RouteEntry) : (s.setRouteEntry n x).bsm = s.bsm := rfl
@[simp] theorem State.setRouteEntry_iu (n : Nat) (x : Option RouteEntry) : (s.setRouteEntry n x).iu = s.iu := rfl
@[simp] theorem State.setRouteEntry_dt (n : Nat) (x : Option RouteEntry) : (s.setRouteEntry n x).dt = s.dt := rfl
@[simp] theorem State.setRouteEntry_dqu (n : Nat) (x : Option RouteEntry) : (s.setRouteEntry n x).dqu = s.dqu := rfl
@[simp] theorem State.setRouteEntry_te (n : Nat) (x : Option RouteEntry) : (s.setRouteEntry n x).te = s.te := rfl
@[simp] theorem State.setRouteEntry_tb (n : Nat) (x : Option RouteEntry) : (s.setRouteEntry n x).tb = s.tb := rfl
@[simp] theorem State.setRouteEntry_heldAtLeave (n : Nat) (x : Option RouteEntry) : (s.setRouteEntry n x).heldAtLeave = s.heldAtLeave := rfl
@[simp] theorem State.setRouteEntry_answer (n : Nat) (x : Option RouteEntry) : (s.setRouteEntry n x).answer = s.answer := rfl
@[simp] theorem State.setRouteEntry_choice (n : Nat) (x : Option RouteEntry) : (s.setRouteEntry n x).choice = s.choice := rfl
@[simp] theorem State.setRouteEntry_pending (n : Nat) (x : Option RouteEntry) : (s.setRouteEntry n x).pending = s.pending := rfl

/-! ## `setProfile` -/

@[simp] theorem State.setProfile_part (n : Nat) (x : Profile) : (s.setProfile n x).part = s.part := rfl
@[simp] theorem State.setProfile_spu (n : Nat) (x : Profile) : (s.setProfile n x).spu = s.spu := rfl
@[simp] theorem State.setProfile_bsm (n : Nat) (x : Profile) : (s.setProfile n x).bsm = s.bsm := rfl
@[simp] theorem State.setProfile_iu (n : Nat) (x : Profile) : (s.setProfile n x).iu = s.iu := rfl
@[simp] theorem State.setProfile_dt (n : Nat) (x : Profile) : (s.setProfile n x).dt = s.dt := rfl
@[simp] theorem State.setProfile_dqu (n : Nat) (x : Profile) : (s.setProfile n x).dqu = s.dqu := rfl
@[simp] theorem State.setProfile_te (n : Nat) (x : Profile) : (s.setProfile n x).te = s.te := rfl
@[simp] theorem State.setProfile_tb (n : Nat) (x : Profile) : (s.setProfile n x).tb = s.tb := rfl
@[simp] theorem State.setProfile_heldAtLeave (n : Nat) (x : Profile) : (s.setProfile n x).heldAtLeave = s.heldAtLeave := rfl
@[simp] theorem State.setProfile_answer (n : Nat) (x : Profile) : (s.setProfile n x).answer = s.answer := rfl
@[simp] theorem State.setProfile_choice (n : Nat) (x : Profile) : (s.setProfile n x).choice = s.choice := rfl
@[simp] theorem State.setProfile_pending (n : Nat) (x : Profile) : (s.setProfile n x).pending = s.pending := rfl

/-! ## `setDestination` -/

@[simp] theorem State.setDestination_part (n : Nat) (x : Destination) : (s.setDestination n x).part = s.part := rfl
@[simp] theorem State.setDestination_spu (n : Nat) (x : Destination) : (s.setDestination n x).spu = s.spu := rfl
@[simp] theorem State.setDestination_bsm (n : Nat) (x : Destination) : (s.setDestination n x).bsm = s.bsm := rfl
@[simp] theorem State.setDestination_iu (n : Nat) (x : Destination) : (s.setDestination n x).iu = s.iu := rfl
@[simp] theorem State.setDestination_dt (n : Nat) (x : Destination) : (s.setDestination n x).dt = s.dt := rfl
@[simp] theorem State.setDestination_rtu (n : Nat) (x : Destination) : (s.setDestination n x).rtu = s.rtu := rfl
@[simp] theorem State.setDestination_te (n : Nat) (x : Destination) : (s.setDestination n x).te = s.te := rfl
@[simp] theorem State.setDestination_tb (n : Nat) (x : Destination) : (s.setDestination n x).tb = s.tb := rfl
@[simp] theorem State.setDestination_heldAtLeave (n : Nat) (x : Destination) : (s.setDestination n x).heldAtLeave = s.heldAtLeave := rfl
@[simp] theorem State.setDestination_answer (n : Nat) (x : Destination) : (s.setDestination n x).answer = s.answer := rfl
@[simp] theorem State.setDestination_choice (n : Nat) (x : Destination) : (s.setDestination n x).choice = s.choice := rfl
@[simp] theorem State.setDestination_pending (n : Nat) (x : Destination) : (s.setDestination n x).pending = s.pending := rfl

/-! ## `answering` -/

@[simp] theorem State.answering_part (a : Answer) : (s.answering a).part = s.part := rfl
@[simp] theorem State.answering_spu (a : Answer) : (s.answering a).spu = s.spu := rfl
@[simp] theorem State.answering_bsm (a : Answer) : (s.answering a).bsm = s.bsm := rfl
@[simp] theorem State.answering_iu (a : Answer) : (s.answering a).iu = s.iu := rfl
@[simp] theorem State.answering_dt (a : Answer) : (s.answering a).dt = s.dt := rfl
@[simp] theorem State.answering_rtu (a : Answer) : (s.answering a).rtu = s.rtu := rfl
@[simp] theorem State.answering_dqu (a : Answer) : (s.answering a).dqu = s.dqu := rfl
@[simp] theorem State.answering_te (a : Answer) : (s.answering a).te = s.te := rfl
@[simp] theorem State.answering_tb (a : Answer) : (s.answering a).tb = s.tb := rfl
@[simp] theorem State.answering_heldAtLeave (a : Answer) : (s.answering a).heldAtLeave = s.heldAtLeave := rfl
@[simp] theorem State.answering_choice (a : Answer) : (s.answering a).choice = s.choice := rfl
@[simp] theorem State.answering_pending (a : Answer) : (s.answering a).pending = s.pending := rfl

/-! ## `replaceJob` -/

@[simp] theorem State.replaceJob_part (j k : Job) : (s.replaceJob j k).part = s.part := rfl
@[simp] theorem State.replaceJob_spu (j k : Job) : (s.replaceJob j k).spu = s.spu := rfl
@[simp] theorem State.replaceJob_bsm (j k : Job) : (s.replaceJob j k).bsm = s.bsm := rfl
@[simp] theorem State.replaceJob_iu (j k : Job) : (s.replaceJob j k).iu = s.iu := rfl
@[simp] theorem State.replaceJob_dt (j k : Job) : (s.replaceJob j k).dt = s.dt := rfl
@[simp] theorem State.replaceJob_rtu (j k : Job) : (s.replaceJob j k).rtu = s.rtu := rfl
@[simp] theorem State.replaceJob_dqu (j k : Job) : (s.replaceJob j k).dqu = s.dqu := rfl
@[simp] theorem State.replaceJob_tb (j k : Job) : (s.replaceJob j k).tb = s.tb := rfl
@[simp] theorem State.replaceJob_heldAtLeave (j k : Job) : (s.replaceJob j k).heldAtLeave = s.heldAtLeave := rfl
@[simp] theorem State.replaceJob_answer (j k : Job) : (s.replaceJob j k).answer = s.answer := rfl
@[simp] theorem State.replaceJob_choice (j k : Job) : (s.replaceJob j k).choice = s.choice := rfl
@[simp] theorem State.replaceJob_pending (j k : Job) : (s.replaceJob j k).pending = s.pending := rfl

/-! ## What an accessor reads after a write -/

@[simp] theorem State.station_setStation_same (n : Nat) (x : Station) : (s.setStation n x).station n = x :=
  Table.read_write_same _ _ _ _

theorem State.station_setStation_ne {n m : Nat} (h : m ≠ n) (x : Station) : (s.setStation n x).station m = s.station m :=
  Table.read_write_ne _ _ _ h

theorem State.station_setStation (n m : Nat) (x : Station) : (s.setStation n x).station m = if m = n then x else s.station m :=
  Table.read_write _ _ _ _ _

@[simp] theorem State.setStation_twice (n : Nat) (x y : Station) : (s.setStation n x).setStation n y = s.setStation n y := by
  simp [State.setStation]

@[simp] theorem State.context_setContext_same (n : Nat) (x : Option Context) : (s.setContext n x).context n = x :=
  Table.read_write_same _ _ _ _

theorem State.context_setContext_ne {n m : Nat} (h : m ≠ n) (x : Option Context) : (s.setContext n x).context m = s.context m :=
  Table.read_write_ne _ _ _ h

theorem State.context_setContext (n m : Nat) (x : Option Context) : (s.setContext n x).context m = if m = n then x else s.context m :=
  Table.read_write _ _ _ _ _

@[simp] theorem State.setContext_twice (n : Nat) (x y : Option Context) : (s.setContext n x).setContext n y = s.setContext n y := by
  simp [State.setContext]

@[simp] theorem State.document_setDocument_same (n : Nat) (x : Document) : (s.setDocument n x).document n = x :=
  Table.read_write_same _ _ _ _

theorem State.document_setDocument_ne {n m : Nat} (h : m ≠ n) (x : Document) : (s.setDocument n x).document m = s.document m :=
  Table.read_write_ne _ _ _ h

theorem State.document_setDocument (n m : Nat) (x : Document) : (s.setDocument n x).document m = if m = n then x else s.document m :=
  Table.read_write _ _ _ _ _

@[simp] theorem State.setDocument_twice (n : Nat) (x y : Document) : (s.setDocument n x).setDocument n y = s.setDocument n y := by
  simp [State.setDocument]

@[simp] theorem State.page_setPage_same (n : Nat) (x : Option PageRecord) : (s.setPage n x).page n = x :=
  Table.read_write_same _ _ _ _

theorem State.page_setPage_ne {n m : Nat} (h : m ≠ n) (x : Option PageRecord) : (s.setPage n x).page m = s.page m :=
  Table.read_write_ne _ _ _ h

theorem State.page_setPage (n m : Nat) (x : Option PageRecord) : (s.setPage n x).page m = if m = n then x else s.page m :=
  Table.read_write _ _ _ _ _

@[simp] theorem State.setPage_twice (n : Nat) (x y : Option PageRecord) : (s.setPage n x).setPage n y = s.setPage n y := by
  simp [State.setPage]

@[simp] theorem State.routeEntry_setRouteEntry_same (n : Nat) (x : Option RouteEntry) : (s.setRouteEntry n x).routeEntry n = x :=
  Table.read_write_same _ _ _ _

theorem State.routeEntry_setRouteEntry_ne {n m : Nat} (h : m ≠ n) (x : Option RouteEntry) : (s.setRouteEntry n x).routeEntry m = s.routeEntry m :=
  Table.read_write_ne _ _ _ h

theorem State.routeEntry_setRouteEntry (n m : Nat) (x : Option RouteEntry) : (s.setRouteEntry n x).routeEntry m = if m = n then x else s.routeEntry m :=
  Table.read_write _ _ _ _ _

@[simp] theorem State.setRouteEntry_twice (n : Nat) (x y : Option RouteEntry) : (s.setRouteEntry n x).setRouteEntry n y = s.setRouteEntry n y := by
  simp [State.setRouteEntry]

@[simp] theorem State.profile_setProfile_same (n : Nat) (x : Profile) : (s.setProfile n x).profile n = x :=
  Table.read_write_same _ _ _ _

theorem State.profile_setProfile_ne {n m : Nat} (h : m ≠ n) (x : Profile) : (s.setProfile n x).profile m = s.profile m :=
  Table.read_write_ne _ _ _ h

theorem State.profile_setProfile (n m : Nat) (x : Profile) : (s.setProfile n x).profile m = if m = n then x else s.profile m :=
  Table.read_write _ _ _ _ _

@[simp] theorem State.setProfile_twice (n : Nat) (x y : Profile) : (s.setProfile n x).setProfile n y = s.setProfile n y := by
  simp [State.setProfile]

@[simp] theorem State.destination_setDestination_same (n : Nat) (x : Destination) : (s.setDestination n x).destination n = x :=
  Table.read_write_same _ _ _ _

theorem State.destination_setDestination_ne {n m : Nat} (h : m ≠ n) (x : Destination) : (s.setDestination n x).destination m = s.destination m :=
  Table.read_write_ne _ _ _ h

theorem State.destination_setDestination (n m : Nat) (x : Destination) : (s.setDestination n x).destination m = if m = n then x else s.destination m :=
  Table.read_write _ _ _ _ _

@[simp] theorem State.setDestination_twice (n : Nat) (x y : Destination) : (s.setDestination n x).setDestination n y = s.setDestination n y := by
  simp [State.setDestination]

@[simp] theorem State.station_setContext (n : Nat) (x : Option Context) (m : Nat) : (s.setContext n x).station m = s.station m := rfl
@[simp] theorem State.station_setDocument (n : Nat) (x : Document) (m : Nat) : (s.setDocument n x).station m = s.station m := rfl
@[simp] theorem State.station_setPage (n : Nat) (x : Option PageRecord) (m : Nat) : (s.setPage n x).station m = s.station m := rfl
@[simp] theorem State.station_setRouteEntry (n : Nat) (x : Option RouteEntry) (m : Nat) : (s.setRouteEntry n x).station m = s.station m := rfl
@[simp] theorem State.station_setProfile (n : Nat) (x : Profile) (m : Nat) : (s.setProfile n x).station m = s.station m := rfl
@[simp] theorem State.station_setDestination (n : Nat) (x : Destination) (m : Nat) : (s.setDestination n x).station m = s.station m := rfl
@[simp] theorem State.station_answering (a : Answer) (m : Nat) : (s.answering a).station m = s.station m := rfl
@[simp] theorem State.station_replaceJob (j k : Job) (m : Nat) : (s.replaceJob j k).station m = s.station m := rfl
@[simp] theorem State.context_setStation (n : Nat) (x : Station) (m : Nat) : (s.setStation n x).context m = s.context m := rfl
@[simp] theorem State.context_setDocument (n : Nat) (x : Document) (m : Nat) : (s.setDocument n x).context m = s.context m := rfl
@[simp] theorem State.context_setPage (n : Nat) (x : Option PageRecord) (m : Nat) : (s.setPage n x).context m = s.context m := rfl
@[simp] theorem State.context_setRouteEntry (n : Nat) (x : Option RouteEntry) (m : Nat) : (s.setRouteEntry n x).context m = s.context m := rfl
@[simp] theorem State.context_setProfile (n : Nat) (x : Profile) (m : Nat) : (s.setProfile n x).context m = s.context m := rfl
@[simp] theorem State.context_setDestination (n : Nat) (x : Destination) (m : Nat) : (s.setDestination n x).context m = s.context m := rfl
@[simp] theorem State.context_answering (a : Answer) (m : Nat) : (s.answering a).context m = s.context m := rfl
@[simp] theorem State.context_replaceJob (j k : Job) (m : Nat) : (s.replaceJob j k).context m = s.context m := rfl
@[simp] theorem State.document_setStation (n : Nat) (x : Station) (m : Nat) : (s.setStation n x).document m = s.document m := rfl
@[simp] theorem State.document_setContext (n : Nat) (x : Option Context) (m : Nat) : (s.setContext n x).document m = s.document m := rfl
@[simp] theorem State.document_setPage (n : Nat) (x : Option PageRecord) (m : Nat) : (s.setPage n x).document m = s.document m := rfl
@[simp] theorem State.document_setRouteEntry (n : Nat) (x : Option RouteEntry) (m : Nat) : (s.setRouteEntry n x).document m = s.document m := rfl
@[simp] theorem State.document_setProfile (n : Nat) (x : Profile) (m : Nat) : (s.setProfile n x).document m = s.document m := rfl
@[simp] theorem State.document_setDestination (n : Nat) (x : Destination) (m : Nat) : (s.setDestination n x).document m = s.document m := rfl
@[simp] theorem State.document_answering (a : Answer) (m : Nat) : (s.answering a).document m = s.document m := rfl
@[simp] theorem State.document_replaceJob (j k : Job) (m : Nat) : (s.replaceJob j k).document m = s.document m := rfl
@[simp] theorem State.page_setStation (n : Nat) (x : Station) (m : Nat) : (s.setStation n x).page m = s.page m := rfl
@[simp] theorem State.page_setContext (n : Nat) (x : Option Context) (m : Nat) : (s.setContext n x).page m = s.page m := rfl
@[simp] theorem State.page_setDocument (n : Nat) (x : Document) (m : Nat) : (s.setDocument n x).page m = s.page m := rfl
@[simp] theorem State.page_setRouteEntry (n : Nat) (x : Option RouteEntry) (m : Nat) : (s.setRouteEntry n x).page m = s.page m := rfl
@[simp] theorem State.page_setProfile (n : Nat) (x : Profile) (m : Nat) : (s.setProfile n x).page m = s.page m := rfl
@[simp] theorem State.page_setDestination (n : Nat) (x : Destination) (m : Nat) : (s.setDestination n x).page m = s.page m := rfl
@[simp] theorem State.page_answering (a : Answer) (m : Nat) : (s.answering a).page m = s.page m := rfl
@[simp] theorem State.page_replaceJob (j k : Job) (m : Nat) : (s.replaceJob j k).page m = s.page m := rfl
@[simp] theorem State.routeEntry_setStation (n : Nat) (x : Station) (m : Nat) : (s.setStation n x).routeEntry m = s.routeEntry m := rfl
@[simp] theorem State.routeEntry_setContext (n : Nat) (x : Option Context) (m : Nat) : (s.setContext n x).routeEntry m = s.routeEntry m := rfl
@[simp] theorem State.routeEntry_setDocument (n : Nat) (x : Document) (m : Nat) : (s.setDocument n x).routeEntry m = s.routeEntry m := rfl
@[simp] theorem State.routeEntry_setPage (n : Nat) (x : Option PageRecord) (m : Nat) : (s.setPage n x).routeEntry m = s.routeEntry m := rfl
@[simp] theorem State.routeEntry_setProfile (n : Nat) (x : Profile) (m : Nat) : (s.setProfile n x).routeEntry m = s.routeEntry m := rfl
@[simp] theorem State.routeEntry_setDestination (n : Nat) (x : Destination) (m : Nat) : (s.setDestination n x).routeEntry m = s.routeEntry m := rfl
@[simp] theorem State.routeEntry_answering (a : Answer) (m : Nat) : (s.answering a).routeEntry m = s.routeEntry m := rfl
@[simp] theorem State.routeEntry_replaceJob (j k : Job) (m : Nat) : (s.replaceJob j k).routeEntry m = s.routeEntry m := rfl
@[simp] theorem State.profile_setStation (n : Nat) (x : Station) (m : Nat) : (s.setStation n x).profile m = s.profile m := rfl
@[simp] theorem State.profile_setContext (n : Nat) (x : Option Context) (m : Nat) : (s.setContext n x).profile m = s.profile m := rfl
@[simp] theorem State.profile_setDocument (n : Nat) (x : Document) (m : Nat) : (s.setDocument n x).profile m = s.profile m := rfl
@[simp] theorem State.profile_setPage (n : Nat) (x : Option PageRecord) (m : Nat) : (s.setPage n x).profile m = s.profile m := rfl
@[simp] theorem State.profile_setRouteEntry (n : Nat) (x : Option RouteEntry) (m : Nat) : (s.setRouteEntry n x).profile m = s.profile m := rfl
@[simp] theorem State.profile_setDestination (n : Nat) (x : Destination) (m : Nat) : (s.setDestination n x).profile m = s.profile m := rfl
@[simp] theorem State.profile_answering (a : Answer) (m : Nat) : (s.answering a).profile m = s.profile m := rfl
@[simp] theorem State.profile_replaceJob (j k : Job) (m : Nat) : (s.replaceJob j k).profile m = s.profile m := rfl
@[simp] theorem State.destination_setStation (n : Nat) (x : Station) (m : Nat) : (s.setStation n x).destination m = s.destination m := rfl
@[simp] theorem State.destination_setContext (n : Nat) (x : Option Context) (m : Nat) : (s.setContext n x).destination m = s.destination m := rfl
@[simp] theorem State.destination_setDocument (n : Nat) (x : Document) (m : Nat) : (s.setDocument n x).destination m = s.destination m := rfl
@[simp] theorem State.destination_setPage (n : Nat) (x : Option PageRecord) (m : Nat) : (s.setPage n x).destination m = s.destination m := rfl
@[simp] theorem State.destination_setRouteEntry (n : Nat) (x : Option RouteEntry) (m : Nat) : (s.setRouteEntry n x).destination m = s.destination m := rfl
@[simp] theorem State.destination_setProfile (n : Nat) (x : Profile) (m : Nat) : (s.setProfile n x).destination m = s.destination m := rfl
@[simp] theorem State.destination_answering (a : Answer) (m : Nat) : (s.answering a).destination m = s.destination m := rfl
@[simp] theorem State.destination_replaceJob (j k : Job) (m : Nat) : (s.replaceJob j k).destination m = s.destination m := rfl

@[simp] theorem State.setPage_documents (n : Nat) (x : Option PageRecord) : (s.setPage n x).dt.documents = s.dt.documents := rfl
@[simp] theorem State.setPage_retention (n : Nat) (x : Option PageRecord) : (s.setPage n x).dt.retention = s.dt.retention := rfl
@[simp] theorem State.setDocument_pages (n : Nat) (x : Document) : (s.setDocument n x).dt.pages = s.dt.pages := rfl
@[simp] theorem State.setDocument_retention (n : Nat) (x : Document) : (s.setDocument n x).dt.retention = s.dt.retention := rfl
@[simp] theorem State.setStation_fault (n : Nat) (x : Station) : (s.setStation n x).spu.fault = s.spu.fault := rfl
@[simp] theorem State.setStation_underReset (n : Nat) (x : Station) :
    (s.setStation n x).spu.underReset = s.spu.underReset := rfl

/-! ## Entries of a document -/

@[simp] theorem Document.entry_setEntry_same (d : Document) (p : Nat) (e : Option Entry) : (d.setEntry p e).entry p = e :=
  Table.read_write_same _ _ _ _

theorem Document.entry_setEntry_ne (d : Document) {p q : Nat} (h : q ≠ p) (e : Option Entry) :
    (d.setEntry p e).entry q = d.entry q :=
  Table.read_write_ne _ _ _ h

theorem Document.entry_setEntry (d : Document) (p q : Nat) (e : Option Entry) :
    (d.setEntry p e).entry q = if q = p then e else d.entry q :=
  Table.read_write _ _ _ _ _

/-! ## A record taken and answered -/

@[simp] theorem State.replying_part (slot : Nat) (x : Reply) : (s.replying slot x).part = s.part := rfl
@[simp] theorem State.replying_bsm (slot : Nat) (x : Reply) : (s.replying slot x).bsm = s.bsm := rfl
@[simp] theorem State.replying_iu (slot : Nat) (x : Reply) : (s.replying slot x).iu = s.iu := rfl
@[simp] theorem State.replying_dt (slot : Nat) (x : Reply) : (s.replying slot x).dt = s.dt := rfl
@[simp] theorem State.replying_rtu (slot : Nat) (x : Reply) : (s.replying slot x).rtu = s.rtu := rfl
@[simp] theorem State.replying_dqu (slot : Nat) (x : Reply) : (s.replying slot x).dqu = s.dqu := rfl
@[simp] theorem State.replying_te (slot : Nat) (x : Reply) : (s.replying slot x).te = s.te := rfl
@[simp] theorem State.replying_tb (slot : Nat) (x : Reply) : (s.replying slot x).tb = s.tb := rfl

/-- Taking a record touches its slot's request queue and reservations alone. -/
theorem State.taken_eq (slot : Nat) : s.taken slot =
    s.setStation slot { s.station slot with
      requests := (s.station slot).requests.tail, reserved := (s.station slot).reserved + 1 } := by
  simp [State.taken, State.reserveReply]

/-- A record taken and answered, where the command changed nothing else. -/
theorem State.taken_fill (slot : Nat) (x : Reply) : (s.taken slot).fillReservation slot x = s.replying slot x := by
  simp [State.taken_eq, State.fillReservation, State.replying]

/-- Where the head record is taken, `takeable` answers it. -/
theorem State.takeable_of_head {slot : Nat} {r : Record} (h : s.HasHead slot r) : s.takeable slot = some r := by
  obtain ⟨hp, hr, hq, ht⟩ := h
  unfold State.takeable
  rw [hp]
  dsimp only
  cases hreq : (s.station slot).requests with
  | nil => simp [hreq] at hr
  | cons a rest =>
    obtain rfl : a = r := by simpa [hreq] using hr
    simp only [hq, Bool.true_and]
    by_cases h : isTransfer a.header.code = true
    · simp [h, Config.jobsPerStation, ht h]
    · simp [h]

/-- A command whose record is taken does what its body does (R170). -/
theorem State.command_of_takes {slot code : Nat} {r : Record} (h : s.Takes slot code r) (body : State → Record → Handled) :
    s.command slot code body = (s.taken slot).answerRecord slot r (body (s.taken slot) r) := by
  obtain ⟨hh, hc, hb⟩ := h
  simp [State.command, State.takeRecord, s.takeable_of_head hh, hc, hb]

end Sys2Proof.Machine
end

