-- ==== Sys2Proof/Laws/Notices.lean ====
section
/-!
SUPPORT. What notices can do, said once: whatever is sent, lost and escalated, reply queues grow at their tails, NOTICE_LOST
flags and the part fault condition may be set, and nothing else changes (R175 to R177).
-/

namespace Sys2Proof.Machine

variable (s : State)

namespace UpToNotices

theorem refl (s : State) : UpToNotices s s :=
  ⟨rfl, rfl, id, fun n => ⟨[], false, by simp⟩⟩

theorem trans {s t u : State} (h : UpToNotices s t) (k : UpToNotices t u) : UpToNotices s u := by
  refine ⟨?_, k.underReset.trans h.underReset, fun f => k.fault (h.fault f), fun n => ?_⟩
  · rw [k.rest, h.rest]
  · obtain ⟨xs, a, hx⟩ := h.station n
    obtain ⟨ys, b, hy⟩ := k.station n
    exact ⟨xs ++ ys, a || b, by rw [hy, hx]; simp [Bool.or_assoc]⟩

theorem before {s t u : State} (k : UpToNotices t u) (h : UpToNotices s t) : UpToNotices s u := h.trans k

theorem foldl {α : Type} (f : State → α → State) (h : ∀ (s : State) a, UpToNotices s (f s a)) (l : List α) (s : State) :
    UpToNotices s (l.foldl f s) := by
  induction l generalizing s with
  | nil => exact refl s
  | cons a l ih => exact (h s a).trans (ih (f s a))

variable {s t : State} (h : UpToNotices s t)
include h

theorem part : t.part = s.part := by rw [h.rest]
theorem bsm : t.bsm = s.bsm := by rw [h.rest]
theorem iu : t.iu = s.iu := by rw [h.rest]
theorem dt : t.dt = s.dt := by rw [h.rest]
theorem rtu : t.rtu = s.rtu := by rw [h.rest]
theorem dqu : t.dqu = s.dqu := by rw [h.rest]
theorem te : t.te = s.te := by rw [h.rest]
theorem tb : t.tb = s.tb := by rw [h.rest]
theorem document (i : Nat) : t.document i = s.document i := by simp only [State.document, h.dt]
theorem destination (i : Nat) : t.destination i = s.destination i := by simp only [State.destination, h.dqu]
theorem context (i : Nat) : t.context i = s.context i := by simp only [State.context, h.iu]
theorem rights (n : Nat) : t.rights n = s.rights n := by
  obtain ⟨xs, a, hx⟩ := h.station n
  simp only [State.rights, hx]

end UpToNotices

theorem State.upTo_setStation (n : Nat) (xs : List Reply) (lost : Bool) : UpToNotices s (s.setStation n
    { s.station n with replies := (s.station n).replies ++ xs, noticeLost := (s.station n).noticeLost || lost }) := by
  refine ⟨rfl, rfl, id, fun m => ?_⟩
  rw [State.station_setStation]
  split
  · rename_i e
    rw [e]
    exact ⟨xs, lost, rfl⟩
  · exact ⟨[], false, by simp⟩

theorem State.upTo_appendReply (n : Nat) (r : Reply) : UpToNotices s (s.appendReply n r) := by
  simpa [State.appendReply] using s.upTo_setStation n [r] false

theorem State.upTo_setNoticeLost (n : Nat) : UpToNotices s (s.setNoticeLost n) := by
  simpa [State.setNoticeLost] using s.upTo_setStation n [] true

theorem State.upTo_postCopy (n : Nat) (r : Reply) : UpToNotices s (s.postCopy n r) := by
  unfold State.postCopy
  cases s.postingOf n
  · exact s.upTo_appendReply n r
  · exact .refl s
  · exact .refl s

theorem State.upTo_postCopies (r : Reply) (ns : List Nat) : UpToNotices s (s.postCopies r ns) := by
  induction ns generalizing s with
  | nil => exact .refl s
  | cons n ns ih => exact (s.upTo_postCopy n r).trans (ih _)

theorem State.upTo_overrun (kind : Status) (n : Nat) : UpToNotices s (s.overrun kind n) :=
  (s.upTo_setNoticeLost n).trans (State.upTo_postCopies _ _ _)

theorem State.upTo_sendUnderFault (kind : Status) (ws : List Word) (ns : List Nat) :
    UpToNotices s (s.sendUnderFault kind ws ns) :=
  (s.upTo_postCopies _ _).trans (UpToNotices.foldl _ (fun s n => s.upTo_overrun kind n) _ _)

theorem State.upTo_setFault : UpToNotices s s.setFault := by
  have h : UpToNotices s { s with spu := { s.spu with fault := true } } :=
    ⟨rfl, rfl, fun _ => rfl, fun n => ⟨[], false, by simp [State.station]⟩⟩
  unfold State.setFault
  split
  · exact .refl s
  · dsimp only
    split
    · exact h
    · exact h.trans (State.upTo_sendUnderFault _ _ _ _)

theorem State.upTo_escalate (kind : Status) (n : Nat) : UpToNotices s (s.escalate kind n) := by
  unfold State.escalate
  split
  · exact (s.upTo_overrun kind n).trans (State.upTo_setFault _)
  · exact s.upTo_overrun kind n

/-- All that sending a notice can do. -/
theorem State.upTo_send (kind : Status) (ws : List Word) (ns : List Nat) : UpToNotices s (s.send kind ws ns) :=
  (s.upTo_postCopies _ _).trans (UpToNotices.foldl _ (fun s n => s.upTo_escalate kind n) _ _)

theorem State.upTo_announceHeld (was : Bool) : UpToNotices s (s.announceHeld was) := by
  unfold State.announceHeld
  split
  · exact .refl s
  · exact s.upTo_send _ _ _

/-- All that the intake hold test can do while the part is READY: the STORE cause is tested (R11), and notices go out. -/
theorem State.upTo_holdTest (h : s.part = .ready) :
    UpToNotices { s with bsm := { s.bsm with storeHold := s.bsm.storeTest } } s.holdTest := by
  unfold State.holdTest
  rw [h]
  exact State.upTo_announceHeld _ _

/-- A notice posted where there is room and no reset is under way joins the tail of the reply queue, and nothing else
happens (R175). -/
theorem State.send_one {n : Nat} (kind : Status) (ws : List Word) (hr : s.replyRoom n = true)
    (hu : s.spu.underReset.contains n = false) : s.send kind ws [n] = s.appendReply n (notice kind ws) := by
  have hp : s.postingOf n = .posted := by
    unfold State.postingOf
    rw [hu, hr]
    rfl
  simp [State.send, State.losers, hp, State.postCopies, State.postCopy]

/-- A notice to no slot does nothing. -/
@[simp] theorem State.send_nil (kind : Status) (ws : List Word) : s.send kind ws [] = s := rfl

/-- A notice for a slot under reset does nothing (R175). -/
theorem State.send_muted {n : Nat} (kind : Status) (ws : List Word) (hu : s.spu.underReset.contains n = true) :
    s.send kind ws [n] = s := by
  have hp : s.postingOf n = .muted := by unfold State.postingOf; rw [if_pos hu]
  simp [State.send, State.losers, hp, State.postCopies, State.postCopy]

/-- A record taken and answered after an effect `t` on the state in which it was taken: where the effect is known up to
notices, so is the whole. -/
theorem State.upTo_fill {slot : Nat} {base t : State} (x : Reply)
    (hb : (base.station slot).reserved = (s.station slot).reserved)
    (h : UpToNotices (base.setStation slot { base.station slot with reserved := (s.station slot).reserved + 1 }) t) :
    UpToNotices base (t.fillReservation slot x) ∧ ((t.fillReservation slot x).station slot).replies.getLast? = some x := by
  constructor
  · refine ⟨?_, h.underReset, h.fault, fun m => ?_⟩
    · show State.setStation _ _ _ = _
      unfold State.setStation
      rw [h.rest]
      rfl
    · obtain ⟨xs, lost, hx⟩ := h.station m
      unfold State.fillReservation
      rw [State.station_setStation]
      by_cases e : m = slot
      · subst e
        rw [if_pos rfl]
        rw [State.station_setStation_same] at hx
        exact ⟨xs ++ [x], lost, by rw [hx]; simp [hb]⟩
      · rw [if_neg e]
        rw [State.station_setStation_ne _ e] at hx
        exact ⟨xs, lost, hx⟩
  · simp [State.fillReservation]

/-! ## The settling of a document -/

theorem State.dt_holdTest : s.holdTest.dt = s.dt := by
  unfold State.holdTest
  split
  · exact (State.upTo_announceHeld _ _).dt
  · rfl
  · rfl

theorem State.document_freePages (ps : List Nat) (j : Nat) : (s.freePages ps).document j = s.document j := by
  unfold State.freePages
  induction ps generalizing s with
  | nil => rfl
  | cons p ps ih => exact ih _

/-- A freed document keeps its generation and its opening slot, and nothing else; every other document is as it was. -/
theorem State.document_freeDocument (i j : Nat) :
    (s.freeDocument i).document j = if j = i then (s.document i).freed else s.document j := by
  have h : (s.releaseBlocks (s.documentBlocks (s.document i))).document j = s.document j :=
    congrArg (fun x => x.documents.read Document.free j) (State.dt_holdTest _)
  rw [State.freeDocument, State.document_setDocument, State.document_freePages, h]

/-- The release test of a document that has just become `d`, DONE with a deadline and nothing outstanding (R73). -/
theorem State.releasable_setDocument (i t : Nat) (d : Document) (hs : d.state = .done) (ht : d.retentionDeadline = some t)
    (ho : d.outstandingSet = []) :
    (s.setDocument i d).releasable i = (decide (t ≤ s.tb.uptime) && !d.legalHold && decide (s.activeJobs i = 0)) := by
  have ha : (s.setDocument i d).activeJobs i = s.activeJobs i := rfl
  simp [State.releasable, hs, ht, ho, ha]
  rfl

/-- Where a QUEUED document has been left with nothing outstanding it settles (R70); otherwise it stays as it is. -/
theorem State.settles_settleIfEmpty (i : Nat) (hq : (s.document i).state = .queued) :
    s.Settles i (s.document i) ((s.settleIfEmpty i).document i) := by
  have hr (h : (s.document i).outstandingSet = []) := s.releasable_setDocument i
    (s.deadlineFor s.tb.uptime (s.document i).retentionClass) { s.document i with
      state := .done, settleTime := some s.tb.uptime
      retentionDeadline := some (s.deadlineFor s.tb.uptime (s.document i).retentionClass) } rfl rfl h
  refine ⟨fun h => ?_, fun h hd => ?_, fun h hd => ⟨fun hk => ?_, fun hm hl ha => ?_⟩⟩
  · simp [State.settleIfEmpty, h]
  · simp [State.settleIfEmpty, State.settle, State.sendUnrouted, hq, h, hd, (State.upTo_send _ _ _ _).document]
  · have hf := hr h
    have : (decide (s.deadlineFor s.tb.uptime (s.document i).retentionClass ≤ s.tb.uptime)
        && !(s.document i).legalHold && decide (s.activeJobs i = 0)) = false := by
      rcases hk with hk | hk | hk
      · have : ¬ s.deadlineFor s.tb.uptime (s.document i).retentionClass ≤ s.tb.uptime := by
          unfold State.deadlineFor
          omega
        simp [this]
      · simp [hk]
      · simp [Nat.ne_of_gt hk]
    rw [this] at hf
    simp only [State.settleIfEmpty, hq, h, and_self, if_true, State.settle, hd, if_false, State.releaseTest, hf,
      Bool.false_eq_true, State.document_setDocument]
    rfl
  · have hf := hr h
    have : (decide (s.deadlineFor s.tb.uptime (s.document i).retentionClass ≤ s.tb.uptime)
        && !(s.document i).legalHold && decide (s.activeJobs i = 0)) = true := by
      simp [State.deadlineFor, hm, hl, ha]
    rw [this] at hf
    simp only [State.settleIfEmpty, hq, h, and_self, if_true, State.settle, hd, if_false, State.releaseTest, hf,
      State.document_freeDocument, State.document_setDocument]
    rfl

end Sys2Proof.Machine
end

