-- ==== Sys2Proof/Laws/Operands.lean ====
section
/-!
SUPPORT. Laws of the operand forms: bytes packed into words and taken out again (R21), settings clamped (00_scope.md,
"Settings"), and set words (R98).
-/

namespace Sys2Proof.Machine

/-- A setting clamped, as a maximum of a minimum. -/
theorem clamp_eq {lo hi : Nat} (h : lo ≤ hi) (v : Nat) : clamp lo hi v = max lo (min v hi) := by
  unfold clamp
  split <;> (try split) <;> omega

/-- A setting whose range begins at 0. -/
@[simp] theorem clamp_zero (hi v : Nat) : clamp 0 hi v = min v hi := by
  unfold clamp
  split <;> (try split) <;> omega

/-- The bytes of a word made of four bytes are those bytes. -/
@[simp] theorem wordBytes_bytesWord (a b c d : Byte) : wordBytes (bytesWord a b c d) = [a, b, c, d] := by
  simp only [wordBytes, bytesWord, List.cons.injEq, and_true]
  refine ⟨?_, ?_, ?_, ?_⟩ <;> apply BitVec.eq_of_getLsbD_eq <;> intro i hi <;>
    rw [BitVec.getLsbD_extractLsb'] <;> simp only [BitVec.getLsbD_append, hi, decide_true, Bool.true_and, Nat.zero_add] <;>
    repeat (first | rw [if_pos (by omega)] | rw [if_neg (by omega)] )
  all_goals (congr 1; try omega)

/-- Packed bytes come out as they went in (R21). -/
theorem bytesOf_packBytes : ∀ cs : List Byte, (bytesOf (packBytes cs)).take cs.length = cs
  | [] => rfl
  | [_] => by simp [packBytes, bytesOf]
  | [_, _] => by simp [packBytes, bytesOf]
  | [_, _, _] => by simp [packBytes, bytesOf]
  | a :: b :: c :: d :: rest => by
    have ih := bytesOf_packBytes rest
    simp only [packBytes, bytesOf, List.flatMap_cons, wordBytes_bytesWord, List.length_cons] at ih ⊢
    simp [ih]

/-- n characters fill (n + 3) / 4 words (R21). -/
@[simp] theorem packBytes_length : ∀ cs : List Byte, (packBytes cs).length = (cs.length + 3) / 4
  | [] => rfl
  | [_] => by simp [packBytes]
  | [_, _] => by simp [packBytes]
  | [_, _, _] => by simp [packBytes]
  | a :: b :: c :: d :: rest => by
    have ih := packBytes_length rest
    simp only [packBytes, List.length_cons, ih]
    omega

/-- A counted string in a request is taken whole, and the words behind it are left (R21). -/
theorem takeString_countedString (cs : List Byte) (rest : List Word) (h : cs.length < 4294967296) :
    takeString (countedString cs ++ rest) = some (cs, rest) := by
  have hn : (word cs.length).toNat = cs.length := by simp [word, Nat.mod_eq_of_lt h]
  have hl := packBytes_length cs
  simp only [countedString, List.cons_append, takeString, hn, ← hl]
  rw [if_neg (by simp)]
  simp [bytesOf_packBytes]

/-- The same, for a counted string that ends its record. -/
theorem takeString_countedString_end (cs : List Byte) (h : cs.length < 4294967296) :
    takeString (countedString cs) = some (cs, []) := by
  simpa using takeString_countedString cs [] h

/-- A destination is a member of a set word built by a test exactly where it passes the test. -/
@[simp] theorem member_setWord (p : Nat → Bool) {d : Nat} (h : d < 32) : member (setWord p) d = p d := by
  simp [member, setWord, h]

/-- The members of a set word. -/
theorem mem_members (w : Word) (d : Nat) : d ∈ members w ↔ d < 32 ∧ member w d = true := by
  simp [members, member, Config.destinations]

end Sys2Proof.Machine
end

