-- ==== Sys2Proof/Laws/Queues.lean ====
section
/-!
SUPPORT. What the invariant of the queues says of one checkout list, for statements and proofs that need no more of it.
-/

namespace Sys2Proof.Machine

/-- A checkout of destination `d`: its generation, and the entry it names. -/
theorem State.QueuesSound.checkout {s : State} (h : s.QueuesSound) {d : Nat} {x : Checkout} (hx : x ∈ (s.destination d).checkouts) :
    x.handle.generation = (s.document x.handle.index).generation
      ∧ ∃ e, (s.document x.handle.index).entry x.position = some e ∧ e.destination = d ∧ e.state = .checkedOut :=
  let ⟨hg, e, he, hd, hs, _⟩ := (h.checkouts d x.handle.index x.handle.generation x.position x.ticket).1 ⟨x.takingSlot, hx⟩
  ⟨hg, e, he, hd, hs⟩

/-- Sound queues have sound checkout lists. -/
theorem State.QueuesSound.checkoutsSound {s : State} (h : s.QueuesSound) : s.CheckoutsSound := by
  refine ⟨fun n _ c hc => (h.receptions n c (Option.mem_toList.1 hc)).1, fun d _ => ⟨?_, fun x hx => ?_⟩⟩
  · refine List.pairwise_map.2 ((List.pairwise_map.1 (h.checkedOutOnce d)).imp_of_mem fun {a b} ha hb hab hi => hab ?_)
    obtain ⟨ga, e, he, hd, -⟩ := h.checkout ha
    obtain ⟨gb, f, hf, hd', -⟩ := h.checkout hb
    rw [← hi] at gb hf
    obtain ⟨⟨i, g⟩, p, n, k⟩ := a
    obtain ⟨⟨i', g'⟩, p', n', k'⟩ := b
    obtain rfl : i = i' := hi
    obtain rfl : p = p' := h.distinct i p p' e f he hf (hd.trans hd'.symm)
    obtain rfl : g = g' := ga.trans gb.symm
    rfl
  · obtain ⟨hg, e, he, hd, hs⟩ := h.checkout hx
    obtain ⟨h1, h8, ha⟩ := h.entries _ _ _ he
    rw [hs] at ha
    refine ⟨hg, ?_, h1, h8, by simp [he, hd, hs]⟩
    cases hst : (s.document x.handle.index).state <;> simp [hst, EntryState.allowedIn] at ha ⊢

end Sys2Proof.Machine
end

