-- ==== Sys2Proof/Laws/Steady.lean ====
section
/-!
SUPPORT. What the traffic of the part leaves alone: every shared operation below the commands keeps the configuration
(settings and clocks, slots, destinations) and the canonical form of every table. One lemma per operation.
-/

namespace Sys2Proof.Machine

/-- From `s` to `t` the configuration is the same, and the tables stay canonical. -/
structure State.Steady (s t : State) : Prop where
  config : SameConfig s t
  canonical : s.Canonical → t.Canonical

namespace State.Steady

theorem refl (s : State) : s.Steady s := ⟨⟨rfl, fun _ => rfl, fun _ => rfl⟩, id⟩

theorem trans {s t u : State} (h : s.Steady t) (k : t.Steady u) : s.Steady u :=
  ⟨⟨k.config.settings.trans h.config.settings, fun n => (k.config.station n).trans (h.config.station n),
    fun n => (k.config.destination n).trans (h.config.destination n)⟩, fun c => k.canonical (h.canonical c)⟩

theorem before {s t u : State} (k : t.Steady u) (h : s.Steady t) : s.Steady u := h.trans k

/-- A fold of steady steps is steady. -/
theorem foldl {α : Type} (f : State → α → State) (h : ∀ (s : State) a, s.Steady (f s a)) (l : List α) (s : State) :
    s.Steady (l.foldl f s) := by
  induction l generalizing s with
  | nil => exact refl s
  | cons a l ih => exact (h s a).trans (ih (f s a))

theorem ite {s t u : State} (p : Prop) [Decidable p] (ht : s.Steady t) (hu : s.Steady u) : s.Steady (if p then t else u) := by
  split
  · exact ht
  · exact hu

end State.Steady

variable (s : State)

/-! ## The writes -/

theorem State.steady_setStation (n : Nat) (x : Station) (h : x.config = (s.station n).config) : s.Steady (s.setStation n x) := by
  refine ⟨⟨rfl, fun m => ?_, fun _ => rfl⟩, fun c => ⟨Table.write_wf _ _ _ _ c.1, c.2⟩⟩
  rw [State.station_setStation]
  split
  · rename_i e
    rw [e, h]
  · rfl

theorem State.steady_setContext (n : Nat) (x : Option Context) : s.Steady (s.setContext n x) :=
  ⟨⟨rfl, fun _ => rfl, fun _ => rfl⟩, fun ⟨a, b, c, d, e⟩ => ⟨a, b, c, Table.write_wf _ _ _ _ d, e⟩⟩

theorem State.steady_setDocument (n : Nat) (x : Document) : s.Steady (s.setDocument n x) :=
  ⟨⟨rfl, fun _ => rfl, fun _ => rfl⟩, fun ⟨a, b, c, d, e, f⟩ => ⟨a, b, c, d, Table.write_wf _ _ _ _ e, f⟩⟩

theorem State.steady_setPage (n : Nat) (x : Option PageRecord) : s.Steady (s.setPage n x) :=
  ⟨⟨rfl, fun _ => rfl, fun _ => rfl⟩, fun ⟨a, b, c, d, e, f, g⟩ => ⟨a, b, c, d, e, Table.write_wf _ _ _ _ f, g⟩⟩

theorem State.steady_setDestination (n : Nat) (x : Destination) (h : x.settings = (s.destination n).settings) :
    s.Steady (s.setDestination n x) := by
  refine ⟨⟨rfl, fun _ => rfl, fun m => ?_⟩,
    fun ⟨a, b, c, d, e, f, g, i, j, k⟩ => ⟨a, b, c, d, e, f, g, i, j, Table.write_wf _ _ _ _ k⟩⟩
  rw [State.destination_setDestination]
  split
  · rename_i e
    rw [e, h]
  · rfl

/-- The marks and the ADMIN cause of the block store. -/
def Bsm.marks (b : Bsm) : Nat × Nat × Nat × Nat × Bool := (b.lowMark, b.releaseMark, b.floor, b.intakeReserve, b.adminHold)

/-- The block store changes, and neither its marks nor its ADMIN cause, and its tables stay canonical. -/
structure Bsm.Steady (b c : Bsm) : Prop where
  marks : c.marks = b.marks
  links : b.links.WF none → c.links.WF none
  store : b.store.WF 0 → c.store.WF 0

theorem Bsm.Steady.refl (b : Bsm) : b.Steady b := ⟨rfl, id, id⟩

theorem Bsm.Steady.trans {b c d : Bsm} (h : b.Steady c) (k : c.Steady d) : b.Steady d :=
  ⟨k.marks.trans h.marks, fun x => k.links (h.links x), fun x => k.store (h.store x)⟩

theorem State.steady_bsm (b : Bsm) (h : s.bsm.Steady b) : s.Steady { s with bsm := b } := by
  obtain ⟨hm, hl, hs⟩ := h
  simp only [Bsm.marks, Prod.mk.injEq] at hm
  obtain ⟨h1, h2, h3, h4, h5⟩ := hm
  exact ⟨⟨by simp [State.settings, h1, h2, h3, h4, h5], fun _ => rfl, fun _ => rfl⟩,
    fun ⟨a, b, c, d⟩ => ⟨a, hl b, hs c, d⟩⟩

theorem State.steady_te (x : Te) (hl : x.level = s.te.level) (hm : x.mode = s.te.mode) : s.Steady { s with te := x } :=
  ⟨⟨by simp [State.settings, hl, hm], fun _ => rfl, fun _ => rfl⟩, id⟩

theorem State.steady_spu (x : Spu) (h : x.stations = s.spu.stations) : s.Steady { s with spu := x } :=
  ⟨⟨rfl, fun n => by simp [State.station, h], fun _ => rfl⟩, fun ⟨a, b⟩ => ⟨by simpa [h] using a, b⟩⟩

theorem State.steady_choice (k : Nat) : s.Steady { s with choice := k } := ⟨⟨rfl, fun _ => rfl, fun _ => rfl⟩, id⟩

/-! ## Operations of one block -/

theorem Bsm.steady_push (b : Bsm) (n : Block) : b.Steady (b.push n) := by
  unfold Bsm.push
  split <;> exact ⟨rfl, id, id⟩

theorem Bsm.steady_pushAll (b : Bsm) (ns : List Block) : b.Steady (b.pushAll ns) := by
  unfold Bsm.pushAll
  induction ns generalizing b with
  | nil => exact Bsm.Steady.refl b
  | cons n ns ih => exact (b.steady_push n).trans (ih _)

theorem Bsm.steady_pop (b : Bsm) {n : Block} {c : Bsm} (h : b.pop = some (n, c)) : b.Steady c := by
  unfold Bsm.pop at h
  split at h
  · cases h
    exact ⟨rfl, id, id⟩
  · split at h
    · cases h
      exact ⟨rfl, id, id⟩
    · cases h

theorem Bsm.steady_setLink (b : Bsm) (n : Block) (next : Option Block) : b.Steady (b.setLink n next) :=
  ⟨rfl, fun h => Table.write_wf _ _ _ _ h, id⟩

theorem Bsm.steady_rebuild (b : Bsm) (inUse : List Block) : b.Steady (b.rebuild inUse) := ⟨rfl, id, id⟩

theorem Bsm.steady_writeByte (b : Bsm) (a : Nat) (v : Byte) : b.Steady (b.writeByte a v) :=
  ⟨rfl, id, fun h => Table.write_wf _ _ _ _ h⟩

theorem Bsm.steady_writeChain (chain : List Block) (b : Bsm) (off : Nat) (vs : List Byte) :
    b.Steady (Bsm.writeChain chain b off vs) := by
  induction vs generalizing b off with
  | nil => exact Bsm.Steady.refl b
  | cons v vs ih =>
    unfold Bsm.writeChain
    cases chainAddress chain off with
    | none => exact ih b (off + 1)
    | some a => exact (b.steady_writeByte a v).trans (ih _ (off + 1))

theorem Bsm.steady_allocate (b : Bsm) {remaining : Nat} {last : Option Block} {n : Block} {m : Nat} {c : Bsm}
    (h : b.allocate remaining last = some (n, m, c)) : b.Steady c := by
  unfold Bsm.allocate at h
  split at h
  · split at h
    · cases h
    · rename_i n' b' hp
      have h1 : b.Steady (b'.setLink n' none) := (b.steady_pop hp).trans (b'.steady_setLink n' none)
      have h2 : b.Steady (last.elim (b'.setLink n' none) (fun m => (b'.setLink n' none).setLink m (some n'))) := by
        cases last with
        | none => exact h1
        | some m => exact h1.trans (Bsm.steady_setLink _ _ _)
      dsimp only at h
      split at h
      · cases h
        exact ⟨h2.marks, h2.links, h2.store⟩
      · cases h
        exact h2
  · cases h

theorem State.steady_freePages (ps : List Nat) : s.Steady (s.freePages ps) :=
  State.Steady.foldl _ (fun s p => s.steady_setPage p none) ps s

theorem State.steady_setEntry (i p : Nat) (e : Entry) : s.Steady (s.setEntry i p e) := s.steady_setDocument _ _

theorem State.steady_replaceJob (j k : Job) : s.Steady (s.replaceJob j k) := s.steady_te _ rfl rfl

theorem State.steady_appendReply (n : Nat) (r : Reply) : s.Steady (s.appendReply n r) := s.steady_setStation _ _ rfl

theorem State.steady_reserveReply (n : Nat) : s.Steady (s.reserveReply n) := s.steady_setStation _ _ rfl

theorem State.steady_fillReservation (n : Nat) (r : Reply) : s.Steady (s.fillReservation n r) := s.steady_setStation _ _ rfl

theorem State.steady_setWork (n : Nat) : s.Steady (s.setWork n) := s.steady_setStation _ _ rfl

theorem State.steady_setNoticeLost (n : Nat) : s.Steady (s.setNoticeLost n) := s.steady_setStation _ _ rfl

/-! ## Notices and the intake hold -/

theorem State.steady_postCopy (n : Nat) (r : Reply) : s.Steady (s.postCopy n r) := by
  unfold State.postCopy
  cases s.postingOf n
  · exact s.steady_appendReply n r
  · exact .refl s
  · exact .refl s

theorem State.steady_postCopies (r : Reply) (ns : List Nat) : s.Steady (s.postCopies r ns) := by
  induction ns generalizing s with
  | nil => exact .refl s
  | cons n ns ih => exact (s.steady_postCopy n r).trans (ih _)

theorem State.steady_overrun (kind : Status) (n : Nat) : s.Steady (s.overrun kind n) :=
  (s.steady_setNoticeLost n).trans (State.steady_postCopies _ _ _)

theorem State.steady_sendUnderFault (kind : Status) (ws : List Word) (ns : List Nat) :
    s.Steady (s.sendUnderFault kind ws ns) :=
  (s.steady_postCopies _ _).trans (State.Steady.foldl _ (fun s n => s.steady_overrun kind n) _ _)

theorem State.steady_setFault : s.Steady s.setFault := by
  have h : s.Steady { s with spu := { s.spu with fault := true } } := s.steady_spu _ rfl
  unfold State.setFault
  split
  · exact .refl s
  · dsimp only
    split
    · exact h
    · exact h.trans (State.steady_sendUnderFault _ _ _ _)

theorem State.steady_escalate (kind : Status) (n : Nat) : s.Steady (s.escalate kind n) := by
  unfold State.escalate
  split
  · exact (s.steady_overrun kind n).trans (State.steady_setFault _)
  · exact s.steady_overrun kind n

/-- Sending a notice is steady. -/
theorem State.steady_send (kind : Status) (ws : List Word) (ns : List Nat) : s.Steady (s.send kind ws ns) :=
  (s.steady_postCopies _ _).trans (State.Steady.foldl _ (fun s n => s.steady_escalate kind n) _ _)

theorem State.steady_announceHeld (was : Bool) : s.Steady (s.announceHeld was) := by
  unfold State.announceHeld
  split
  · exact .refl s
  · exact s.steady_send _ _ _

theorem State.steady_holdTest : s.Steady s.holdTest := by
  unfold State.holdTest
  split
  · exact (State.steady_announceHeld _ _).before (s.steady_bsm _ ⟨rfl, id, id⟩)
  · exact .refl s
  · exact .refl s

theorem State.steady_releaseBlocks (ns : List Block) : s.Steady (s.releaseBlocks ns) :=
  (s.steady_bsm _ (s.bsm.steady_pushAll ns)).trans (State.steady_holdTest _)

theorem State.steady_reserveBlocks (k : Nat) : s.Steady (s.reserveBlocks k) :=
  (State.steady_holdTest _).before (s.steady_bsm _ ⟨rfl, id, id⟩)

theorem State.steady_releaseReservation (k : Nat) : s.Steady (s.releaseReservation k) :=
  (State.steady_holdTest _).before (s.steady_bsm _ ⟨rfl, id, id⟩)

/-! ## Documents -/

theorem State.steady_freeDocument (i : Nat) : s.Steady (s.freeDocument i) :=
  ((s.steady_releaseBlocks _).trans (State.steady_freePages _ _)).trans (State.steady_setDocument _ _ _)

theorem State.steady_releaseTest (i : Nat) : s.Steady (s.releaseTest i) := .ite _ (s.steady_freeDocument i) (.refl s)

theorem State.steady_sendUnrouted (i cause : Nat) : s.Steady (s.sendUnrouted i cause) := s.steady_send _ _ _

theorem State.steady_settle (i : Nat) : s.Steady (s.settle i) :=
  .ite _ ((s.steady_setDocument _ _).trans (State.steady_sendUnrouted _ _ _))
    ((s.steady_setDocument _ _).trans (State.steady_releaseTest _ _))

theorem State.steady_settleIfEmpty (i : Nat) : s.Steady (s.settleIfEmpty i) := .ite _ (s.steady_settle i) (.refl s)

/-! ## Queues and destinations -/

theorem State.steady_signalWork (dest : Nat) : s.Steady (s.signalWork dest) := by
  unfold State.signalWork
  dsimp only
  split
  · exact .refl s
  · exact .ite _ (s.steady_setWork _) (.refl s)

theorem State.steady_joined (dest : Nat) (d : Destination) (h : d.settings = (s.destination dest).settings) :
    s.Steady (s.joined dest d) :=
  .ite _ ((s.steady_setDestination dest d h).trans (State.steady_signalWork _ _)) (s.steady_setDestination dest d h)

theorem Destination.joinTail_settings (d : Destination) (p : Priority) (x : QueueItem) :
    (d.joinTail p x).settings = d.settings := by cases p <;> rfl

theorem Destination.joinHead_settings (d : Destination) (p : Priority) (x : QueueItem) :
    (d.joinHead p x).settings = d.settings := by cases p <;> rfl

theorem State.steady_joinTail (dest i p : Nat) : s.Steady (s.joinTail dest i p) :=
  s.steady_joined _ _ (Destination.joinTail_settings _ _ _)

theorem State.steady_joinHead (dest i p : Nat) : s.Steady (s.joinHead dest i p) :=
  s.steady_joined _ _ (Destination.joinHead_settings _ _ _)

theorem State.steady_leaveQueue (dest i p : Nat) : s.Steady (s.leaveQueue dest i p) := s.steady_setDestination _ _ rfl

theorem State.steady_leaveCheckouts (dest i p : Nat) : s.Steady (s.leaveCheckouts dest i p) := s.steady_setDestination _ _ rfl

theorem State.steady_changeDest (dest : Nat) (st : DestState) : s.Steady (s.changeDest dest st) := by
  unfold State.changeDest
  dsimp only
  split
  · exact s.steady_setDestination _ _ rfl
  · exact (State.steady_send _ _ _ _).before (s.steady_setDestination _ _ rfl)

theorem State.steady_closeIfDrained (dest : Nat) : s.Steady (s.closeIfDrained dest) :=
  .ite _ (s.steady_changeDest _ _) (.refl s)

theorem State.steady_settleEntry (i p : Nat) (e : Entry) (st : EntryState) : s.Steady (s.settleEntry i p e st) :=
  s.steady_setEntry _ _ _

theorem State.steady_moveEntry (i p : Nat) (e : Entry) : s.Steady (s.moveEntry i p e) := by
  unfold State.moveEntry
  split
  · exact (s.steady_setEntry _ _ _).trans (State.steady_joinTail _ _ _ _)
  · exact s.steady_settleEntry _ _ _ _

theorem State.steady_makeUndeliverable (i p : Nat) (e : Entry) (reason : Nat) :
    s.Steady (s.makeUndeliverable i p e reason) :=
  (s.steady_settleEntry _ _ _ _).trans (State.steady_send _ _ _ _)

theorem State.steady_comeBack (i p : Nat) (e : Entry) (reason : Nat) : s.Steady (s.comeBack i p e reason) := by
  unfold State.comeBack
  refine State.Steady.trans ?_ (State.steady_closeIfDrained _ _)
  refine State.Steady.trans ?_ (State.steady_settleIfEmpty _ _)
  refine (s.steady_leaveCheckouts e.destination i p).trans ?_
  split
  · exact State.steady_makeUndeliverable _ _ _ _ _
  · exact (State.steady_setEntry _ _ _ _).trans (State.steady_joinTail _ _ _ _)
  · exact State.steady_moveEntry _ _ _ _

theorem State.steady_resetReturn (i p : Nat) (e : Entry) : s.Steady (s.resetReturn i p e) := by
  unfold State.resetReturn
  refine State.Steady.trans ?_ (State.steady_closeIfDrained _ _)
  refine State.Steady.trans ?_ (State.steady_settleIfEmpty _ _)
  refine (s.steady_leaveCheckouts e.destination i p).trans ?_
  exact .ite _ ((State.steady_setEntry _ _ _ _).trans (State.steady_joinHead _ _ _ _)) (State.steady_moveEntry _ _ _ _)

theorem State.steady_returnCheckoutItem (x : Checkout) : s.Steady (s.returnCheckoutItem x) := by
  unfold State.returnCheckoutItem
  split
  · exact .refl s
  · exact s.steady_resetReturn _ _ _

theorem State.steady_returnCheckouts (who : Nat → Bool) : s.Steady (s.returnCheckouts who) :=
  State.Steady.foldl _ (fun s _ => State.Steady.foldl _ (fun s x => s.steady_returnCheckoutItem x) _ s) _ s

/-! ## The parser -/

theorem State.steady_storeRecord (n : Nat) (c : Context) (p : OpenPage) (ws : List Word) :
    s.Steady (s.storeRecord n c p ws).1 := by
  unfold State.storeRecord
  split
  · exact s.steady_setContext _ _
  split
  · exact (s.steady_bsm _ (Bsm.steady_writeChain _ _ _ _)).trans (State.steady_setContext _ _ _)
  split
  · exact s.steady_setContext _ _
  split
  · exact s.steady_setContext _ _
  · rename_i h
    exact ((s.steady_bsm _ ((s.bsm.steady_allocate h).trans (Bsm.steady_writeChain _ _ _ _))).trans
      (State.steady_setContext _ _ _)).trans (State.steady_holdTest _)

theorem State.steady_parseWord (n : Nat) (w : Word) : s.Steady (s.parseWord n w).1 := by
  unfold State.parseWord
  split
  · exact .refl s
  split
  · exact .refl s
  split
  · exact .refl s
  · split
    · exact s.steady_setContext _ _
    split
    · exact s.steady_storeRecord _ _ _ _
    · exact s.steady_setContext _ _
  · split
    · exact s.steady_storeRecord _ _ _ _
    · exact s.steady_setContext _ _

theorem State.steady_parseWords (n : Nat) (ws : List Word) : s.Steady (s.parseWords n ws).state := by
  induction ws generalizing s with
  | nil => exact .refl s
  | cons w ws ih =>
    have h := s.steady_parseWord n w
    unfold State.parseWords
    generalize s.parseWord n w = x at h ⊢
    obtain ⟨s', full⟩ := x
    cases full
    · exact h.trans (ih s')
    · exact h

/-! ## The engine -/

theorem State.steady_assignChannel (c : Nat) : s.Steady (s.assignChannel c) := by
  unfold State.assignChannel
  split
  · exact .refl s
  split
  · exact .refl s
  · exact s.steady_replaceJob _ _

theorem State.steady_assignChannels : s.Steady s.assignChannels :=
  State.Steady.foldl _ (fun s c => s.steady_assignChannel c) _ s

theorem State.steady_ownerEnd (j : Job) : s.Steady (s.ownerEnd j) := by
  unfold State.ownerEnd
  split
  · split
    · exact .refl s
    split
    · exact .refl s
    · exact s.steady_setContext _ _
  · split
    · exact .refl s
    · exact .ite _ (s.steady_setEntry _ _ _) (.refl s)

theorem State.steady_documentEnd (j : Job) : s.Steady (s.documentEnd j) := by
  unfold State.documentEnd
  split
  · exact .refl s
  · split
    · split
      · exact s.steady_freeDocument _
      · exact s.steady_releaseTest _
      all_goals exact .refl s
    · exact .refl s

theorem State.steady_endJob (j : Job) (outcome : Status) : s.Steady (s.endJob j outcome) := by
  unfold State.endJob
  refine State.Steady.trans ?_ (State.steady_documentEnd _ _)
  have h : s.Steady ((({ s with te := { s.te with jobs := s.te.jobs.erase j } } : State).assignChannels).ownerEnd j) :=
    ((State.steady_ownerEnd _ _).before (State.steady_assignChannels _)).before (s.steady_te _ rfl rfl)
  exact .ite _ h (h.trans (State.steady_fillReservation _ _ _))

theorem State.steady_beginWalks (fuel : Nat) : s.Steady (State.beginWalks fuel s) := by
  induction fuel generalizing s with
  | zero => exact .refl s
  | succ fuel ih =>
    unfold State.beginWalks
    split
    · exact .refl s
    split
    · exact (s.steady_replaceJob _ _).trans (ih _)
    · exact (s.steady_endJob _ _).trans (ih _)

theorem State.steady_updateRequest : s.Steady s.updateRequest := by
  unfold State.updateRequest
  split
  · exact .refl s
  split
  · exact s.steady_te _ rfl rfl
  split
  · exact .refl s
  · exact s.steady_te _ rfl rfl

theorem State.steady_runEngine : s.Steady s.runEngine := (s.steady_beginWalks _).trans (State.steady_updateRequest _)

theorem State.steady_queueJob (j : Job) : s.Steady (s.queueJob j) :=
  ((State.steady_runEngine _).before (State.steady_assignChannels _)).before (s.steady_te _ rfl rfl)

theorem State.steady_cancelJobs (p : Job → Bool) (detach suppress : Bool) : s.Steady (s.cancelJobs p detach suppress) :=
  ((State.steady_runEngine _).before (State.Steady.foldl _ (fun s j => s.steady_endJob j .cancelled) _ _)).before
    (s.steady_te _ rfl rfl)

theorem State.steady_grantBurst (m : BusMode) : s.Steady (s.grantBurst m) := by
  unfold State.grantBurst
  split
  · exact s.steady_te _ rfl rfl
  split
  · exact s.steady_te _ rfl rfl
  · exact s.steady_te _ rfl rfl

theorem State.steady_afterBurst (m : BusMode) : s.Steady (s.afterBurst m) := by
  unfold State.afterBurst
  split
  · exact (State.steady_updateRequest _).before (s.steady_te _ rfl rfl)
  · exact (s.steady_grantBurst _).trans (State.steady_updateRequest _)

theorem State.steady_notifyRegion (j : Job) (c : Descriptor) (n : Nat) : s.Steady (s.notifyRegion j c n) :=
  .ite _ (s.steady_send _ _ _) (.refl s)

theorem State.steady_nextDescriptor (j : Job) (c : Descriptor) (x : Status) : s.Steady (s.nextDescriptor j c x) := by
  unfold State.nextDescriptor
  split
  · exact s.steady_endJob _ _
  split
  · exact s.steady_replaceJob _ _
  · exact s.steady_endJob _ _

theorem State.steady_fetchComplete (j : Job) (a : Word) (ws : List Word) : s.Steady (s.fetchComplete j a ws) := by
  unfold State.fetchComplete
  dsimp only
  split
  · exact (State.steady_endJob _ _ _).before (s.steady_replaceJob _ _)
  split
  · exact (State.steady_replaceJob _ _ _).before (s.steady_replaceJob _ _)
  · exact (State.steady_endJob _ _ _).before (s.steady_replaceJob _ _)

theorem State.steady_intakeComplete (j : Job) (c : Descriptor) (n : Nat) (b : Burst) (ws : List Word) :
    s.Steady (s.intakeComplete j c n b ws) := by
  unfold State.intakeComplete
  have h : s.Steady (if j.detached then (⟨s, 0, false⟩ : Parsed) else s.parseWords n (busWords ws (b.length / 4))).state := by
    split
    · exact .refl s
    · exact s.steady_parseWords _ _
  generalize (if j.detached then (⟨s, 0, false⟩ : Parsed) else s.parseWords n (busWords ws (b.length / 4))) = r at h
  dsimp only
  split
  · exact ((State.steady_endJob _ _ _).before (State.steady_replaceJob _ _ _)).before h
  split
  · exact ((State.steady_endJob _ _ _).before (State.steady_replaceJob _ _ _)).before h
  split
  · exact (((State.steady_nextDescriptor _ _ _ _).before (State.steady_notifyRegion _ _ _ _)).before
      (State.steady_replaceJob _ _ _)).before h
  · exact (State.steady_replaceJob _ _ _).before h

theorem State.steady_deliveryComplete (j : Job) (c : Descriptor) (d : Delivery) (b : Burst) :
    s.Steady (s.deliveryComplete j c d b) := by
  unfold State.deliveryComplete
  dsimp only
  have h : ∀ (p : Prop) [Decidable p] (k : Job) (c1 : Descriptor) (n : Nat),
      s.Steady (if p then (s.replaceJob j k).notifyRegion k c1 n else s.replaceJob j k) := fun _ _ _ _ _ =>
    .ite _ ((State.steady_notifyRegion _ _ _ _).before (s.steady_replaceJob _ _)) (s.steady_replaceJob _ _)
  refine .ite _ ?_ (.ite _ ?_ (.ite _ ?_ ?_))
  · exact (State.steady_endJob _ _ _).before (h _ _ _ _)
  · exact (State.steady_endJob _ _ _).before (h _ _ _ _)
  · exact (State.steady_nextDescriptor _ _ _ _).before (h _ _ _ _)
  · exact h _ _ _ _

theorem State.steady_burstDone (j : Job) (b : Burst) (ws : List Word) : s.Steady (s.burstDone j b ws) := by
  unfold State.burstDone
  split
  · exact s.steady_fetchComplete _ _ _
  split
  · exact .refl s
  split
  · exact s.steady_intakeComplete _ _ _ _ _
  · exact s.steady_deliveryComplete _ _ _ _

theorem State.steady_burstEnd (f : State → Job → Burst → State) (h : ∀ (s : State) j b, s.Steady (f s j b)) : s.Steady (s.burstEnd f) := by
  unfold State.burstEnd
  split
  · exact .refl s
  split
  · exact s.steady_afterBurst _
  · exact ((h s _ _).trans (State.steady_beginWalks _ _)).trans (State.steady_afterBurst _ _)

/-! ## Receptions -/

theorem State.steady_discardPage (p : OpenPage) : s.Steady (s.discardPage p) :=
  (s.steady_releaseBlocks _).trans (State.steady_setPage _ _ _)

theorem State.steady_discardOpenPage (c : Context) : s.Steady (s.discardOpenPage c) := by
  unfold State.discardOpenPage
  cases c.openPage with
  | none => exact .refl s
  | some p => exact s.steady_discardPage p

theorem State.steady_recheckEntry (i p : Nat) : s.Steady (s.recheckEntry i p) := by
  unfold State.recheckEntry
  split
  · exact .refl s
  split
  · exact .ite _ ((s.steady_setEntry _ _ _).trans (State.steady_joinTail _ _ _ _)) (s.steady_moveEntry _ _ _)
  · exact .refl s

theorem State.steady_recheck (i : Nat) : s.Steady (s.recheck i) := State.Steady.foldl _ (fun s p => s.steady_recheckEntry i p) _ s

theorem State.steady_completeDocument (i : Nat) (b : Bool) : s.Steady (s.completeDocument i b) := by
  unfold State.completeDocument
  dsimp only
  refine .ite _ ?_ ?_
  · exact (((State.steady_sendUnrouted _ _ _).before (State.steady_setDocument _ _ _)).before (State.steady_recheck _ i)).before
      (s.steady_setDocument i _)
  · exact ((State.steady_setDocument _ _ _).before (State.steady_recheck _ i)).before (s.steady_setDocument i _)

theorem State.steady_finishDocument (i : Nat) (b : Bool) : s.Steady (s.finishDocument i b) :=
  .ite _ (s.steady_freeDocument i) (s.steady_completeDocument i b)

theorem State.steady_endReception (n : Nat) (c : Context) (b : Bool) : s.Steady (s.endReception n c b) :=
  (((s.steady_discardOpenPage c).trans (State.steady_releaseReservation _ _)).trans (State.steady_setContext _ _ _)).trans
    (State.steady_finishDocument _ _ _)

theorem State.steady_abortReception (n : Nat) (c : Context) : s.Steady (s.abortReception n c) :=
  ((((s.steady_cancelJobs _ _ _).trans (State.steady_discardOpenPage _ _)).trans (State.steady_releaseReservation _ _)).trans
    (State.steady_setContext _ _ _)).trans (State.steady_freeDocument _ _)

theorem State.steady_choiceMade : s.Steady s.choiceMade := s.steady_choice _

theorem State.steady_interruptReception (n : Nat) : s.Steady (s.interruptReception n) := by
  unfold State.interruptReception
  split
  · exact .refl s
  · exact s.steady_endReception _ _ _

theorem State.steady_emptyPort (n : Nat) (keep : Bool) : s.Steady (s.emptyPort n keep) := s.steady_setStation _ _ rfl

theorem State.steady_restoreFlags (n : Nat) : s.Steady (s.restoreFlags n) := by
  have h : s.Steady (s.setStation n (s.station n).flagsCleared) := s.steady_setStation _ _ rfl
  exact .ite _ (h.trans (State.steady_setWork _ _)) h

theorem State.steady_markReset (ns : List Nat) : s.Steady (s.markReset ns) := s.steady_spu _ rfl

theorem State.steady_endReceptionsOf (n : Nat) : s.Steady (s.endReceptionsOf n) :=
  (State.Steady.foldl _ (fun s n => s.steady_interruptReception n) _ s).trans (State.steady_choiceMade _)

/-- A station reset is steady. -/
theorem State.steady_stationReset (n : Nat) (keep : Bool) : s.Steady (s.stationReset n keep) :=
  ((((((s.steady_markReset _).trans (State.steady_cancelJobs _ _ _ _)).trans (State.steady_emptyPort _ _ _)).trans
    (State.steady_endReceptionsOf _ _)).trans (State.steady_returnCheckouts _ _)).trans (State.steady_restoreFlags _ _)).trans
    (State.steady_markReset _ _)

/-! ## Taking and answering -/

theorem State.steady_taken (slot : Nat) : s.Steady (s.taken slot) :=
  (State.steady_reserveReply _ _).before (s.steady_setStation _ _ rfl)

/-- A command is steady where what it hands back is. -/
theorem State.steady_takeRecord (slot : Nat) (codes : Nat → Bool) (body : State → Record → Handled)
    (h : ∀ s r, match body s r with
      | .refused _ => True
      | .replied _ _ t => s.Steady t
      | .silent t => s.Steady t) : s.Steady (s.takeRecord slot codes body) := by
  unfold State.takeRecord
  split
  · exact .refl s
  · rename_i r _
    split
    · refine (s.steady_taken slot).trans ?_
      dsimp only
      split
      · exact State.steady_fillReservation _ _ _
      · have hb := h (s.taken slot) r
        generalize body (s.taken slot) r = x at hb
        cases x with
        | refused _ => exact State.steady_fillReservation _ _ _
        | replied _ _ t => exact State.Steady.trans hb (State.steady_fillReservation _ _ _)
        | silent t => exact hb
    · exact .refl s

theorem State.steady_command (slot code : Nat) (body : State → Record → Handled)
    (h : ∀ s r, match body s r with
      | .refused _ => True
      | .replied _ _ t => s.Steady t
      | .silent t => s.Steady t) : s.Steady (s.command slot code body) :=
  s.steady_takeRecord _ _ _ h

end Sys2Proof.Machine
end

