-- ==== Sys2Proof/Laws/Scan.lean ====
section
/-!
SUPPORT. What the recovery scan leaves alone, stage by stage and at the point at which a run is broken.
-/

namespace Sys2Proof.Machine

variable (s : State)

/-- Stage 1 is steady. -/
theorem State.steady_scanStations : s.Steady s.scanStations :=
  ((((s.steady_markReset _).trans (State.Steady.foldl _ (fun s n => s.steady_emptyPort n false) _ _)).trans
    (State.steady_returnCheckouts _ _)).trans (State.Steady.foldl _ State.steady_restoreFlags _ _)).trans
    (State.steady_markReset _ _)

/-- Stage 2 is steady. -/
theorem State.steady_scanEngine : s.Steady s.scanEngine := s.steady_te _ rfl rfl

theorem State.steady_scanContext (n : Nat) : s.Steady (s.scanContext n) := by
  unfold State.scanContext
  split
  · exact .refl s
  · rename_i c _
    have h : s.Steady (c.openPage.elim s (fun p => s.setPage p.record none)) := by
      cases c.openPage with
      | none => exact .refl s
      | some p => exact s.steady_setPage _ _
    exact (h.trans (State.steady_setContext _ _ _)).trans (State.steady_finishDocument _ _ _)

theorem State.steady_scanFirstContexts (k : Nat) : s.Steady (s.scanFirstContexts k) :=
  State.Steady.foldl _ (fun s n => s.steady_scanContext n) _ s

theorem State.steady_scanPages : s.Steady s.scanPages :=
  ⟨⟨rfl, fun _ => rfl, fun _ => rfl⟩, fun ⟨a, b, c, d, e, f, g⟩ => ⟨a, b, c, d, e, Table.filter_wf _ _ _ f, g⟩⟩

/-- Stage 3 is steady. -/
theorem State.steady_scanContexts : s.Steady s.scanContexts :=
  ((s.steady_scanFirstContexts _).trans (State.steady_choiceMade _)).trans (State.steady_scanPages _)

/-- Stage 4 is steady. -/
theorem State.steady_scanReservation : s.Steady s.scanReservation := s.steady_bsm _ ⟨rfl, id, id⟩

/-- Stages 4 and 5 are steady. -/
theorem State.steady_scanStack : s.Steady s.scanStack :=
  s.steady_scanReservation.trans (State.steady_bsm _ _ (Bsm.steady_rebuild _ _))

/-- Stage 6 is steady. -/
theorem State.steady_scanHold : s.Steady s.scanHold :=
  (s.steady_bsm { s.bsm with storeHold := s.bsm.storeTest } ⟨rfl, id, id⟩).trans (State.steady_announceHeld _ _)

theorem State.steady_scanFirstPurges (k : Nat) : ({ s with part := .ready } : State).Steady (s.scanFirstPurges k) :=
  State.Steady.foldl _ (fun s n => s.steady_freeDocument n) _ _

theorem State.steady_scanFirstReleases (k : Nat) : s.Steady (s.scanFirstReleases k) :=
  State.Steady.foldl _ (fun s n => s.steady_releaseTest n) _ s

/-- What is steady but for the part state is steady where the part state is put back. -/
theorem State.Steady.backTo {s t : State} {q : PartState} (h : ({ s with part := q } : State).Steady t) :
    s.Steady { t with part := s.part } :=
  ⟨⟨congrArg (fun x => { x with part := s.part }) h.config.settings, h.config.station, h.config.destination⟩, h.canonical⟩

/-- At every point of the scan the configuration is as it was, the part state aside, and every table is canonical. -/
theorem State.steady_scanUpTo (p : Config.ScanPoint) : s.Steady { s.scanUpTo p with part := s.part } := by
  have h3 : s.Steady s.scanStations.scanEngine.scanContexts :=
    (s.steady_scanStations.trans (State.steady_scanEngine _)).trans (State.steady_scanContexts _)
  have h6 : s.Steady s.scanStations.scanEngine.scanContexts.scanStack.scanHold :=
    (h3.trans (State.steady_scanStack _)).trans (State.steady_scanHold _)
  have back {t : State} (h : s.Steady t) : s.Steady { t with part := s.part } :=
    State.Steady.backTo (q := s.part) h
  have part {t : State} (h : s.Steady t) : ({ s with part := .ready } : State).Steady { t with part := .ready } :=
    ⟨⟨congrArg (fun x => { x with part := PartState.ready }) h.config.settings, h.config.station, h.config.destination⟩,
      h.canonical⟩
  cases p with
  | notBegun => exact .refl s
  | stations => exact back s.steady_scanStations
  | engine => exact back (s.steady_scanStations.trans (State.steady_scanEngine _))
  | contexts k =>
    exact back ((s.steady_scanStations.trans (State.steady_scanEngine _)).trans (State.steady_scanFirstContexts _ _))
  | pages => exact back h3
  | reservation => exact back (h3.trans (State.steady_scanReservation _))
  | stack => exact back (h3.trans (State.steady_scanStack _))
  | hold => exact back h6
  | purges k => exact ((part h6).trans (State.steady_scanFirstPurges _ _)).backTo
  | releases k =>
    exact (((part h6).trans (State.steady_scanFirstPurges _ _)).trans (State.steady_scanFirstReleases _ _)).backTo

/-- A broken scan leaves the configuration as it was. -/
theorem State.steady_scanBroken (h : s.part = .recovering) : s.Steady s.scanBroken := by
  have k := s.steady_scanUpTo (Config.scanReached s.choice)
  rw [h] at k
  exact (k.trans (State.steady_choice _ _)).trans (State.steady_te _ _ rfl rfl)

/-- Stage 2 leaves no job; nothing after it makes one. -/
@[simp] theorem State.te_jobs_scanEngine : s.scanEngine.te.jobs = [] := rfl

/-- Stage 4 sets S to 0; the rebuilding of the stack keeps it. -/
@[simp] theorem State.reserved_scanStack : s.scanStack.bsm.reserved = 0 := rfl

end Sys2Proof.Machine
end

