-- ==== Sys2Proof/Laws/Taken.lean ====
section
/-!
SUPPORT. A record taken (R170) changes nothing but its slot's request queue and reservations: what every accessor reads after
it; and a record answered after an effect that left the station slots alone.
-/

namespace Sys2Proof.Machine

variable (s : State) (slot : Nat)

@[simp] theorem State.taken_part : (s.taken slot).part = s.part := rfl
@[simp] theorem State.taken_bsm : (s.taken slot).bsm = s.bsm := rfl
@[simp] theorem State.taken_iu : (s.taken slot).iu = s.iu := rfl
@[simp] theorem State.taken_dt : (s.taken slot).dt = s.dt := rfl
@[simp] theorem State.taken_rtu : (s.taken slot).rtu = s.rtu := rfl
@[simp] theorem State.taken_dqu : (s.taken slot).dqu = s.dqu := rfl
@[simp] theorem State.taken_te : (s.taken slot).te = s.te := rfl
@[simp] theorem State.taken_tb : (s.taken slot).tb = s.tb := rfl
@[simp] theorem State.taken_heldAtLeave : (s.taken slot).heldAtLeave = s.heldAtLeave := rfl
@[simp] theorem State.taken_answer : (s.taken slot).answer = s.answer := rfl
@[simp] theorem State.taken_choice : (s.taken slot).choice = s.choice := rfl
@[simp] theorem State.taken_pending : (s.taken slot).pending = s.pending := rfl
@[simp] theorem State.taken_fault : (s.taken slot).spu.fault = s.spu.fault := rfl
@[simp] theorem State.taken_underReset : (s.taken slot).spu.underReset = s.spu.underReset := rfl

@[simp] theorem State.context_taken (n : Nat) : (s.taken slot).context n = s.context n := rfl
@[simp] theorem State.document_taken (n : Nat) : (s.taken slot).document n = s.document n := rfl
@[simp] theorem State.page_taken (n : Nat) : (s.taken slot).page n = s.page n := rfl
@[simp] theorem State.routeEntry_taken (n : Nat) : (s.taken slot).routeEntry n = s.routeEntry n := rfl
@[simp] theorem State.profile_taken (n : Nat) : (s.taken slot).profile n = s.profile n := rfl
@[simp] theorem State.destination_taken (n : Nat) : (s.taken slot).destination n = s.destination n := rfl
@[simp] theorem State.retentionMinutes_taken (n : Nat) : (s.taken slot).retentionMinutes n = s.retentionMinutes n := rfl
@[simp] theorem State.held_taken : (s.taken slot).held = s.held := rfl
@[simp] theorem State.contextOf_taken (h : Handle) : (s.taken slot).contextOf h = s.contextOf h := rfl
@[simp] theorem State.stale_taken (h : Handle) : (s.taken slot).stale h = s.stale h := rfl
@[simp] theorem State.boundTo_taken (n d : Nat) : (s.taken slot).boundTo n d = s.boundTo n d := rfl
@[simp] theorem State.visible_taken (n i : Nat) : (s.taken slot).visible n i = s.visible n i := rfl
@[simp] theorem State.handleOf_taken (i : Nat) : (s.taken slot).handleOf i = s.handleOf i := rfl
@[simp] theorem State.jobCount_taken (n : Nat) : (s.taken slot).jobCount n = s.jobCount n := rfl
@[simp] theorem State.activeJobs_taken (i : Nat) : (s.taken slot).activeJobs i = s.activeJobs i := rfl
@[simp] theorem State.jobMark_taken (i p : Nat) : (s.taken slot).jobMark i p = s.jobMark i p := rfl
@[simp] theorem State.checkoutOf_taken (d i p : Nat) : (s.taken slot).checkoutOf d i p = s.checkoutOf d i p := rfl
@[simp] theorem State.resolve_taken (called : List Byte) : (s.taken slot).resolve called = s.resolve called := rfl
@[simp] theorem State.usableFallback_taken : (s.taken slot).usableFallback = s.usableFallback := rfl
@[simp] theorem State.replaceClosed_taken (w : Word) : (s.taken slot).replaceClosed w = s.replaceClosed w := rfl
@[simp] theorem State.moveCase_taken (i : Nat) : (s.taken slot).moveCase i = s.moveCase i := rfl
@[simp] theorem State.documentBlocks_taken (d : Document) : (s.taken slot).documentBlocks d = s.documentBlocks d := rfl
@[simp] theorem State.documentBytes_taken (d : Document) : (s.taken slot).documentBytes d = s.documentBytes d := rfl
@[simp] theorem State.deliveryPages_taken (d : Delivery) : (s.taken slot).deliveryPages d = s.deliveryPages d := rfl

/-- The slot whose record is taken. -/
@[simp] theorem State.station_taken_same : (s.taken slot).station slot = { s.station slot with
    requests := (s.station slot).requests.tail, reserved := (s.station slot).reserved + 1 } := by
  rw [State.taken_eq, State.station_setStation_same]

/-- Every other slot. -/
theorem State.station_taken_ne {m : Nat} (h : m ≠ slot) : (s.taken slot).station m = s.station m := by
  rw [State.taken_eq, State.station_setStation_ne _ h]

@[simp] theorem State.config_taken (m : Nat) : ((s.taken slot).station m).config = (s.station m).config := by
  by_cases h : m = slot
  · rw [h, State.station_taken_same]
    rfl
  · rw [State.station_taken_ne _ _ h]

@[simp] theorem State.rights_taken (m : Nat) : (s.taken slot).rights m = s.rights m := by
  have h := congrArg SlotConfig.rights (s.config_taken slot m)
  exact h

/-- The room for notices of another slot is as it was. -/
theorem State.replyRoom_taken_ne {m : Nat} (h : m ≠ slot) : (s.taken slot).replyRoom m = s.replyRoom m := by
  simp only [State.replyRoom, State.station_taken_ne _ _ h]

/-- A record answered after an effect that left the station slots as taking the record had made them. -/
theorem State.fill_of_spu (t : State) (x : Reply) (h : t.spu = (s.taken slot).spu) :
    t.fillReservation slot x = { t with spu := (s.replying slot x).spu } := by
  have hs : ∀ n, t.station n = (s.taken slot).station n := fun n => by simp only [State.station, h]
  have key : (t.fillReservation slot x).spu = ((s.taken slot).fillReservation slot x).spu := by
    simp only [State.fillReservation, State.setStation, hs, h]
  rw [State.taken_fill] at key
  rw [← key]
  rfl

/-- A record answered after an effect outside the station slots: what the effect makes of the state before the record. -/
theorem State.fill_eq_replying (t u : State) (x : Reply) (h : t.spu = (s.taken slot).spu) (hu : u.spu = s.spu)
    (ht : t = { u with spu := t.spu }) : t.fillReservation slot x = u.replying slot x := by
  rw [State.fill_of_spu s slot t x h]
  have hs : ∀ n, u.station n = s.station n := fun n => by simp only [State.station, hu]
  have key : (u.replying slot x).spu = (s.replying slot x).spu := by
    simp only [State.replying, State.setStation, hs, hu]
  rw [← key, ht]
  rfl

/-- The reply of a record stands last in its slot's queue. -/
@[simp] theorem State.getLast_fill (t : State) (x : Reply) : ((t.fillReservation slot x).station slot).replies.getLast? = some x := by
  simp [State.fillReservation]

/-- A command whose head record has a length out of range, or whose body refuses its length, is refused BAD_LENGTH (R171). -/
theorem State.command_badLength {slot code : Nat} {r : Record} (h : s.HasHead slot r) (hc : r.header.code = code)
    (body : State → Record → Handled) (hb : r.header.badLength = true ∨ body (s.taken slot) r = .refused .badLength) :
    s.command slot code body = s.replying slot (r.reply .badLength []) := by
  simp only [State.command, State.takeRecord, s.takeable_of_head h, hc, decide_true, if_true]
  rcases hb with hb | hb <;> simp [hb, State.answerRecord, State.taken_fill]

end Sys2Proof.Machine
end

