-- ==== Sys2Proof/WellFormed.lean ====
section
/-!
DEFINITION. Which commands are well formed: every operand names something the part or the bus has.
A command that is not well formed describes no event; exec still answers a next state for it.
-/

namespace Sys2Proof

/-- A bus master number is 0 to 15 (R167). -/
def slotOk (slot : Nat) : Bool := decide (slot < Config.slots)

/-- The accesses WRITE_IGNORED stands for (R168, log 28): a write to REPLY or PORT_STATUS, and a read or a write of the two
offsets without a use. -/
def ignoredAccess : PortOffset → Access → Bool
  | .reply, .write _ => true
  | .portStatus, .write _ => true
  | .spare18, _ => true
  | .spare1C, _ => true
  | _, _ => false

/-- The command is well formed. -/
def Instr.wellFormed : Instr → Bool
  | .powerOnReset => true
  | .startUp => true
  | .chassisReset => true
  | .recoveryScan => true
  | .uptimeTick => true
  | .idleTimerExpiry ctx => decide (ctx < Config.contexts)
  | .holdExpiry doc pos => decide (doc < Config.documents) && decide (1 ≤ pos) && decide (pos ≤ 8)
  | .retentionExpiry doc => decide (doc < Config.documents)
  | .requestStart slot _ => slotOk slot
  | .requestWord slot _ => slotOk slot
  | .reply slot => slotOk slot
  | .portStatus slot => slotOk slot
  | .attentionAck slot _ => slotOk slot
  | .portReset slot _ => slotOk slot
  | .writeIgnored slot off acc => slotOk slot && ignoredAccess off acc
  | .unusedSlotAccess slot _ _ => slotOk slot
  | .portAccessRetry slot _ _ => slotOk slot
  | .badCommand slot => slotOk slot
  | .echo slot => slotOk slot
  | .readStatus slot => slotOk slot
  | .stationConfig slot => slotOk slot
  | .stationReset slot => slotOk slot
  | .clearFault slot => slotOk slot
  | .storeStatus slot => slotOk slot
  | .setStoreMarks slot => slotOk slot
  | .setIntakeHold slot => slotOk slot
  | .setClock slot => slotOk slot
  | .readClock slot => slotOk slot
  | .openReception slot => slotOk slot
  | .setSender slot => slotOk slot
  | .pageData slot => slotOk slot
  | .pageEnd slot => slotOk slot
  | .endReception slot => slotOk slot
  | .abortReception slot => slotOk slot
  | .setProfile slot => slotOk slot
  | .getProfile slot => slotOk slot
  | .docInfo slot => slotOk slot
  | .pageInfo slot => slotOk slot
  | .setDocAttr slot => slotOk slot
  | .purge slot => slotOk slot
  | .listDocs slot => slotOk slot
  | .setRetention slot => slotOk slot
  | .routeSet slot => slotOk slot
  | .routeClear slot => slotOk slot
  | .routeGet slot => slotOk slot
  | .routeLookup slot => slotOk slot
  | .setDefaultRoute slot => slotOk slot
  | .setFallback slot => slotOk slot
  | .destConfig slot => slotOk slot
  | .destOpen slot => slotOk slot
  | .destPause slot => slotOk slot
  | .destClose slot => slotOk slot
  | .destStatus slot => slotOk slot
  | .reroute slot => slotOk slot
  | .take slot => slotOk slot
  | .fetchPages slot => slotOk slot
  | .confirm slot => slotOk slot
  | .returnCheckout slot => slotOk slot
  | .withdraw slot => slotOk slot
  | .cancelTransfer slot => slotOk slot
  | .setBusPolicy slot => slotOk slot
  | .busGrant => true
  | .burstComplete words => decide (words.length ≤ 64)
  | .burstRetry => true
  | .burstError => true

end Sys2Proof
end

