-- ==== Sys2Proof/Tests/Slice0.lean ====
section
/-!
SUPPORT. Tests of the model against the examples and tables of the spec, the well-formedness checks, and for every statement
with hypotheses a witness: a concrete state and operands that meet them, clause by clause, at the ends of their ranges.
-/

namespace Sys2Proof.Machine.Tests

open Sys2Proof

/-! ## States to test on -/

/-- The state after a command. -/
def after (c : Instr) (s : State) : State :=
  match exec c s with
  | .next t => t
  | .fault _ => s
  | .refused _ => s

/-- A slot in use with an aperture over the whole bus. -/
def slotWith (i d a : Bool) : Station := { Station.first with rights := ⟨i, d, a⟩ }

/-- A READY part: slot 0 with every right, slot 1 with INTAKE, slot 2 with DELIVER, slot 3 with ADMINISTER. -/
def ready : State := { State.reset with
  part := .ready
  spu := ⟨⟨[(0, slotWith true true true), (1, slotWith true false false), (2, slotWith false true false),
    (3, slotWith false false true)]⟩, false, []⟩ }

/-- A record with a header of tag 5. -/
def req (code : Nat) (ws : List Word) : Record := ⟨⟨code, ws.length + 1, 5⟩, ws⟩

/-- A record stands at the head of a slot's request queue. -/
def ask (s : State) (slot code : Nat) (ws : List Word) : State :=
  s.setStation slot { s.station slot with requests := [req code ws] }

/-- A slot's reply queue is full. -/
def full (s : State) (slot : Nat) : State :=
  s.setStation slot { s.station slot with replies := List.replicate 32 ⟨.ok, 1, 1, []⟩ }

/-- The handle of document record 0 under generation 1. -/
def handle0 : Word := 0x00010000

/-- An entry for destination 1. -/
def entryIn (st : EntryState) (attempts : Nat) : Entry :=
  ⟨1, none, st, attempts, attempts, if st = .checkedOut then some 9 else none, none⟩

/-- A document of generation 1 opened by slot 0, with one committed page and entries at positions 1 onward. -/
def docWith (st : DocState) (entries : List (Nat × Option Entry)) : Document :=
  { Document.free with generation := 1, state := st, openingSlot := some 0, pages := [7], totalBlocks := 1, entries := ⟨entries⟩ }

/-- A committed page of one block and 32 bytes. -/
def page1 : PageRecord := ⟨1, some 3, 1, 32, 4, 0, 0, 0, 0, .clean, PageFlags.clear⟩

/-- A READY part holding document 0 with its page. -/
def holding (d : Document) : State := (ready.setDocument 0 d).setPage 7 (some page1)

/-- Destination 1 with a queue and checkouts, bound to slot 2. -/
def dest1 (st : DestState) (normal : List QueueItem) (checkouts : List Checkout) : Destination :=
  { Destination.powerOn with state := st, bound := some 2, normal := normal, checkouts := checkouts }

/-- Document 0 waits in the queue of destination 1. -/
def queued : State :=
  (holding (docWith .queued [(1, some (entryIn .queued 0))])).setDestination 1 (dest1 .opened [⟨⟨0, 1⟩, 1⟩] [])

/-- Document 0 is checked out of destination 1 by slot 2, at its first attempt. -/
def checkedOut : State :=
  (holding (docWith .queued [(1, some (entryIn .checkedOut 1))])).setDestination 1 (dest1 .opened [] [⟨⟨0, 1⟩, 1, 2, 1⟩])

/-- The same with a second entry, QUEUED for destination 2. -/
def checkedOutOfTwo (st : DestState) (attempts : Nat) : State :=
  (holding (docWith .queued [(1, some (entryIn .checkedOut attempts)), (2, some { entryIn .queued 0 with destination := 2 })])).setDestination
    1 (dest1 st [] [⟨⟨0, 1⟩, 1, 2, attempts⟩])

/-- An open page of one block and two records, 8 bytes. -/
def openPage0 : OpenPage := ⟨9, [4], 8, ⟨2, 1, 0, 1, 1⟩, PageFlags.clear⟩

/-- The context of a reception of slot 0 for document 0. -/
def context0 (st : ContextState) (page : Option OpenPage) : Context :=
  ⟨⟨0, 1⟩, 0, 5, 0, page.map (fun _ => Profile.powerOn.acceptance), .empty, page, 4, 0, some 60000, st⟩

/-- A reception of slot 0 in context 0 for document 0. -/
def receiving (st : ContextState) (page : Option OpenPage) (jobs : List Job) : State :=
  { (ready.setDocument 0 { docWith .receiving [(1, some (entryIn .waiting 0))] with pages := [] }).setContext 0
      (some (context0 st page)) with
    te := { Te.powerOn with jobs := jobs } }

/-- A reception of slot 0 in context 0 for document 0, with a committed page and WAITING entries for destinations 1, OPEN, 4 and 5,
CLOSED, and 6, PAUSED; 1 and 6 are bound to slot 2 and empty. The fallback, if any, is destination 3, OPEN. -/
def completing (fallback : Option Nat) : State :=
  let waits (d : Nat) : Option Entry := some { entryIn .waiting 0 with destination := d }
  { (holding (docWith .receiving [(1, waits 1), (2, waits 4), (3, waits 5), (4, waits 6)])).setContext 0
      (some (context0 .betweenPages none)) with
    rtu := { ready.rtu with fallback := fallback }
    dqu := ⟨⟨[(1, dest1 .opened [] []), (3, dest1 .opened [] []), (6, dest1 .paused [] [])]⟩⟩ }

/-- The state at an uptime. -/
def atTime (s : State) (uptime : Nat) : State := { s with tb := ⟨uptime, Clock.powerOn⟩ }

/-- A delivery job of slot 2 for document 0, running on channel 0. -/
def delivery0 : Job := { Job.new (.delivery ⟨⟨0, 1⟩, 1, 1, 1, 1, 1, 0, 0⟩) 2 5 0x100 with channel := some 0 }

/-- An intake job of slot 0 for context 0, running on channel 0. -/
def intake0 : Job := { Job.new (.intake 0) 0 5 0x100 with channel := some 0 }

/-- A region of 64 bytes at 0x2000, its descriptor the last. -/
def region64 : Descriptor := ⟨0x100, false, true, 1, 0x2000, 64, 0x2000, 0⟩

/-- One job in the engine whose burst is under way in a FAIR tenure. -/
def running (s : State) (j : Job) (b : Burst) : State :=
  { s with te := { Te.powerOn with jobs := [j], tenure := some ⟨.fair, 0, b⟩ } }

/-! ## The examples of the spec -/

/-- 12_formats.md: the worked CONFIRM header, its bytes on the bus, and its refusal NOT_CHECKED_OUT. -/
theorem test_header_words : decodeHeader 0x0101045A = ⟨0x5A, 4, 0x0101⟩ ∧ wordBytes 0x0101045A = [0x5A, 0x04, 0x01, 0x01]
    ∧ (Reply.mk .notCheckedOut 0x5A 0x0101 []).header = 0x01015A42 := by
  decide

/-- R173: the empty header. -/
theorem test_empty_header : emptyHeader = 0xFFFF00FF := by decide

/-- R169: the tag 0xFFFF is taken as 0xFFFE. -/
theorem test_tag_taken : (decodeHeader 0xFFFF0101).tag = 0xFFFE := by decide

/-- R198: record 930 under generation 12. -/
theorem test_handle_word : (Handle.mk 930 12).word = 0x000C03A2 ∧ decodeHandle 0x000C03A2 = ⟨930, 12⟩ := by decide

/-- R154: relocation base 0xA700, select mask 0xFF00. -/
theorem test_relocation :
    ({ Station.unused with relocationBase := 0xA700, selectMask := 0xFF00 } : Station).relocate 0x00123400 = 0xA7123400 := by
  decide

/-- The worked pages of 03_line_records_and_page_acceptance.md (R56): Q rounds up. -/
theorem test_quality : quality ⟨2200, 71, 0, 0, 0⟩ = 33 ∧ quality ⟨2200, 110, 0, 0, 0⟩ = 50 ∧ quality ⟨2200, 111, 0, 0, 0⟩ = 51 := by
  decide

/-- R57: an accept limit of 50 admits 110 BAD lines of 2,200 and not 111. -/
theorem test_verdict : verdict ⟨50, 12, 16, .drop, 3⟩ ⟨2200, 110, 0, 0, 1⟩ 4 = .acceptable
    ∧ verdict ⟨50, 12, 16, .drop, 3⟩ ⟨2200, 111, 0, 0, 1⟩ 4 = .poor := by
  decide

/-- R2 and R10: blocks pushed in order stand with the last on top, and are popped from there. -/
theorem test_stack_order : ((Bsm.powerOn.pop.elim Bsm.powerOn (fun x => x.2)).pushAll [5, 6]).freeTop = [6, 5] := by decide

/-- R21: four characters fill a word, the first lowest. -/
theorem test_counted_string : countedString [0x31, 0x32, 0x33, 0x34, 0x35] = [5, 0x34333231, 0x35]
    ∧ takeString [5, 0x34333231, 0x35] = some ([0x31, 0x32, 0x33, 0x34, 0x35], []) ∧ takeString [5, 0x34333231] = none := by
  decide

/-- R21: the bytes of the last word beyond the last character are ignored. -/
theorem test_counted_string_padding : takeString [5, 0x34333231, 0xAABBCC35] = some ([0x31, 0x32, 0x33, 0x34, 0x35], []) := by decide

/-- A counted string whose last word holds other bytes behind its last character, an empty one, and one that fills its words. -/
theorem witness_CountedAs : CountedAs [5, 0x34333231, 0xAABBCC35] [0x31, 0x32, 0x33, 0x34, 0x35] ∧ CountedAs [0] []
    ∧ CountedAs (countedString [0x31, 0x32, 0x33, 0x34]) [0x31, 0x32, 0x33, 0x34] :=
  ⟨⟨by decide, [0xCC, 0xBB, 0xAA], by decide, by decide, by decide⟩, ⟨by decide, [], by decide, by decide, by decide⟩,
    ⟨by decide, [], by decide, by decide, by decide⟩⟩

/-- R199: a stamp of day 1, day of week 6, minute 1439, millisecond 59999, SET. -/
theorem test_stamp : stampWords ⟨1, 6, 1439, 59999, true⟩ = [word (59999 + 65536 * 1439 + 134217728 * 6), 1] := by decide

/-- No row of the table has bits, so no word spells a command. -/
theorem test_no_word_decodes : decodeTableWord 32 0 = none ∧ (ready.withFetchWord 32 0) = ready := by decide

/-! ## Well-formedness: an ill-formed term for each check -/

theorem test_ill_formed_context : Instr.wellFormed (.idleTimerExpiry 64) = false ∧ Instr.wellFormed (.idleTimerExpiry 63) = true := by
  decide

theorem test_ill_formed_document : Instr.wellFormed (.retentionExpiry 4096) = false
    ∧ Instr.wellFormed (.holdExpiry 4096 1) = false ∧ Instr.wellFormed (.retentionExpiry 4095) = true := by
  decide

theorem test_ill_formed_position : Instr.wellFormed (.holdExpiry 0 0) = false ∧ Instr.wellFormed (.holdExpiry 0 9) = false
    ∧ Instr.wellFormed (.holdExpiry 0 8) = true := by
  decide

theorem test_ill_formed_slot : Instr.wellFormed (.echo 16) = false ∧ Instr.wellFormed (.echo 15) = true := by decide

theorem test_ill_formed_access : Instr.wellFormed (.writeIgnored 0 .requestStart (.write 0)) = false
    ∧ Instr.wellFormed (.writeIgnored 0 .reply .read) = false ∧ Instr.wellFormed (.writeIgnored 0 .reply (.write 0)) = true := by
  decide

theorem test_ill_formed_burst : Instr.wellFormed (.burstComplete (List.replicate 65 0)) = false
    ∧ Instr.wellFormed (.burstComplete (List.replicate 64 0)) = true := by
  decide

/-! ## Witnesses: resets, time, the port window -/

theorem witness_StepRunsFrontCommand :
    ({ ready with pending := [.echo 0] } : State).pending = .echo 0 :: [] ∧ State.reset.pending = [] := by
  decide

theorem witness_StartUp : State.reset.part = .starting ∧ ready.part ≠ .starting := by decide

theorem witness_PowerOnAndChassisReset : ready.part = .ready ∧ State.reset.part = .starting
    ∧ (after .chassisReset ready).part = .recovering := by
  decide

set_option maxRecDepth 4000 in
/-- R197: a run of the scan that is broken behind stage 1 has brought the checkout back; the next run finds it QUEUED. -/
theorem test_scan_broken_behind_stage_1 :
    let s := ((after .chassisReset checkedOut).scanUpTo .stations).recovering
    s.part = .recovering ∧ (s.destination 1).checkouts = [] ∧ (s.destination 1).queue = [⟨⟨0, 1⟩, 1⟩]
      ∧ (after .recoveryScan s).part = .ready ∧ ((after .recoveryScan s).destination 1).queue = [⟨⟨0, 1⟩, 1⟩] := by
  decide

theorem witness_RecoveryScan : (after .chassisReset (receiving .betweenPages none [])).part = .recovering := by decide

theorem witness_RecoveryScan_checkouts : { checkedOut with part := .recovering }.Canonical
    ∧ { checkedOut with part := .recovering }.CheckoutsSound :=
  ⟨by decide, by decide⟩

set_option maxRecDepth 20000 in
/-- Receptions the scan ends: of a document without and of one with a committed page. -/
theorem witness_RecoveryScan_receptions :
    let s := { receiving .betweenPages none [] with part := .recovering }
    let u := { completing (some 3) with part := .recovering }
    s.Canonical ∧ s.CheckoutsSound ∧ s.context 0 = some (context0 .betweenPages none) ∧ (s.document 0).pages = []
      ∧ u.Canonical ∧ u.CheckoutsSound ∧ u.context 0 = some (context0 .betweenPages none) ∧ (u.document 0).pages ≠ []
      ∧ (after .recoveryScan u).page 7 = some page1 :=
  ⟨by decide, by decide, by decide, by decide, by decide, by decide, by decide, by decide, by decide⟩

/-- The last millisecond of both counts, and the greatest uptime. -/
theorem witness_UptimeTick : (⟨65535, 6, 1439, 59999, true⟩ : Clock).Sound ∧ (281474976710655 : Nat) ≤ 281474976710655 := by decide

/-- R188: every carry at once; R187: uptime stays at its greatest value. -/
theorem test_tick_wraps : (after .uptimeTick { ready with tb := ⟨281474976710655, ⟨65535, 6, 1439, 59999, true⟩⟩ }).tb
    = ⟨281474976710655, ⟨0, 0, 0, 0, true⟩⟩ := by
  decide

/-- The deadline just reached, and the millisecond before it; a document without and with a committed page. -/
theorem witness_IdleTimerExpiry :
    let s := atTime (receiving .betweenPages none []) 60000
    let u := s.setDocument 0 (docWith .receiving [])
    let c := context0 .betweenPages none
    s.part = .ready ∧ s.context 0 = some c ∧ c.idleDeadline = some 60000 ∧ 60000 ≤ s.tb.uptime
      ∧ (s.document c.handle.index).pages = [] ∧ s.spu.underReset = []
      ∧ (s.endReception 0 c true).replyRoom c.openingSlot = true ∧ u.context 0 = some c
      ∧ (u.document c.handle.index).pages ≠ [] ∧ (atTime s 59999).context 0 = some c ∧ (atTime s 59999).tb.uptime < 60000
      ∧ ((after (.idleTimerExpiry 0) u).document 0).state = .unrouted := by
  decide

set_option maxRecDepth 20000 in
/-- An expired reception whose document completes with entries of every kind. -/
theorem witness_IdleTimerExpiry_entries :
    let s := atTime (completing (some 3)) 60000
    s.part = .ready ∧ s.context 0 = some (context0 .betweenPages none) ∧ (s.document 0).pages ≠ []
      ∧ ((after (.idleTimerExpiry 0) s).destination 3).queue = [⟨⟨0, 1⟩, 2⟩] :=
  ⟨by decide, by decide, by decide, by decide⟩

/-- The deadline just reached, and the millisecond before it. -/
theorem witness_RetentionExpiry :
    let s := atTime (holding { docWith .done [] with retentionDeadline := some 100 }) 100
    s.part = .ready ∧ (s.document 0).state = .done ∧ (s.document 0).retentionDeadline = some 100 ∧ 100 ≤ s.tb.uptime
      ∧ (s.document 0).legalHold = false ∧ s.activeJobs 0 = 0 ∧ (s.document 0).outstandingSet = []
      ∧ (after (.retentionExpiry 0) s).document 0 = { Document.free with generation := 1, openingSlot := some 0 }
      ∧ after (.retentionExpiry 0) (atTime s 99) = atTime s 99 := by
  decide

/-- A store that was low, whose release mark the freed block reaches. -/
theorem witness_RetentionExpiry_hold :
    let u := atTime (holding { docWith .done [] with retentionDeadline := some 100 }) 100
    let s : State := { u with bsm := { u.bsm with reserved := 65536, releaseMark := 65536, lowMark := 65536, storeHold := true } }
    s.part = .ready ∧ (s.document 0).retentionDeadline = some 100 ∧ s.bsm.releaseMark ≤ (after (.retentionExpiry 0) s).bsm.available
      ∧ (after (.retentionExpiry 0) s).bsm.storeHold = false := by
  decide

/-- Header lengths 0, 1, 2, 64 and 65, a queue of 7 and of 8 records, and the last and the last but one word of a record. -/
theorem witness_RequestWrites :
    let s := ready.setStation 0 { ready.station 0 with requests := List.replicate 8 (req 1 []) }
    let o := ready.setStation 0 { ready.station 0 with assembly := some ⟨⟨1, 3, 5⟩, []⟩ }
    s.part = .ready ∧ (s.rights 0).any = true ∧ 8 ≤ (s.station 0).requests.length ∧ (ready.station 0).requests.length < 8
      ∧ (decodeHeader 0x00010001).length = 0 ∧ (decodeHeader 0x00010101).length = 1 ∧ (decodeHeader 0x00010201).length = 2
      ∧ (decodeHeader 0x00014001).length = 64 ∧ (decodeHeader 0x00014101).length = 65 ∧ (ready.station 0).assembly = none
      ∧ (o.station 0).assembly = some ⟨⟨1, 3, 5⟩, []⟩
      ∧ ((after (.requestWord 0 (.write 9)) o).station 0).assembly = some ⟨⟨1, 3, 5⟩, [9]⟩
      ∧ ((after (.requestWord 0 (.write 8)) (after (.requestWord 0 (.write 9)) o)).station 0).requests = [⟨⟨1, 3, 5⟩, [9, 8]⟩] := by
  decide

/-- An empty queue, a reply of a header alone, and both words of a reply of two. -/
theorem witness_ReplyRead :
    let x : Reply := ⟨.ok, 1, 5, [6, 7]⟩
    let s := ready.setStation 0 { ready.station 0 with replies := [x] }
    s.part = .ready ∧ (s.rights 0).any = true ∧ (ready.station 0).replies = [] ∧ (s.station 0).replies = x :: []
      ∧ (s.station 0).latch = none ∧ x.words ≠ [] ∧ ((full ready 0).station 0).replies.head? = some ⟨.ok, 1, 1, []⟩
      ∧ (after (.reply 0) s).answer = .word 0x00050100 ∧ ((after (.reply 0) s).station 0).latch = some 1
      ∧ (after (.reply 0) (after (.reply 0) s)).answer = .word 6
      ∧ ((after (.reply 0) (after (.reply 0) s)).station 0).latch = some 2
      ∧ (after (.reply 0) (after (.reply 0) (after (.reply 0) s))).answer = .word 7
      ∧ ((after (.reply 0) (after (.reply 0) (after (.reply 0) s))).station 0).replies = [] := by
  decide

theorem witness_ReplyRead_canonical :
    ready.Canonical ∧ (ready.setStation 0 { ready.station 0 with replies := [⟨.ok, 1, 5, [6, 7]⟩] }).Canonical :=
  ⟨by decide, by decide⟩

theorem witness_PortStatusRead :
    let s := full ready 0
    s.part = .ready ∧ (s.rights 0).any = true ∧ (0 : Nat) < 16 ∧ (s.station 0).requests.length ≤ 8
      ∧ (s.station 0).replies.length ≤ 32 ∧ s.jobCount 0 ≤ 4 ∧ (after (.portStatus 0) s).answer = .word 0x000A0070 := by
  decide

/-- A slot in use; the attention output with a cause pending and enabled, with none pending, and of an UNUSED slot. -/
theorem witness_AcknowledgeAndIgnored :
    let s (e : Enables) := (full ready 0).setStation 0 { (full ready 0).station 0 with enables := e }
    ready.part = .ready ∧ (ready.rights 3).any = true ∧ (s ⟨true, false, false⟩).attention 0 = true
      ∧ (s ⟨false, true, true⟩).attention 0 = false ∧ ready.attention 0 = false
      ∧ (full (ready.setStation 15 { ready.station 15 with enables := ⟨true, true, true⟩ }) 15).attention 15 = false := by
  decide

/-- Both parts, and among the accesses of WRITE_IGNORED a write to REPLY and a read of a spare offset. -/
theorem witness_AccessesTurnedAway : State.reset.part ≠ .ready ∧ ready.part = .ready ∧ (ready.rights 15).any = false
    ∧ Access.write 7 ≠ .read ∧ after (.writeIgnored 15 .reply (.write 7)) ready = { ready with answer := .busError }
    ∧ after (.writeIgnored 0 .spare1C .read) State.reset = { State.reset with answer := .retry } := by
  decide

theorem witness_PortReset : (receiving .intakeActive (some openPage0) [intake0]).part = .ready
    ∧ ((receiving .intakeActive (some openPage0) [intake0]).rights 0).any = true := by
  decide

/-- Checkouts of slot 2: documents 0 (NORMAL) and 1 (URGENT) of destination 1, OPEN; document 2 of destinations 4 and 5, both
DRAINING; document 3 of destination 6, PAUSED, empty and bound to slot 0. The fallback, if any, is destination 3. -/
def outAt2 (fallback : Option Nat) : State :=
  let out (d : Nat) : Option Entry := some { entryIn .checkedOut 1 with destination := d }
  { ready with
    dt := { ready.dt with documents := ⟨[(0, docWith .queued [(1, out 1)]), (1, { docWith .queued [(8, out 1)] with priority := .urgent }),
      (2, docWith .queued [(1, out 4), (2, out 5)]), (3, docWith .queued [(1, out 6)])]⟩ }
    rtu := { ready.rtu with fallback := fallback }
    dqu := ⟨⟨[(1, dest1 .opened [] [⟨⟨0, 1⟩, 1, 2, 1⟩, ⟨⟨1, 1⟩, 8, 2, 1⟩]), (3, dest1 .opened [] []),
      (4, dest1 .draining [] [⟨⟨2, 1⟩, 1, 2, 1⟩]), (5, dest1 .draining [] [⟨⟨2, 1⟩, 2, 2, 1⟩]),
      (6, { dest1 .paused [] [⟨⟨3, 1⟩, 1, 2, 1⟩] with bound := some 0 })]⟩⟩ }

set_option maxRecDepth 20000 in
/-- Checkouts at the ends of the checkout clauses: two classes at an OPEN destination, a move to the fallback, a withdrawal behind
it in the same document, a withdrawal with no fallback, and a queue of slot 0 that is empty. -/
theorem witness_PortReset_checkouts :
    let s := outAt2 (some 3)
    let who (m : Nat) : Bool := decide (m = 2)
    s.CheckoutsSound ∧ (outAt2 none).CheckoutsSound ∧ s.part = .ready ∧ (s.rights 2).any = true ∧ s.te.jobs = []
      ∧ (s.destination 1).accepting = true ∧ (s.takenBy who 1).length = 2 ∧ (s.destination 4).accepting = false
      ∧ s.movesTo who ⟨⟨2, 1⟩, 1, 2, 1⟩ 4 3 ∧ ¬ s.movesTo who ⟨⟨2, 1⟩, 2, 2, 1⟩ 5 3 ∧ (outAt2 none).usableFallback = none
      ∧ (s.destination 6).bound = some 0 ∧ (s.destination 6).accepting = true ∧ (s.destination 6).queue = []
      ∧ s.takenBy who 6 ≠ [] :=
  ⟨by decide, by decide, rfl, by decide, rfl, by decide, by decide, by decide, ⟨by decide, by decide, by decide⟩,
    fun h => absurd (h.2.2 4 (by decide) (by decide) ⟨⟨2, 1⟩, 1, 2, 1⟩ (by decide)) (by decide), by decide, by decide, by decide,
    by decide, by decide⟩

set_option maxRecDepth 20000 in
/-- Receptions of a slot that is reset: of a document without and of one with a committed page. -/
theorem witness_PortReset_receptions :
    let s := receiving .betweenPages none []
    let u := completing (some 3)
    s.CheckoutsSound ∧ (s.rights 0).any = true ∧ s.context 0 = some (context0 .betweenPages none) ∧ (s.document 0).pages = []
      ∧ u.CheckoutsSound ∧ u.context 0 = some (context0 .betweenPages none) ∧ (u.document 0).pages ≠ []
      ∧ (∀ y ∈ (u.document 0).entryList, y.2.state ≠ .checkedOut)
      ∧ ((after (.portReset 0 (.write 0)) u).document 0).state = .queued :=
  ⟨by decide, by decide, by decide, by decide, by decide, by decide, by decide, by decide, by decide⟩

set_option maxRecDepth 20000 in
/-- R143: the checkouts of a slot that is reset, each where the rule sends it. -/
theorem test_PORT_RESET_returns_checkouts :
    let t := after (.portReset 2 (.write 0)) (outAt2 (some 3))
    (t.destination 1).urgent = [⟨⟨1, 1⟩, 8⟩] ∧ (t.destination 1).normal = [⟨⟨0, 1⟩, 1⟩] ∧ (t.destination 1).checkouts = []
      ∧ (t.destination 3).normal = [⟨⟨2, 1⟩, 1⟩] ∧ (t.destination 4).state = .closed ∧ (t.destination 5).state = .closed
      ∧ (t.document 2).entry 1 = some { entryIn .queued 1 with destination := 3, original := some 4 }
      ∧ ((t.document 2).entry 2).map (fun e => e.state) = some .withdrawn ∧ (t.station 0).work = true := by
  decide

set_option maxRecDepth 20000 in
/-- Without a fallback both entries of document 2 are WITHDRAWN and it settles (R70). -/
theorem test_PORT_RESET_withdraws : ((after (.portReset 2 (.write 0)) (outAt2 none)).document 2).state = .unrouted := by decide

/-! ## Witnesses: stations, the block store, the clock -/

/-- A length field of 0 and of 65, a record a word short and a word long, and codes outside the manual. -/
theorem witness_BadShapeRefused :
    let z : Record := ⟨⟨0x5A, 0, 5⟩, []⟩
    let l : Record := ⟨⟨0x5A, 65, 5⟩, []⟩
    let s (r : Record) := ready.setStation 0 { ready.station 0 with requests := [r] }
    (s z).HasHead 0 z ∧ Instr.code (.confirm 0) = some z.header.code ∧ z.header.badLength = true ∧ l.header.badLength = true
      ∧ (s (req 0x5A [1, 2])).HasHead 0 (req 0x5A [1, 2]) ∧ Instr.fixedLength (.confirm 0) = some 3
      ∧ (req 0x5A [1, 2]).words.length ≠ 3 ∧ (req 0x5A [1, 2, 3, 4]).words.length ≠ 3
      ∧ (s (req 0 [])).HasHead 0 (req 0 []) ∧ (req 0 []).header.code ∉ commandCodes ∧ (req 255 []).header.code ∉ commandCodes := by
  decide

/-- A counted string a word short, a word long and missing, and a second string missing. -/
theorem witness_BadShapeRefused_strings :
    (ask ready 1 0x21 [0, 5, 0x31313131]).HasHead 1 (req 0x21 [0, 5, 0x31313131])
      ∧ ¬ (req 0x21 [0, 5, 0x31313131]).StringEnds 1 3 ∧ ¬ (req 0x21 [0, 0, 0]).StringEnds 1 3 ∧ ¬ (req 0x21 [0]).StringEnds 1 1
      ∧ (ask ready 1 0x20 [0, 0, 0]).HasHead 1 (req 0x20 [0, 0, 0])
      ∧ ∀ m, (req 0x20 [0, 0, 0]).StringEnds 2 m → ¬ (req 0x20 [0, 0, 0]).StringEnds m 3 := by
  refine ⟨by decide, ?_, ?_, ?_, by decide, ?_⟩
  · rintro ⟨w, h, e⟩; cases h; exact absurd e (by decide)
  · rintro ⟨w, h, e⟩; cases h; exact absurd e (by decide)
  · rintro ⟨w, h, -⟩; cases h
  · rintro m ⟨w, h, e⟩ ⟨v, hv, -⟩
    cases h
    subst e
    cases hv

theorem witness_AdministerRequired :
    let s := ask ready 1 0x11 [0, 0, 0, 0]
    s.HasHead 1 (req 0x11 [0, 0, 0, 0]) ∧ Instr.requester (.setStoreMarks 1) = some 1
      ∧ Instr.code (.setStoreMarks 1) = some 0x11 ∧ Instr.needsAdminister (.setStoreMarks 1) = true
      ∧ Instr.fixedLength (.setStoreMarks 1) = some 4 ∧ (s.rights 1).administer = false := by
  decide

set_option maxRecDepth 4000 in
/-- A slot without the right: ADMINISTER for a record with a string, INTAKE, either of two, and any. -/
theorem witness_AdministerRequired_rights :
    let w : List Word := [0, 0, 0, 0, 0] ++ countedString [0x41]
    let bare := ready.setStation 1 { ready.station 1 with rights := ⟨false, false, false⟩ }
    (ask ready 1 0x50 w).HasHead 1 (req 0x50 w) ∧ Instr.needsAdminister (.destConfig 1) = true ∧ (ready.rights 1).administer = false
      ∧ (req 0x50 w).words.drop 5 = countedString [0x41] ∧ (ask ready 2 0x24 [handle0, 0]).HasHead 2 (req 0x24 [handle0, 0])
      ∧ (ready.rights 2).intake = false ∧ (ask ready 2 0x25 [handle0]).HasHead 2 (req 0x25 [handle0])
      ∧ (ready.rights 2).administer = false ∧ (ask ready 1 0x58 [0]).HasHead 1 (req 0x58 [0]) ∧ (ready.rights 1).deliver = false
      ∧ (ask bare 1 0x02 []).HasHead 1 (req 0x02 []) ∧ (bare.rights 1).any = false := by
  decide

/-- Document 0 checked out of destination 1 by slot 0. -/
def takenByOther : State := checkedOut.setDestination 1 (dest1 .opened [] [⟨⟨0, 1⟩, 1, 0, 1⟩])

/-- Receptions: a handle of another generation, another slot than the opener, and a document that is QUEUED. -/
theorem witness_AdministerRequired_receptions :
    let s := receiving .pageOpen (some openPage0) []
    let w : List Word := 0x00020000 :: countedString [0x41]
    (ask s 0 0x23 [0x00020000]).HasHead 0 (req 0x23 [0x00020000]) ∧ (ask s 0 0x21 w).HasHead 0 (req 0x21 w)
      ∧ (decodeHandle 0x00020000).generation ≠ (s.document 0).generation ∧ (s.rights 0).intake = true
      ∧ (ask s 1 0x24 [handle0, 0]).HasHead 1 (req 0x24 [handle0, 0]) ∧ (s.rights 1).intake = true
      ∧ (s.document 0).openingSlot ≠ some 1 ∧ Instr.fixedLength (.endReception 1) = some 2
      ∧ (ask queued 0 0x22 [handle0, 0]).HasHead 0 (req 0x22 [handle0, 0]) ∧ (queued.document 0).openingSlot = some 0
      ∧ (queued.document 0).state ≠ .receiving ∧ (ask s 0 0x25 [0x00020000]).Takes 0 0x25 (req 0x25 [0x00020000])
      ∧ (ask s 1 0x25 [handle0]).Takes 1 0x25 (req 0x25 [handle0]) ∧ (s.rights 1).administer = false := by
  decide

/-- Documents: stale handles from an ADMINISTER and a DELIVER slot; a checkout taken by another slot; a TAKE by a slot the
destination is not bound to. -/
theorem witness_AdministerRequired_documents :
    let w : List Word := 0x00020000 :: 0 :: 0 :: 0 :: 0 :: countedString [0x41]
    (ask queued 3 0x33 [0x00020000]).HasHead 3 (req 0x33 [0x00020000]) ∧ (queued.rights 3).administer = true
      ∧ (ask queued 2 0x30 [0x00020000, 1]).HasHead 2 (req 0x30 [0x00020000, 1]) ∧ (queued.rights 2).deliver = true
      ∧ (ask queued 2 0x32 w).HasHead 2 (req 0x32 w) ∧ (decodeHandle 0x00020000).generation ≠ (queued.document 0).generation
      ∧ (ask takenByOther 2 0x5A [handle0, 1, 1]).HasHead 2 (req 0x5A [handle0, 1, 1])
      ∧ (takenByOther.rights 2).administer = false ∧ (takenByOther.document 0).checkedOut 1 1 = some (1, entryIn .checkedOut 1)
      ∧ takenByOther.checkoutOf 1 0 1 = some ⟨⟨0, 1⟩, 1, 0, 1⟩ ∧ (ask queued 2 0x58 [31]).Takes 2 0x58 (req 0x58 [31])
      ∧ (queued.destination 31).bound ≠ some 2 := by
  decide

/-- An ABORT_RECEPTION of a document that is not RECEIVING, and a delivery viewer of a document without an entry of its own. -/
theorem witness_AdministerRequired_others :
    (ask queued 0 0x25 [handle0]).Takes 0 0x25 (req 0x25 [handle0]) ∧ (queued.document 0).state ≠ .receiving
      ∧ (queued.document 0).openingSlot = some 0 ∧ (ask (holding (docWith .queued [])) 2 0x31 [handle0, 1]).HasHead 2 (req 0x31 [handle0, 1])
      ∧ (∀ x ∈ ((holding (docWith .queued [])).document 0).entryList,
          ((holding (docWith .queued [])).destination x.2.destination).bound ≠ some 2)
      ∧ (ready.rights 2).deliver = true ∧ (ready.rights 2).administer = false := by
  decide

/-- 16 words behind the header, 15, and none; a slot with a right and one without. -/
theorem witness_Echo :
    let w := List.replicate 16 (3 : Word)
    (ask ready 0 1 w).Takes 0 1 (req 1 w) ∧ (ask ready 0 1 (w.drop 1)).Takes 0 1 (req 1 (w.drop 1))
      ∧ (ask ready 0 1 []).Takes 0 1 (req 1 []) ∧ 15 < w.length ∧ (w.drop 1).length ≤ 15 ∧ (ready.rights 0).any = true
      ∧ (ask ready 15 1 []).Takes 15 1 (req 1 []) ∧ (ready.rights 15).any = false
      ∧ (⟨⟨1, 65, 5⟩, []⟩ : Record).header.badLength = true
      ∧ (ready.setStation 0 { ready.station 0 with requests := [⟨⟨1, 65, 5⟩, []⟩] }).HasHead 0 ⟨⟨1, 65, 5⟩, []⟩ := by
  decide

theorem witness_StatusReads : (ask ready 2 2 []).Takes 2 2 (req 2 []) ∧ (ask ready 2 0x10 []).Takes 2 0x10 (req 0x10 [])
    ∧ (ask ready 2 0x14 []).Takes 2 0x14 (req 0x14 []) ∧ (ready.rights 2).any = true ∧ ready.tb.uptime ≤ 281474976710655 := by
  decide

/-- DELIVER is removed from slot 2; and the one slot named is the requester, which keeps ADMINISTER. -/
theorem witness_StationConfig :
    let s := ask queued 0 3 [2, 1, 0, 65535, 0, 0, 7]
    let u := ask queued 0 3 [0, 4, 9, 9, 0, 0, 7]
    s.Takes 0 3 (req 3 [2, 1, 0, 65535, 0, 0, 7]) ∧ u.Takes 0 3 (req 3 [0, 4, 9, 9, 0, 0, 7])
      ∧ (s.rights 0).administer = true ∧ (∃ m, m < 16 ∧ m ≠ 2 ∧ (s.rights m).administer = true) ∧ (4 : Word).getLsbD 2 = true
      ∧ (s.rights 2).deliver = true ∧ (1 : Word).getLsbD 1 = false ∧ (s.destination 1).bound = some 2
      ∧ ((after (.stationConfig 0) s).destination 1).state = .paused ∧ ((after (.stationConfig 0) s).destination 1).bound = none := by
  decide

/-- The only ADMINISTER slot. -/
def alone : State := ready.setStation 3 Station.unused

set_option maxRecDepth 4000 in
/-- An aperture that ends below its start, the last ADMINISTER slot, and a slot left UNUSED: another one, and the requester. -/
theorem witness_StationConfig_others :
    (ask ready 0 3 [0, 7, 65535, 65534, 0, 0, 0]).Takes 0 3 (req 3 [0, 7, 65535, 65534, 0, 0, 0]) ∧ min 65534 65535 < min 65535 65535
      ∧ (ask alone 0 3 [0, 3, 0, 0, 0, 0, 0]).Takes 0 3 (req 3 [0, 3, 0, 0, 0, 0, 0]) ∧ (3 : Word).getLsbD 2 = false
      ∧ (∀ m, m < 16 → m ≠ 0 → (alone.rights m).administer = false)
      ∧ (ask ready 0 3 [2, 8, 0, 0, 0, 0, 7]).Takes 0 3 (req 3 [2, 8, 0, 0, 0, 0, 7]) ∧ (8 : Word).toNat % 8 = 0
      ∧ (ask ready 0 3 [0, 0, 0, 0, 0, 0, 0]).Takes 0 3 (req 3 [0, 0, 0, 0, 0, 0, 0])
      ∧ ((after (.stationConfig 0) (ask ready 0 3 [0, 0, 0, 0, 0, 0, 0])).station 0).replies = [] := by
  decide

set_option maxRecDepth 20000 in
/-- Slot 2 is left UNUSED while it holds checkouts: its destinations unbound, as the statement describes them. -/
theorem witness_StationConfig_checkouts :
    let s := ask (outAt2 (some 3)) 0 3 [2, 0, 0, 0, 0, 0, 0]
    let b : State := { s with dqu := (s.unbindAll 2).dqu }
    s.Takes 0 3 (req 3 [2, 0, 0, 0, 0, 0, 0]) ∧ s.CheckoutsSound ∧ b = { s with dqu := b.dqu }
      ∧ (∀ d, b.destination d = if d < 32 ∧ (s.destination d).bound = some 2 ∧ (s.rights 2).deliver = true
        then { s.destination d with
          bound := none, state := if (s.destination d).state = .opened then .paused else (s.destination d).state }
        else s.destination d) := by
  refine ⟨by decide, by decide, rfl, fun d => ?_⟩
  match d with
  | 0 | 1 | 2 | 3 | 4 | 5 | 6 => decide
  | d + 7 =>
    have h : (ask (outAt2 (some 3)) 0 3 [2, 0, 0, 0, 0, 0, 0]).destination (d + 7) = Destination.powerOn := rfl
    rw [h]
    exact (if_neg (fun e => nomatch e.2.1)).symm

set_option maxRecDepth 20000 in
/-- Slot 0 is left UNUSED by slot 3 while it receives. -/
theorem witness_StationConfig_receptions :
    let s := ask (completing (some 3)) 3 3 [0, 0, 0, 0, 0, 0, 0]
    s.Takes 3 3 (req 3 [0, 0, 0, 0, 0, 0, 0]) ∧ s.CheckoutsSound ∧ s.context 0 = some (context0 .betweenPages none)
      ∧ (∀ d, d < 32 → (s.destination d).bound ≠ some 0) ∧ ((after (.stationConfig 3) s).document 0).state = .queued :=
  ⟨by decide, by decide, by decide, by decide, by decide⟩

set_option maxRecDepth 4000 in
/-- A slot that resets itself, and one that resets another. -/
theorem witness_StationReset : (ask ready 0 4 [0]).Takes 0 4 (req 4 [0]) ∧ (ask ready 0 4 [0xFFFFFFFF]).Takes 0 4 (req 4 [0xFFFFFFFF])
    ∧ (ready.rights 0).administer = true ∧ ((after (.stationReset 0) (ask ready 0 4 [0])).station 0).replies.length = 1 := by
  decide

set_option maxRecDepth 20000 in
/-- Another slot's checkouts, as for PORT_RESET. -/
theorem witness_StationReset_checkouts : (ask (outAt2 (some 3)) 0 4 [2]).Takes 0 4 (req 4 [2])
    ∧ (ask (outAt2 (some 3)) 0 4 [2]).CheckoutsSound ∧ ((ask (outAt2 (some 3)) 0 4 [2]).destination 6).bound = some 0 :=
  ⟨by decide, by decide, by decide⟩

set_option maxRecDepth 20000 in
/-- A reception of the named slot, as for PORT_RESET. -/
theorem witness_StationReset_receptions : (ask (completing (some 3)) 3 4 [0]).Takes 3 4 (req 4 [0])
    ∧ (ask (completing (some 3)) 3 4 [0]).CheckoutsSound
    ∧ (ask (completing (some 3)) 3 4 [0]).context 0 = some (context0 .betweenPages none) :=
  ⟨by decide, by decide, by decide⟩

theorem witness_ClearFault :
    let s := { ask ready 0 5 [16] with spu := { (ask ready 0 5 [16]).spu with fault := true } }
    s.Takes 0 5 (req 5 [16]) ∧ (s.rights 0).administer = true ∧ s.spu.fault = true ∧ s.bsm.storeHold = false
      ∧ (∀ m, m < 16 → (s.rights m).intake = true ∨ (s.rights m).administer = true → (s.taken 0).replyRoom m = true)
      ∧ (ask ready 0 5 [15]).Takes 0 5 (req 5 [15]) ∧ (after (.clearFault 0) s).spu.fault = false := by
  decide

/-- The marks of R14's example of clamping in order: a low mark above every other setting. -/
theorem witness_StoreSettings :
    let s := ask ready 0 0x11 [0xFFFFFFFF, 0, 0xFFFFFFFF, 1025]
    s.Takes 0 0x11 (req 0x11 [0xFFFFFFFF, 0, 0xFFFFFFFF, 1025]) ∧ (s.rights 0).administer = true
      ∧ (let b := (after (.setStoreMarks 0) s).bsm; (b.lowMark, b.releaseMark, b.floor, b.intakeReserve))
          = (65536, 65536, 65536, 1024)
      ∧ (ask ready 0 0x12 [0]).Takes 0 0x12 (req 0x12 [0]) ∧ (ask ready 0 0x12 [2]).Takes 0 0x12 (req 0x12 [2])
      ∧ (after (.setIntakeHold 0) (ask ready 0 0x12 [2])).bsm.adminHold = true := by
  decide

/-- A hold that changes, by the command and by the test with a low mark above the store; recipients with room. -/
theorem witness_StoreSettings_notice :
    let s := ask ready 0 0x12 [2]
    let b : State := { s.popped 0 with bsm := { s.bsm with adminHold := decide ((2 : Word) ≠ 0) } }
    let u : State := { ready with bsm := { ready.bsm with lowMark := 131073 } }
    b.held ≠ s.held ∧ s.spu.underReset = [] ∧ (s.rights 1).intake = true ∧ (s.rights 3).administer = true
      ∧ (s.taken 0).replyRoom 0 = true ∧ (s.taken 0).replyRoom 1 = true ∧ u.bsm.available < u.bsm.lowMark ∧ u.held = false
      ∧ u.replyRoom 1 = true ∧ ready.bsm.releaseMark ≤ ready.bsm.available
      ∧ ((after (.setIntakeHold 0) s).station 1).replies = [⟨.storeState, 0, 0xFFFF, [1, 0, 1, 0, 131072]⟩] := by
  decide

theorem witness_SetClock :
    let w : List Word := [65535, 6, 1439, 59999]
    let x : List Word := [0, 7, 0, 0]
    (ask ready 0 0x13 w).Takes 0 0x13 (req 0x13 w) ∧ (ask ready 0 0x13 x).Takes 0 0x13 (req 0x13 x)
      ∧ (ready.rights 0).administer = true ∧ (65535 : Word).toNat ≤ 65535 ∧ (6 : Word).toNat ≤ 6 ∧ (1439 : Word).toNat ≤ 1439
      ∧ (59999 : Word).toNat ≤ 59999 ∧ ready.tb.uptime ≤ 281474976710655 ∧ 6 < (7 : Word).toNat
      ∧ (ask ready 1 0x13 w).Takes 1 0x13 (req 0x13 w) ∧ (ready.rights 1).administer = false
      ∧ (ask ready 0 0x13 [0]).HasHead 0 (req 0x13 [0]) ∧ (req 0x13 [0]).words.length ≠ 4 := by
  decide

/-! ## Witnesses: receptions -/

/-- Digits of 17 characters, one above the maximum, against a default route without destinations. -/
theorem witness_OpenReception :
    let called := List.replicate 17 (0x39 : Byte)
    let w : List Word := 300 :: 9 :: (countedString called ++ countedString [0x30])
    let s := ask ready 1 0x20 w
    s.Takes 1 0x20 (req 0x20 w) ∧ (s.rights 1).intake = true ∧ (∀ c ∈ called, 0x30 ≤ c.toNat ∧ c.toNat ≤ 0x39)
      ∧ s.held = false ∧ s.context 0 = none ∧ (s.document 0).state = .free
      ∧ ((after (.openReception 1) s).document 0).calledDigits.length = 16
      ∧ ((after (.openReception 1) s).document 0).lineId = 255
      ∧ ((after (.openReception 1) s).context 0).any (fun c => decide (c.reservation = 64 ∧ c.profile = 7)) = true := by
  decide

/-- A part with every context taken. -/
def contextsTaken : State :=
  { ready with iu := ⟨⟨(List.range 64).map (fun n => (n, some (context0 .betweenPages none)))⟩⟩ }

/-- A part with every document record taken. -/
def recordsTaken : State :=
  { ready with dt := { ready.dt with documents := ⟨(List.range 4096).map (fun i => (i, docWith .done []))⟩ } }

set_option maxRecDepth 4000 in
/-- Refused: without INTAKE, a digit that is none, intake held, no FREE context, and no FREE record. -/
theorem witness_OpenReception_refused :
    let w (c : Byte) : List Word := 0 :: 0 :: (countedString [c] ++ countedString [])
    let held : State := { ready with bsm := { ready.bsm with adminHold := true } }
    (ask ready 2 0x20 (w 0x30)).Takes 2 0x20 (req 0x20 (w 0x30)) ∧ (ready.rights 2).intake = false
      ∧ (ask ready 1 0x20 (w 0x3A)).Takes 1 0x20 (req 0x20 (w 0x3A)) ∧ (ready.rights 1).intake = true
      ∧ (ask held 1 0x20 (w 0x39)).Takes 1 0x20 (req 0x20 (w 0x39)) ∧ held.held = true
      ∧ (ask contextsTaken 1 0x20 (w 0x30)).Takes 1 0x20 (req 0x20 (w 0x30))
      ∧ (∀ n, n < 64 → contextsTaken.context n ≠ none) ∧ contextsTaken.held = false
      ∧ (ask recordsTaken 1 0x20 (w 0x30)).Takes 1 0x20 (req 0x20 (w 0x30)) ∧ recordsTaken.context 0 = none
      ∧ recordsTaken.held = false := by
  decide

theorem witness_OpenReception_full_table (i : Nat) (h : i < 4096) : (recordsTaken.document i).state ≠ .free := by
  have hc (k : Nat) : k < 4096 → ((⟨(List.range 4096).map (fun i => (i, docWith .done []))⟩ : Table Document).read
      Document.free k).state ≠ .free := by
    generalize 4096 = m
    intro hk
    rcases Table.read_cases Document.free ⟨(List.range m).map (fun i => (i, docWith .done []))⟩ k with ⟨-, hn⟩ | hm
    · exact absurd rfl (hn (k, docWith .done []) (List.mem_map_of_mem (List.mem_range.2 hk)))
    · obtain ⟨_, -, e⟩ := List.mem_map.1 hm
      rw [← (Prod.mk.inj e).2]
      decide
  exact hc i h

/-- 21 characters, one above the maximum. -/
theorem witness_SetSender :
    let w : List Word := handle0 :: countedString (List.replicate 21 0x41)
    let s := ask (receiving .betweenPages none []) 0 0x21 w
    s.Takes 0 0x21 (req 0x21 w) ∧ (s.rights 0).intake = true
      ∧ s.Receives 0 (decodeHandle handle0) 0 (context0 .betweenPages none)
      ∧ ((after (.setSender 0) s).document 0).sender.length = 20 := by
  decide

set_option maxRecDepth 20000 in
/-- Each clause: INTAKE_ACTIVE, a page open and stopped, 255 pages, a full engine, a page open, and between pages with page
record 0 FREE. -/
theorem witness_PageData :
    let s (st : ContextState) (page : Option OpenPage) (jobs : List Job) := ask (receiving st page jobs) 0 0x22 [handle0, 0x100]
    let r := req 0x22 [handle0, 0x100]
    let stopped : OpenPage := { openPage0 with flags := ⟨none, true, false, false⟩ }
    let long := (s .betweenPages none []).setDocument 0 { docWith .receiving [] with pages := List.range 255 }
    (s .intakeActive (some openPage0) []).Takes 0 0x22 r ∧ ((s .betweenPages none []).rights 0).intake = true
      ∧ (s .intakeActive (some openPage0) []).Receives 0 (decodeHandle handle0) 0 (context0 .intakeActive (some openPage0))
      ∧ (s .pageOpen (some stopped) []).Receives 0 (decodeHandle handle0) 0 (context0 .pageOpen (some stopped))
      ∧ stopped.flags.framingError = true ∧ long.Takes 0 0x22 r
      ∧ long.Receives 0 (decodeHandle handle0) 0 (context0 .betweenPages none) ∧ 255 ≤ (long.document 0).pages.length
      ∧ (s .pageOpen (some openPage0) (List.replicate 32 delivery0)).Takes 0 0x22 r
      ∧ 32 ≤ (s .pageOpen (some openPage0) (List.replicate 32 delivery0)).te.jobs.length
      ∧ (s .pageOpen (some openPage0) []).Receives 0 (decodeHandle handle0) 0 (context0 .pageOpen (some openPage0))
      ∧ openPage0.flags.truncated = none ∧ openPage0.flags.framingError = false
      ∧ (s .betweenPages none []).Receives 0 (decodeHandle handle0) 0 (context0 .betweenPages none)
      ∧ (s .betweenPages none []).page 0 = none := by
  decide

/-- Every page record is taken. -/
def pagesTaken : State :=
  let s := ask (receiving .betweenPages none []) 0 0x22 [handle0, 0x100]
  { s with dt := { s.dt with pages := ⟨(List.range 32768).map (fun i => (i, some page1))⟩ } }

theorem witness_PageData_no_record (p : Nat) (h : p < 32768) : pagesTaken.page p ≠ none := by
  have hc (k : Nat) : k < 32768 → (⟨(List.range 32768).map (fun i => (i, some page1))⟩ : Table (Option PageRecord)).read none k ≠ none := by
    generalize 32768 = m
    intro hk
    rcases Table.read_cases none ⟨(List.range m).map (fun i => (i, some page1))⟩ k with ⟨-, hn⟩ | hm
    · exact absurd rfl (hn (k, some page1) (List.mem_map_of_mem (List.mem_range.2 hk)))
    · obtain ⟨_, -, e⟩ := List.mem_map.1 hm
      rw [← (Prod.mk.inj e).2]
      decide
  exact hc p h

set_option maxRecDepth 4000 in
/-- No FREE page record, and a full engine between pages. -/
theorem witness_PageData_between :
    let s := ask (receiving .betweenPages none (List.replicate 32 delivery0)) 0 0x22 [handle0, 0x100]
    pagesTaken.Takes 0 0x22 (req 0x22 [handle0, 0x100])
      ∧ pagesTaken.Receives 0 (decodeHandle handle0) 0 (context0 .betweenPages none)
      ∧ (pagesTaken.document 0).pages.length < 255 ∧ s.Takes 0 0x22 (req 0x22 [handle0, 0x100])
      ∧ s.Receives 0 (decodeHandle handle0) 0 (context0 .betweenPages none) ∧ s.page 0 = none ∧ 32 ≤ s.te.jobs.length := by
  decide

theorem test_PAGE_DATA_opens_a_page :
    let t := after (.pageData 0) (ask (receiving .betweenPages none []) 0 0x22 [handle0, 0x100])
    t.te.jobs.length = 1 ∧ t.te.request = some ⟨3, .fair⟩ ∧ t.page 0 = some PageRecord.opened ∧ (t.station 0).reserved = 1 := by
  decide

/-- A page committed (its accept limit raised to 500), and one POOR under action DROP. -/
theorem witness_PageEnd :
    let s := ask (receiving .pageOpen (some openPage0) []) 0 0x23 [handle0]
    let c := context0 .pageOpen (some openPage0)
    let a : Acceptance := ⟨500, 1, 2, .drop, 3⟩
    let u := s.setContext 0 (some { c with snapshot := some a })
    s.Takes 0 0x23 (req 0x23 [handle0]) ∧ (s.rights 0).intake = true ∧ s.Receives 0 (decodeHandle handle0) 0 c
      ∧ c.state = .pageOpen ∧ c.openPage = some openPage0 ∧ c.snapshot = some Profile.powerOn.acceptance
      ∧ u.Takes 0 0x23 (req 0x23 [handle0]) ∧ u.Receives 0 (decodeHandle handle0) 0 { c with snapshot := some a }
      ∧ ((after (.pageEnd 0) u).document 0).pages = [9]
      ∧ (pageAction a 0 (verdict a openPage0.counts openPage0.storedBytes)).1 = .committed := by
  decide

/-- INTAKE_ACTIVE, and BETWEEN_PAGES; and a page that is dropped. -/
theorem witness_PageEnd_refused :
    let s := ask (receiving .intakeActive (some openPage0) []) 0 0x23 [handle0]
    let u := ask (receiving .betweenPages none []) 0 0x23 [handle0]
    s.Takes 0 0x23 (req 0x23 [handle0]) ∧ s.Receives 0 (decodeHandle handle0) 0 (context0 .intakeActive (some openPage0))
      ∧ u.Takes 0 0x23 (req 0x23 [handle0]) ∧ u.Receives 0 (decodeHandle handle0) 0 (context0 .betweenPages none)
      ∧ (u.rights 0).intake = true := by
  decide

/-- A record under way at 32,767 lines and at one fewer; no line, no BAD line, all BAD, and one line of 1,001 that is not: Q is
1,000 for both of the last (log 41). -/
theorem witness_PageEnd_judged :
    (⟨0, 0, 0, 0, 0⟩ : Counts).bad ≤ 0 ∧ quality ⟨1, 0, 0, 0, 0⟩ = 0 ∧ quality ⟨12, 12, 0, 12, 12⟩ = 1000
      ∧ quality ⟨1001, 1000, 0, 0, 0⟩ = 1000 ∧ openPage0.flags.truncated = none ∧ openPage0.flags.framingError = false
      ∧ (openPage0.dropPartial (.assembling [4])).counts.bad = 2
      ∧ ({ openPage0 with counts := ⟨32767, 0, 0, 0, 0⟩ } : OpenPage).dropPartial (.assembling [4])
        = { openPage0 with counts := ⟨32767, 0, 0, 0, 0⟩, flags := ⟨some .lineLimit, false, true, false⟩ }
      ∧ pageAction Profile.powerOn.acceptance 3 .poor = (.committed, true)
      ∧ pageAction Profile.powerOn.acceptance 2 .poor = (.dropped, false) := by
  decide

theorem test_PAGE_END_drops_a_poor_page :
    let s := ask (receiving .pageOpen (some { openPage0 with counts := ⟨16, 16, 0, 16, 16⟩ }) []) 0 0x23 [handle0]
    ((after (.pageEnd 0) s).document 0).pages = [] ∧ (after (.pageEnd 0) s).bsm.freeTop = [4]
      ∧ ((after (.pageEnd 0) s).context 0).any (fun c => decide (c.dropCounter = 1)) = true := by
  decide

/-- INTAKE_ACTIVE, no committed page, and one committed page. -/
theorem witness_EndReception :
    let s := ask (receiving .betweenPages none []) 0 0x24 [handle0, 0]
    let u := ask (receiving .intakeActive (some openPage0) []) 0 0x24 [handle0, 0]
    let v := s.setDocument 0 (docWith .receiving [(1, some (entryIn .waiting 0))])
    s.Takes 0 0x24 (req 0x24 [handle0, 0]) ∧ (s.rights 0).intake = true
      ∧ s.Receives 0 (decodeHandle handle0) 0 (context0 .betweenPages none) ∧ (s.document 0).pages = []
      ∧ u.Takes 0 0x24 (req 0x24 [handle0, 0])
      ∧ u.Receives 0 (decodeHandle handle0) 0 (context0 .intakeActive (some openPage0)) ∧ v.Takes 0 0x24 (req 0x24 [handle0, 0])
      ∧ v.Receives 0 (decodeHandle handle0) 0 (context0 .betweenPages none) ∧ (v.document 0).pages ≠ []
      ∧ ((after (.endReception 0) v).document 0).state = .unrouted := by
  decide

set_option maxRecDepth 20000 in
/-- A document that completes: entries of an OPEN, a PAUSED and two CLOSED destinations, with a usable fallback and without one; and
one whose fallback the document has an entry for. -/
theorem witness_EndReception_entries :
    let s (f : Option Nat) := ask (completing f) 0 0x24 [handle0, 1]
    (s (some 3)).Takes 0 0x24 (req 0x24 [handle0, 1]) ∧ (s none).Takes 0 0x24 (req 0x24 [handle0, 1])
      ∧ (s (some 1)).Takes 0 0x24 (req 0x24 [handle0, 1])
      ∧ (s (some 3)).Receives 0 (decodeHandle handle0) 0 (context0 .betweenPages none)
      ∧ ((s (some 3)).document 0).entryList.length = 4 ∧ (s (some 3)).usableFallback = some 3 ∧ (s none).usableFallback = none
      ∧ (s (some 1)).usableFallback = some 1 ∧ (∀ y ∈ ((s (some 3)).document 0).entryList, y.2.destination ≠ 3)
      ∧ ((s none).destination 1).accepting = true ∧ ((s none).destination 4).accepting = false
      ∧ ((s none).destination 1).queue = [] ∧ ((s none).destination 1).bound = some 2 :=
  ⟨by decide, by decide, by decide, by decide, by decide, by decide, by decide, by decide, by decide, by decide, by decide,
    by decide, by decide⟩

set_option maxRecDepth 20000 in
/-- R36, R113: QUEUED where the destination is OPEN or PAUSED, the lowest other entry the fallback's, the next one WITHDRAWN; the
entries join their queues and WORK is set at the bound slot. -/
theorem test_END_RECEPTION_rechecks :
    let t := after (.endReception 0) (ask (completing (some 3)) 0 0x24 [handle0, 1])
    (t.document 0).entryList.map (fun y => (y.1, y.2.destination, y.2.original, y.2.state))
        = [(1, 1, none, .queued), (2, 3, some 4, .queued), (3, 5, none, .withdrawn), (4, 6, none, .queued)]
      ∧ (t.destination 1).queue = [⟨⟨0, 1⟩, 1⟩] ∧ (t.destination 3).queue = [⟨⟨0, 1⟩, 2⟩] ∧ (t.destination 6).queue = [⟨⟨0, 1⟩, 4⟩]
      ∧ (t.station 2).work = true ∧ (t.document 0).state = .queued ∧ (t.document 0).incomplete = true
      ∧ (t.station 0).replies = [⟨.ok, 0x24, 5, [1, 3, 1]⟩] :=
  ⟨by decide, by decide, by decide, by decide, by decide, by decide, by decide, by decide⟩

/-- A document that completes with no entry QUEUED, nothing returning to the store, and an ADMINISTER slot with room. -/
theorem witness_EndReception_unrouted :
    let c := { context0 .betweenPages none with reservation := 0 }
    let s := (ask (receiving .betweenPages none []) 0 0x24 [handle0, 0]).setContext 0 (some c)
    let v := s.setDocument 0 (docWith .receiving [(1, some (entryIn .waiting 0))])
    v.Takes 0 0x24 (req 0x24 [handle0, 0]) ∧ v.Receives 0 (decodeHandle handle0) 0 c ∧ (v.document 0).pages ≠ []
      ∧ ((after (.endReception 0) v).document 0).state = .unrouted ∧ c.openPage = none ∧ v.bsm.storeTest = v.bsm.storeHold
      ∧ v.spu.underReset = [] ∧ (v.rights 3).administer = true ∧ (v.taken 0).replyRoom 3 = true
      ∧ ((after (.endReception 0) v).station 3).replies = [⟨.unroutedDoc, 0, 0xFFFF, [handle0, 1, 0, 0, 1]⟩] := by
  decide

set_option maxRecDepth 4000 in
/-- By the opening slot, and by another slot holding ADMINISTER. -/
theorem witness_AbortReception :
    let s (slot : Nat) := ask (receiving .intakeActive (some openPage0) [intake0]) slot 0x25 [handle0]
    let c := context0 .intakeActive (some openPage0)
    (s 0).Takes 0 0x25 (req 0x25 [handle0]) ∧ (s 3).Takes 3 0x25 (req 0x25 [handle0]) ∧ ((s 0).rights 0).intake = true
      ∧ ((s 0).document 0).openingSlot = some 0 ∧ ((s 3).rights 3).administer = true
      ∧ (decodeHandle handle0).generation = ((s 3).document 0).generation ∧ ((s 3).document 0).state = .receiving
      ∧ (s 3).contextOf (decodeHandle handle0) = some 0 ∧ (s 3).context 0 = some c ∧ c.handle.index = 0
      ∧ (ask (receiving .betweenPages none []) 3 0x25 [handle0]).te.jobs = [] ∧ (after (.abortReception 3) (s 3)).te.jobs = [] := by
  decide

/-- Profile 7, every field above its range. -/
theorem witness_Profiles :
    let w : List Word := [7, 1001, 1001, 1001, 2, 8, 601]
    (ask ready 0 0x26 w).Takes 0 0x26 (req 0x26 w) ∧ (ready.rights 0).administer = true
      ∧ (after (.setProfile 0) (ask ready 0 0x26 w)).profile 7 = ⟨⟨1000, 1000, 1000, .drop, 7⟩, 600⟩
      ∧ (ask ready 1 0x27 [7]).Takes 1 0x27 (req 0x27 [7]) ∧ (ready.rights 1).any = true
      ∧ (ask ready 1 0x26 w).Takes 1 0x26 (req 0x26 w) ∧ (ready.rights 1).administer = false
      ∧ (ask ready 15 0x27 [7]).Takes 15 0x27 (req 0x27 [7]) ∧ (ready.rights 15).any = false
      ∧ (ask ready 0 0x26 []).HasHead 0 (req 0x26 []) ∧ (ask ready 0 0x27 []).HasHead 0 (req 0x27 []) := by
  decide

/-- R48: a BAD record after a run of 1, and a REPAIRED one, which sets the run to 0. -/
theorem test_record_counts :
    let c (w : Word) := ((ready.storeRecord 0 (context0 .pageOpen (some openPage0)) openPage0 [w]).1.context 0).bind (fun x => x.openPage)
    ((c 0x00020000).map (fun p => p.counts)) = some ⟨3, 2, 0, 2, 2⟩ ∧ ((c 0x00010000).map (fun p => p.counts)) = some ⟨3, 1, 1, 0, 1⟩ := by
  decide

/-- A GOOD record that fills the last block to its end. -/
theorem witness_RecordStored :
    let p : OpenPage := { openPage0 with storedBytes := 4088, counts := ⟨32766, 0, 0, 0, 0⟩ }
    let ws : List Word := [0x00000004, 0x44434241]
    p.blocks.Nodup ∧ p.counts.lines < 32767 ∧ ws ≠ [] ∧ p.storedBytes + 4 * ws.length ≤ 4096 * p.blocks.length
      ∧ ((ready.storeRecord 0 (context0 .pageOpen (some p)) p ws).1.bsm.readByte 20476) = 0x41 := by
  decide

/-- The parser: STOPPED, header lengths 4,093, 0, 1 and 4,092, and the last and the last but one word of a record. -/
theorem witness_RecordStored_parser :
    let c (q : Parser) := { context0 .intakeActive (some openPage0) with parser := q }
    let s (q : Parser) := ready.setContext 0 (some (c q))
    (s .stopped).context 0 = some (c .stopped) ∧ (c .empty).openPage = some openPage0 ∧ (0x00020FFD : Word).toNat % 65536 = 4093
      ∧ (0x00030000 : Word).toNat % 65536 = 0 ∧ (0x00000FFC : Word).toNat % 65536 = 4092 ∧ 1 + ((4 : Word).toNat % 65536 + 3) / 4 = 2
      ∧ (c (.assembling [5])).parser = .assembling (5 :: []) ∧ 1 + ((5 : Word).toNat % 65536 + 3) / 4 = 3
      ∧ ((s .empty).parseWord 0 0x00020FFD).1.context 0 = some { c .stopped with
          openPage := some { openPage0 with flags := ⟨none, true, false, false⟩ } }
      ∧ (((s (.assembling [4])).parseWord 0 9).1.context 0).any (fun x => decide (x.parser = .empty)) = true := by
  decide

set_option maxRecDepth 20000 in
/-- A record at 32,767 lines; one for a page of 256 full blocks; a block refused at the floor; and block 5 on top of the stack,
taken from the pool and from a reservation. -/
theorem witness_RecordStored_new_block :
    let p : OpenPage := { openPage0 with storedBytes := 4092 }
    let big : OpenPage := { openPage0 with blocks := (List.range 256).map (Fin.ofNat 131072), storedBytes := 1048576 }
    let c := { context0 .intakeActive (some p) with reservation := 0 }
    let s : State := { ready with bsm := { ready.bsm with freeTop := [5], fresh := 131072, floor := 0 } }
    let u : State := { s with bsm := { s.bsm with floor := 1 } }
    ({ openPage0 with counts := ⟨32767, 0, 0, 0, 0⟩ } : OpenPage).counts.lines = 32767 ∧ big.blocks.Nodup
      ∧ 256 ≤ big.blocks.length ∧ big.storedBytes ≤ 4096 * big.blocks.length ∧ p.blocks.Nodup
      ∧ 4096 * p.blocks.length < p.storedBytes + 4 * 2 ∧ p.storedBytes + 4 * 1 ≤ 4096 * p.blocks.length
      ∧ u.bsm.available ≤ u.bsm.floor ∧ s.bsm.floor < s.bsm.available ∧ s.bsm.stack = (5 : Block).val :: [] ∧ (5 : Block) ∉ p.blocks
      ∧ (u.storeRecord 0 c p [4, 7]).2 = true ∧ (s.storeRecord 0 c p [4, 7]).1.bsm.link 4 = some 5
      ∧ (s.storeRecord 0 c p [4, 7]).1.bsm.readByte 20480 = 7 := by
  decide

set_option maxRecDepth 4000 in
/-- A READY part with four slots in use keeps the three promises. -/
theorem witness_PromisesKept : ready.Canonical ∧ ready.PortsSound ∧ ready.StoreSound ∧ ready.QueuesSound := by
  have hs (P : Nat → Station → Prop) (hd : ∀ n, P n Station.unused) (h : ∀ c ∈ ready.spu.stations.cells, P c.1 c.2) (n : Nat) :
      P n (ready.station n) := Table.read_forall _ _ hd h n
  have hq (n : Nat) : (ready.station n).requests = [] ∧ (ready.station n).replies = [] ∧ (ready.station n).assembly = none
      ∧ (ready.station n).latch = none ∧ (ready.station n).reserved = 0 :=
    hs (fun _ x => x.requests = [] ∧ x.replies = [] ∧ x.assembly = none ∧ x.latch = none ∧ x.reserved = 0)
      (fun _ => by decide) (by decide) n
  have hd (i : Nat) : ready.document i = Document.free := rfl
  have he (i p : Nat) : (ready.document i).entry p = none := rfl
  have hx (d : Nat) : ready.destination d = Destination.powerOn := rfl
  refine ⟨by decide, ?_, ?_, ?_⟩
  · refine ⟨fun n _ => by simp [hq], fun n => by simp [hq, bit], fun _ n _ => by simp [hq]; rfl, fun n k h => ?_, fun n r h => ?_,
      fun n r h => ?_, ⟨by decide, fun n => Nat.zero_le _, fun j h => ?_⟩, fun h => ?_, fun n h => ⟨?_, (hq n).1⟩⟩
    · simp [hq] at h
    · simp [hq] at h
    · simp [hq] at h
    · cases h
    · cases h
    · exact hs (fun n x => 16 ≤ n → x.rights.any = false) (fun _ _ => rfl) (by decide) n h
  · refine ⟨fun c h => ?_, fun n c h => ?_, fun i _ => rfl, by decide, fun q h => ?_, fun p h => ?_, ?_, fun _ => ?_, fun _ => ⟨rfl, by decide⟩⟩
    · cases h
    · cases h
    · cases h
    · cases h
    · show (List.range' 0 131072 ++ []).Nodup
      simpa using List.nodup_range'
    · show (List.range' 0 131072 ++ []).Perm (List.range 131072)
      simp [List.range_eq_range']
  · refine ⟨fun n c h => ?_, fun n m c c' h => ?_, fun i p e h => ?_, fun i p q e f h => ?_, fun d i g p => ?_, fun d i g p => ?_,
      fun d => ?_, fun d i g p k => ?_, fun d => ?_, fun d _ => ⟨rfl, rfl⟩, fun d h => ?_⟩
    · cases h
    · cases h
    · cases h
    · cases h
    · simp [hx, State.HasEntry, he, Destination.powerOn]
    · simp [hx, State.HasEntry, he, Destination.powerOn]
    · exact List.nodup_nil
    · simp [hx, State.HasEntry, he, Destination.powerOn]
    · exact List.nodup_nil
    · cases h

/-! ## Witnesses: the document table -/

/-- Parts 0 to 4, part 11 and the reserved part 12. -/
theorem witness_DocInfo :
    let s (w : Word) := ask queued 3 0x30 [handle0, w]
    (s 0).Takes 3 0x30 (req 0x30 [handle0, 0]) ∧ (s 12).Takes 3 0x30 (req 0x30 [handle0, 12]) ∧ ((s 0).rights 3).administer = true
      ∧ (decodeHandle handle0).generation = ((s 0).document 0).generation ∧ (s 1).Takes 3 0x30 (req 0x30 [handle0, 1])
      ∧ (s 2).Takes 3 0x30 (req 0x30 [handle0, 2]) ∧ (s 3).Takes 3 0x30 (req 0x30 [handle0, 3])
      ∧ (s 4).Takes 3 0x30 (req 0x30 [handle0, 4]) ∧ ((s 4).document 0).entry 1 = some (entryIn .queued 0)
      ∧ (s 11).Takes 3 0x30 (req 0x30 [handle0, 11]) ∧ ((s 11).document 0).entry 8 = none
      ∧ ((after (.docInfo 3) (s 4)).station 3).replies = [⟨.ok, 0x30, 5, [4, 2, 1, absentWord, 0, 0, absentWord, absentWord, absentWord]⟩] := by
  decide

/-- A confidential document with an entry for destination 1 and one for destination 2. -/
def secret : Document :=
  { docWith .queued [(1, some (entryIn .queued 0)), (8, some { entryIn .queued 0 with destination := 2 })] with
    confidential := true, callerNumber := [0x31] }

/-- DOC_INFO of that document by slot 2, to which destination 1 is bound. -/
def viewing (part : Word) : State := ask (queued.setDocument 0 secret) 2 0x30 [handle0, part]

/-- DOC_INFO of a document without entries. -/
def viewingNone : State := ask (queued.setDocument 0 (docWith .queued [])) 2 0x30 [handle0, 0]

/-- Parts 1, 2, 3, the first and the last entry; and a document without an entry for a destination of the viewer. -/
theorem witness_DeliveryView : (viewing 1).Takes 2 0x30 (req 0x30 [handle0, 1]) ∧ (viewing 2).Takes 2 0x30 (req 0x30 [handle0, 2])
    ∧ (viewing 3).Takes 2 0x30 (req 0x30 [handle0, 3]) ∧ (viewing 4).Takes 2 0x30 (req 0x30 [handle0, 4])
    ∧ (viewing 11).Takes 2 0x30 (req 0x30 [handle0, 11]) ∧ ((viewing 1).rights 2).administer = false
    ∧ ((viewing 1).rights 2).deliver = true ∧ (decodeHandle handle0).generation = ((viewing 1).document 0).generation
    ∧ (∃ x ∈ ((viewing 1).document 0).entryList, ((viewing 1).destination x.2.destination).bound = some 2)
    ∧ secret.confidential = true ∧ secret.entry 8 = some { entryIn .queued 0 with destination := 2 }
    ∧ secret.entry 1 = some (entryIn .queued 0) ∧ ((viewing 1).destination 2).bound ≠ some 2 := by
  decide

/-- Part 0, and the reserved part 12. -/
theorem witness_DeliveryView_summary : (viewing 0).Takes 2 0x30 (req 0x30 [handle0, 0])
    ∧ (viewing 12).Takes 2 0x30 (req 0x30 [handle0, 12])
    ∧ (∃ x ∈ ((viewing 0).document 0).entryList, ((viewing 0).destination x.2.destination).bound = some 2)
    ∧ ((after (.docInfo 2) (viewing 0)).station 2).replies = [⟨.ok, 0x30, 5,
        [0, 2, 0, 0, absentWord, 0, absentWord, 1, absentWord, 0, 1, 1, 1, 1, 0]⟩] := by
  decide

theorem witness_DeliveryView_none : viewingNone.Takes 2 0x30 (req 0x30 [handle0, 0])
    ∧ (∀ x ∈ (viewingNone.document 0).entryList, (viewingNone.destination x.2.destination).bound ≠ some 2) := by
  decide

/-- Page 0, page 1 of one, page 2. -/
theorem witness_PageInfo :
    let s (slot : Nat) (w : Word) := ask queued slot 0x31 [handle0, w]
    (s 3 0).Takes 3 0x31 (req 0x31 [handle0, 0]) ∧ (s 3 2).Takes 3 0x31 (req 0x31 [handle0, 2])
      ∧ ((s 3 0).document 0).pages.length < (2 : Word).toNat ∧ (s 2 1).Takes 2 0x31 (req 0x31 [handle0, 1])
      ∧ ((s 2 1).document 0).pages[(1 : Word).toNat - 1]? = some 7 ∧ (s 2 1).page 7 = some page1
      ∧ ((s 2 1).rights 2).deliver = true ∧ (∃ x ∈ ((s 2 1).document 0).entryList, ((s 2 1).destination x.2.destination).bound = some 2)
      ∧ (decodeHandle handle0).generation = ((s 2 1).document 0).generation
      ∧ ((after (.pageInfo 2) (s 2 1)).station 2).replies = [⟨.ok, 0x31, 5, [1, 3, 1, 32, 4, 0, 0, 0, 0, 2, 0]⟩] := by
  decide

/-- All four fields replaced; a DONE document whose new class makes it due at this millisecond; a delivery viewer. -/
theorem witness_SetDocAttr :
    let w : List Word := handle0 :: 1 :: 0 :: 7 :: 1 :: countedString (List.replicate 17 0x41)
    let s := ask queued 3 0x32 w
    let d : Document := { docWith .done [] with settleTime := some 100, retentionDeadline := some 9999, legalHold := true }
    let u := atTime (ask (holding d) 3 0x32 w) 100
    let v := ask queued 2 0x32 w
    s.Takes 3 0x32 (req 0x32 w) ∧ u.Takes 3 0x32 (req 0x32 w) ∧ v.Takes 2 0x32 (req 0x32 w) ∧ (s.document 0).state = .queued
      ∧ (decodeHandle handle0).generation = (s.document 0).generation ∧ (u.document 0).state = .done
      ∧ (u.document 0).outstandingSet = [] ∧ u.activeJobs 0 = 0 ∧ 100 + 60000 * u.retentionMinutes 7 ≤ u.tb.uptime
      ∧ ((after (.setDocAttr 3) u).document 0).state = .free ∧ ((after (.setDocAttr 3) s).document 0).retentionClass = 7
      ∧ ((after (.setDocAttr 3) s).document 0).matter.length = 16 ∧ (v.rights 2).administer = false ∧ (v.rights 2).deliver = true
      ∧ (∃ x ∈ (v.document 0).entryList, (v.destination x.2.destination).bound = some 2) := by
  decide

/-- A FREE and a PURGE_PENDING document, named by an ADMINISTER station and by a delivery viewer. -/
theorem witness_SetDocAttr_refused :
    let w : List Word := handle0 :: 1 :: 0 :: 7 :: 1 :: countedString [0x41]
    let s (st : DocState) := holding (docWith st [])
    let v := queued.setDocument 0 (docWith .purgePending [(1, some (entryIn .withdrawn 1))])
    (ask (s .free) 3 0x32 w).Takes 3 0x32 (req 0x32 w) ∧ (ready.rights 3).administer = true ∧ ((s .free).document 0).state = .free
      ∧ ((s .free).document 0).generation = 1 ∧ (ask v 2 0x32 w).Takes 2 0x32 (req 0x32 w)
      ∧ (∃ x ∈ (v.document 0).entryList, (v.destination x.2.destination).bound = some 2) := by
  decide

/-- A PURGE of the queued document. -/
def purgeQueued : State := ask queued 0 0x33 [handle0]

/-- A PURGE of the document while a delivery job reads it. -/
def purgeRunning : State := ask (running checkedOut delivery0 ⟨.fetch, 0x100, 16, []⟩) 0 0x33 [handle0]

/-- A QUEUED entry, a CHECKED_OUT entry with a job in the engine, and legal hold. -/
theorem witness_Purge :
    purgeQueued.Takes 0 0x33 (req 0x33 [handle0]) ∧ (purgeQueued.rights 0).administer = true
      ∧ (decodeHandle handle0).generation = (purgeQueued.document 0).generation ∧ (purgeQueued.document 0).state = .queued
      ∧ (purgeQueued.document 0).legalHold = false ∧ purgeQueued.te.jobs = []
      ∧ (purgeQueued.document 0).entry 1 = some (entryIn .queued 0) ∧ purgeRunning.Takes 0 0x33 (req 0x33 [handle0])
      ∧ (purgeRunning.document 0).entry 1 = some (entryIn .checkedOut 1)
      ∧ (ask (holding { docWith .done [] with legalHold := true }) 0 0x33 [handle0]).Takes 0 0x33 (req 0x33 [handle0]) := by
  decide

set_option maxRecDepth 4000 in
/-- A FREE and a PURGE_PENDING document; and a checkout at a DRAINING destination whose job's burst is under way. -/
theorem witness_Purge_others :
    let s (st : DocState) := ask (holding (docWith st [])) 0 0x33 [handle0]
    let u := ask (running (checkedOutOfTwo .draining 1) { delivery0 with current := some region64 } ⟨.deliveryWrite, 0x2000, 48, []⟩) 0
      0x33 [handle0]
    (s .free).Takes 0 0x33 (req 0x33 [handle0]) ∧ ((s .free).document 0).state = .free
      ∧ (s .purgePending).Takes 0 0x33 (req 0x33 [handle0]) ∧ ((s .purgePending).document 0).state = .purgePending
      ∧ u.Takes 0 0x33 (req 0x33 [handle0]) ∧ (u.destination 1).state = .draining
      ∧ ((after (.purge 0) u).destination 1).state = .closed ∧ ((after (.purge 0) u).document 0).state = .purgePending := by
  decide

/-- A PURGE of a document whose reception is INTAKE_ACTIVE, with its job and without; and one under legal hold. -/
theorem witness_Purge_receiving :
    let c := context0 .intakeActive (some openPage0)
    let s (jobs : List Job) := ask (receiving .intakeActive (some openPage0) jobs) 0 0x33 [handle0]
    (s [intake0]).Takes 0 0x33 (req 0x33 [handle0]) ∧ ((s []).rights 0).administer = true
      ∧ (decodeHandle handle0).generation = ((s []).document 0).generation ∧ ((s []).document 0).state = .receiving
      ∧ ((s []).document 0).legalHold = false ∧ (s []).contextOf (decodeHandle handle0) = some 0 ∧ (s []).context 0 = some c
      ∧ c.handle.index = 0 ∧ (s []).te.jobs = [] ∧ openPage0.record ∉ ((s []).document 0).pages
      ∧ (∀ k ∈ (s [intake0]).te.jobs, k.kind = .intake 0 → k.detached = true → k.cancelled = true)
      ∧ (ask (holding { docWith .receiving [] with legalHold := true }) 0 0x33 [handle0]).Takes 0 0x33 (req 0x33 [handle0]) := by
  decide

set_option maxRecDepth 4000 in
/-- R77, R39: one block of the open page and one WAITING entry; the reply says FREE. -/
theorem test_PURGE_of_a_reception :
    let t := after (.purge 0) (ask (receiving .pageOpen (some openPage0) []) 0 0x33 [handle0])
    (t.station 0).replies = [⟨.ok, 0x33, 5, [0, 1, 1, 0, 0]⟩] ∧ (t.document 0).state = .free ∧ t.context 0 = none := by
  decide

set_option maxRecDepth 4000 in
theorem test_PURGE_frees : ((after (.purge 0) purgeQueued).destination 1).queue = []
    ∧ (after (.purge 0) purgeQueued).bsm.freeTop = [3] := by
  decide

set_option maxRecDepth 4000 in
theorem test_PURGE_waits_for_its_job : ((after (.purge 0) purgeRunning).document 0).state = .purgePending := by decide

/-- The last start index; a destination seen by its bound slot, by ADMINISTER, and by another slot. -/
theorem witness_ListDocsAndDestStatus : (ask queued 0 0x34 [7, 4095]).Takes 0 0x34 (req 0x34 [7, 4095])
    ∧ (ready.rights 0).administer = true ∧ (ask queued 2 0x54 [1]).Takes 2 0x54 (req 0x54 [1]) ∧ (queued.rights 2).any = true
    ∧ (queued.destination 1).bound = some 2 ∧ (ask queued 0 0x54 [32]).Takes 0 0x54 (req 0x54 [32])
    ∧ (ask queued 1 0x54 [1]).Takes 1 0x54 (req 0x54 [1]) ∧ (queued.rights 1).administer = false ∧ (queued.rights 1).any = true
    ∧ (queued.destination 1).bound ≠ some 1 := by
  decide

set_option maxRecDepth 60000 in
theorem test_LIST_DOCS_of_queued : ((after (.listDocs 0) (ask queued 0 0x34 [2, 0])).station 0).replies
    = [⟨.ok, 0x34, 5, [1, 4096, handle0]⟩] := by
  decide

/-! ## Witnesses: routing -/

/-- The part of 05_routing.md's worked case: destinations 3, 9 and 20 OPEN, 14 DRAINING, the fallback 20, the clock SET on day
2 at minute 1,050, and entry 40 for the rest of the area code. -/
def site : State :=
  { ready with
    dqu := ⟨⟨[(3, dest1 .opened [] []), (9, dest1 .opened [] []), (14, dest1 .draining [] []), (20, dest1 .opened [] [])]⟩⟩
    rtu := ⟨⟨[(40, some ⟨[0x34, 0x31, 0x35], ⟨0x00100000, 0, 127, 0, 1439, .normal, 0, false⟩⟩)]⟩, Route.powerOn, some 20, ⟨[]⟩⟩
    tb := ⟨0, ⟨0, 2, 1050, 0, true⟩⟩ }

/-- The words of the worked case's ROUTE_SET of entry 3. -/
def routeWords : List Word := [3, 0x4208, 0x00100200, 0x3E, 480, 1110, 1, 2, 0]

/-- The digits 4155550. -/
def digits7 : List Byte := [0x34, 0x31, 0x35, 0x35, 0x35, 0x35, 0x30]

/-- The worked case's ROUTE_SET. -/
def routeSetting : State := ask site 0 0x40 (routeWords ++ countedString digits7)

/-- 05_routing.md, worked case: the request is 13 words long and the reply reports index 3, EMPTY before, 7 digits, not cut. -/
theorem test_ROUTE_SET_worked_case : (req 0x40 (routeWords ++ countedString digits7)).header.length = 13
    ∧ ((after (.routeSet 0) routeSetting).station 0).replies = [⟨.ok, 0x40, 5, [3, 0, 7, 0, 480, 1110, 2]⟩] := by
  decide

set_option maxRecDepth 4000 in
/-- 05_routing.md, worked case: a call for 4155550123 is routed by entry 3 inside its window, and 20 stands in for 14. -/
theorem test_resolution_worked_case :
    let x := (after (.routeSet 0) routeSetting).resolve (digits7 ++ [0x31, 0x32, 0x33])
    x.source = .entry 3 ∧ x.windowHeld = true ∧ members x.replacement.delivery = [3, 9, 20]
      ∧ x.entries.cells.map (fun c => (c.1, c.2.map (fun e => (e.destination, e.original))))
        = [(1, some (3, none)), (2, some (9, none)), (3, some (20, some 14))] := by
  decide

/-- A free prefix, a prefix that entry 40 holds, and a set of 9 members. -/
theorem witness_RouteSet :
    let w (b : Word) (cs : List Byte) : List Word := [0, b, 0, 0, 0, 0, 0, 0, 0] ++ countedString cs
    routeSetting.Takes 0 0x40 (req 0x40 (routeWords ++ countedString digits7)) ∧ (routeSetting.rights 0).administer = true
      ∧ (∀ c ∈ digits7, 0x30 ≤ c.toNat ∧ c.toNat ≤ 0x39) ∧ site.rtu.routes.WF none
      ∧ (members 0x4208).length ≤ 8 ∧ (members 0x00100200).length ≤ 8 ∧ 8 < (members 0x1FF).length ∧ (members 0xFF).length = 8
      ∧ (ask site 0 0x40 (w 0x1FF digits7)).Takes 0 0x40 (req 0x40 (w 0x1FF digits7))
      ∧ (ask site 0 0x40 (w 0 [0x34, 0x31, 0x35])).Takes 0 0x40 (req 0x40 (w 0 [0x34, 0x31, 0x35]))
      ∧ (site.routeEntry 40).any (fun e => decide (e.digits = [0x34, 0x31, 0x35])) = true := by
  decide

/-- No digit, and a character that is none; for ROUTE_LOOKUP too. -/
theorem witness_RouteSet_refused :
    let w (cs : List Byte) : List Word := [0, 0, 0, 0, 0, 0, 0, 0, 0] ++ countedString cs
    (ask site 0 0x40 (w [])).Takes 0 0x40 (req 0x40 (w [])) ∧ (ask site 0 0x40 (w [0x3A])).Takes 0 0x40 (req 0x40 (w [0x3A]))
      ∧ (∃ c ∈ ([0x3A] : List Byte), c.toNat < 0x30 ∨ 0x39 < c.toNat) ∧ (site.rights 0).administer = true
      ∧ (ask site 0 0x43 (countedString [0x2F])).Takes 0 0x43 (req 0x43 (countedString [0x2F]))
      ∧ (∃ c ∈ ([0x2F] : List Byte), c.toNat < 0x30 ∨ 0x39 < c.toNat) := by
  decide

/-- The last route entry, a default route of 8 and of 9 members, a fallback OPEN, DRAINING, and none, and class 7. -/
theorem witness_RoutingSettings :
    (site.rights 0).administer = true ∧ (ask site 0 0x41 [1023]).Takes 0 0x41 (req 0x41 [1023])
      ∧ (ask site 0 0x44 [0xFF, 0, 0, 0, 0, 0, 0, 0]).Takes 0 0x44 (req 0x44 [0xFF, 0, 0, 0, 0, 0, 0, 0])
      ∧ (ask site 0 0x44 [0x1FF, 0, 0, 0, 0, 0, 0, 0]).Takes 0 0x44 (req 0x44 [0x1FF, 0, 0, 0, 0, 0, 0, 0])
      ∧ (ask site 0 0x45 [32]).Takes 0 0x45 (req 0x45 [32]) ∧ (ask site 0 0x45 [9]).Takes 0 0x45 (req 0x45 [9])
      ∧ (site.destination 9).state = .opened ∧ (ask site 0 0x45 [31]).Takes 0 0x45 (req 0x45 [31])
      ∧ (site.destination 31).state = .closed ∧ (ask site 0 0x35 [7, 65536]).Takes 0 0x35 (req 0x35 [7, 65536])
      ∧ (after (.setRetention 0) (ask site 0 0x35 [7, 65536])).retentionMinutes 7 = 65535 := by
  decide

/-- A VALID entry, the last entry, which is EMPTY, and the default route; a lookup of 17 digits. -/
theorem witness_RouteReads :
    let w := countedString (List.replicate 17 (0x30 : Byte))
    site.rtu.routes.WF none ∧ (site.rights 0).administer = true ∧ (ask site 0 0x42 [40]).Takes 0 0x42 (req 0x42 [40]) ∧ (site.routeEntry 40).isSome = true
      ∧ (ask site 0 0x42 [1023]).Takes 0 0x42 (req 0x42 [1023]) ∧ site.routeEntry 1023 = none
      ∧ (ask site 0 0x42 [1024]).Takes 0 0x42 (req 0x42 [1024]) ∧ (ask site 0 0x43 w).Takes 0 0x43 (req 0x43 w) := by
  decide

/-- A usable fallback that stands in for a closed member, and no usable fallback. -/
theorem witness_RouteResolved : site.rtu.routes.WF none ∧ site.rtu.fallback = some 20 ∧ (site.destination 20).accepting = true
    ∧ member 0x4208 14 = true ∧ (site.destination 14).accepting = false ∧ ready.rtu.routes.WF none ∧ ready.rtu.fallback = none := by
  decide

/-! ## Witnesses: destinations -/

/-- A slot that holds DELIVER, the requester, a slot that does not hold it, and no slot. -/
theorem witness_DestConfig :
    let w (b : Word) : List Word := [31, b, 3601, 0, 17] ++ countedString [0x41]
    (ask ready 0 0x50 (w 2)).Takes 0 0x50 (req 0x50 (w 2)) ∧ (ready.rights 0).administer = true ∧ (ready.rights 2).deliver = true
      ∧ (ask ready 0 0x50 (w 1)).Takes 0 0x50 (req 0x50 (w 1)) ∧ (ready.rights 1).deliver = false
      ∧ (ask ready 0 0x50 (w 16)).Takes 0 0x50 (req 0x50 (w 16)) ∧ (ask ready 0 0x50 (w 0)).Takes 0 0x50 (req 0x50 (w 0))
      ∧ (ready.rights 0).deliver = true
      ∧ (after (.destConfig 0) (ask ready 0 0x50 (w 2))).destination 31
        = ⟨.closed, [0x41], some 2, 3600, 1, 16, [], [], []⟩ := by
  decide

/-- Destination 1 in a state, and a record of slot 0 that names it. -/
def naming (st : DestState) (code : Nat) : State := ask (ready.setDestination 1 (dest1 st [] [])) 0 code [1]

/-- Every state a destination can be in. -/
theorem witness_DestOpenPause : (naming .closed 0x51).Takes 0 0x51 (req 0x51 [1]) ∧ (naming .opened 0x51).Takes 0 0x51 (req 0x51 [1])
    ∧ (naming .draining 0x51).Takes 0 0x51 (req 0x51 [1]) ∧ (naming .opened 0x52).Takes 0 0x52 (req 0x52 [1])
    ∧ (naming .paused 0x52).Takes 0 0x52 (req 0x52 [1]) ∧ (naming .closed 0x52).Takes 0 0x52 (req 0x52 [1])
    ∧ (ready.rights 0).administer = true ∧ ((naming .opened 0x52).destination 1).bound = some 2
    ∧ (naming .opened 0x52).spu.underReset = [] ∧ (naming .opened 0x52).replyRoom 2 = true
    ∧ ((after (.destPause 0) (naming .opened 0x52)).station 2).replies = [⟨.destState, 0, 0xFFFF, [1, 2, 1, 0, 0]⟩] := by
  decide

/-- The requester is the bound slot; and a destination bound to no slot. -/
theorem witness_DestOpenPause_own :
    let s (b : Option Nat) := ask (ready.setDestination 1 { dest1 .closed [] [] with bound := b }) 0 0x51 [1]
    (s (some 0)).Takes 0 0x51 (req 0x51 [1]) ∧ ((s (some 0)).destination 1).bound = some 0 ∧ (s (some 0)).spu.underReset = []
      ∧ ((s (some 0)).taken 0).replyRoom 0 = true ∧ (s none).Takes 0 0x51 (req 0x51 [1]) ∧ ((s none).destination 1).bound = none
      ∧ ((after (.destOpen 0) (s (some 0))).station 0).replies = [⟨.destState, 0, 0xFFFF, [1, 1, 0, 0, 0]⟩, ⟨.ok, 0x51, 5, [1, 0, 1]⟩] := by
  decide

/-- A CLOSED destination, the fallback, and an OPEN one with an entry in its queue. -/
theorem witness_DestClose : (naming .closed 0x53).Takes 0 0x53 (req 0x53 [1]) ∧ (naming .closed 0x53).rtu.fallback ≠ some 1
    ∧ (ask site 0 0x53 [20]).Takes 0 0x53 (req 0x53 [20]) ∧ site.rtu.fallback = some 20
    ∧ (ask queued 0 0x53 [1]).Takes 0 0x53 (req 0x53 [1]) ∧ (queued.destination 1).state = .opened ∧ queued.usableFallback = none := by
  decide

set_option maxRecDepth 4000 in
theorem test_DEST_CLOSE_withdraws_without_fallback :
    let t := after (.destClose 0) (ask queued 0 0x53 [1])
    (t.destination 1).state = .closed ∧ (t.destination 1).queue = [] ∧ (t.document 0).state = .unrouted
      ∧ ((t.document 0).entry 1).any (fun e => decide (e.state = .withdrawn)) = true := by
  decide

/-- The document waits in the queue of destination 1, and destination 2, the fallback, is OPEN. -/
def withFallback (d : Document) : State :=
  let s := ask ((queued.setDocument 0 d).setDestination 2 { Destination.powerOn with state := .opened }) 0 0x53 [1]
  { s with rtu := { s.rtu with fallback := some 2 } }

set_option maxRecDepth 4000 in
/-- A usable fallback that the document has no entry for, and one that it has. -/
theorem witness_DestClose_fallback :
    let s := withFallback (docWith .queued [(1, some (entryIn .queued 0))])
    let u := withFallback (docWith .queued [(1, some (entryIn .queued 0)), (2, some { entryIn .delivered 1 with destination := 2 })])
    s.Takes 0 0x53 (req 0x53 [1]) ∧ s.rtu.fallback = some 2 ∧ (s.destination 2).accepting = true ∧ s.QueueSound (s.destination 1)
      ∧ (s.destination 1).urgent ++ (s.destination 1).normal = [⟨⟨0, 1⟩, 1⟩] ∧ (s.document 0).entry 1 = some (entryIn .queued 0)
      ∧ (∀ y ∈ (s.document 0).entryList, y.2.destination ≠ 2) ∧ u.Takes 0 0x53 (req 0x53 [1]) ∧ u.QueueSound (u.destination 1)
      ∧ (∃ y ∈ (u.document 0).entryList, y.2.destination = 2) ∧ ((after (.destClose 0) s).destination 2).normal = [⟨⟨0, 1⟩, 1⟩]
      ∧ ((after (.destClose 0) u).document 0).state = .free := by
  decide

set_option maxRecDepth 4000 in
/-- The slot bound to a closing destination has room, its queue empty, or its one entry moved. -/
theorem witness_DestClose_notice :
    let s := naming .opened 0x53
    let u := withFallback (docWith .queued [(1, some (entryIn .queued 0))])
    s.Takes 0 0x53 (req 0x53 [1]) ∧ (s.destination 1).bound = some 2 ∧ s.spu.underReset = [] ∧ (s.taken 0).replyRoom 2 = true
      ∧ (u.destination 1).bound = some 2 ∧ (u.taken 0).replyRoom 2 = true
      ∧ ((after (.destClose 0) s).station 2).replies = [⟨.destState, 0, 0xFFFF, [1, 0, 1, 0, 0]⟩]
      ∧ ((after (.destClose 0) u).station 2).replies = [⟨.destState, 0, 0xFFFF, [1, 0, 1, 0, 0]⟩] := by
  decide

/-- A usable fallback the document has no entry for; one it has; and none. -/
theorem witness_MoveEntry : site.rtu.fallback = some 20 ∧ (site.destination 20).state = .opened
    ∧ (∀ x ∈ (site.document 0).entryList, x.2.destination ≠ 20)
    ∧ (∃ x ∈ ((site.setDocument 0 (docWith .queued [(8, some { entryIn .queued 0 with destination := 20 })])).document 0).entryList,
        x.2.destination = 20)
    ∧ ready.rtu.fallback = none := by
  decide

/-- An UNROUTED document is rerouted to destinations 3 and 9. -/
def rerouting : State :=
  ask (site.setDocument 0 (docWith .unrouted [(1, some { entryIn .withdrawn 2 with destination := 3 })])) 0 0x55 [handle0, 0x208]

/-- Eight DELIVERED entries, none of them for destination 3. -/
def filled : Document :=
  docWith .done ((List.range 8).map (fun k => (k + 1, some { entryIn .delivered 1 with destination := k + 21 })))

set_option maxRecDepth 4000 in
theorem witness_Reroute : rerouting.Takes 0 0x55 (req 0x55 [handle0, 0x208]) ∧ (rerouting.rights 0).administer = true
    ∧ (decodeHandle handle0).generation = (rerouting.document 0).generation ∧ (rerouting.document 0).state = .unrouted
    ∧ (members 0x208).length ≤ 8 ∧ (rerouting.replaceClosed 0x208).delivery ≠ 0 ∧ (rerouting.document 0).entryList.length = 1
    ∧ (site.destination 9).bound = some 2 ∧ (site.destination 9).queue = []
    ∧ members (rerouting.replaceClosed 0x208).delivery = [3, 9] := by
  decide

/-- A set of nine members, an empty one, and a FREE document. -/
theorem witness_Reroute_refused :
    (ask rerouting 0 0x55 [handle0, 0x1FF]).Takes 0 0x55 (req 0x55 [handle0, 0x1FF]) ∧ 8 < (members 0x1FF).length
      ∧ (ask rerouting 0 0x55 [handle0, 0]).Takes 0 0x55 (req 0x55 [handle0, 0])
      ∧ (ask (holding (docWith .free [])) 0 0x55 [handle0, 1]).Takes 0 0x55 (req 0x55 [handle0, 1])
      ∧ ((holding (docWith .free [])).document 0).state = .free ∧ (members 1).length ≤ 8 := by
  decide

theorem witness_Reroute_full : (∀ p, p < 9 → 1 ≤ p → (filled.entry p).any (fun e => decide (e.state = .delivered)) = true)
    ∧ (∀ x ∈ filled.entryList, x.2.destination ≠ 3)
    ∧ (ask (site.setDocument 0 filled) 0 0x55 [handle0, 8]).Takes 0 0x55 (req 0x55 [handle0, 8]) := by
  decide

/-- Seven DELIVERED entries, one of them for destination 9, and at position 8 one WITHDRAWN for destination 30. -/
def replaceable : Document :=
  docWith .done (((List.range 7).map (fun k => (k + 1, some { entryIn .delivered 1 with destination := k + 9 })))
    ++ [(8, some { entryIn .withdrawn 1 with destination := 30 })])

set_option maxRecDepth 4000 in
/-- A replaced position (R124): destination 14 is DRAINING, so the fallback 20 takes position 8 from the entry for 30; the
entry for 9 is reset. -/
theorem test_REROUTE_replaces :
    let s := ask (site.setDocument 0 replaceable) 0 0x55 [handle0, 0x4200]
    let t := after (.reroute 0) s
    s.Takes 0 0x55 (req 0x55 [handle0, 0x4200]) ∧ members (s.replaceClosed 0x4200).delivery = [9, 20]
      ∧ (t.station 0).replies = [⟨.ok, 0x55, 5, [4, 2, 0, 1, 1, 0x4000, 0, 2]⟩]
      ∧ (t.document 0).entry 8 = some ⟨20, some 14, .queued, 0, 0, none, none⟩
      ∧ (t.document 0).entry 1 = some { entryIn .queued 0 with destination := 9 } := by
  decide

set_option maxRecDepth 4000 in
/-- An emptied target set (R124): destination 14 is DRAINING and there is no fallback; the UNROUTED document settles again. -/
theorem test_REROUTE_emptied :
    let s := ask { (site.setDocument 0 (docWith .unrouted [])) with rtu := { site.rtu with fallback := none } } 0 0x55 [handle0, 0x4000]
    let t := after (.reroute 0) s
    s.Takes 0 0x55 (req 0x55 [handle0, 0x4000]) ∧ (s.replaceClosed 0x4000).delivery = 0
      ∧ (t.station 0).replies.getLast? = some ⟨.ok, 0x55, 5, [3, 3, 0, 0, 0, 0, 0x4000, 0]⟩ ∧ (t.document 0).state = .unrouted := by
  decide

set_option maxRecDepth 4000 in
theorem test_REROUTE_resets_and_creates :
    let t := after (.reroute 0) rerouting
    (t.station 0).replies = [⟨.ok, 0x55, 5, [3, 2, 0, 1, 1, 0, 0, 2]⟩] ∧ (t.destination 3).queue = [⟨⟨0, 1⟩, 1⟩]
      ∧ (t.destination 9).queue = [⟨⟨0, 1⟩, 2⟩] := by
  decide

/-! ## Witnesses: checkout and delivery -/

/-- Document 0 at attempt count 15 at the head of the queue, with another delivery QUEUED. -/
def spentHead : State :=
  (holding (docWith .queued [(1, some (entryIn .queued 15)), (2, some { entryIn .queued 0 with destination := 2 })])).setDestination 1
    (dest1 .opened [⟨⟨0, 1⟩, 1⟩] [])

/-- An empty queue, a head that is taken, and a lone head at attempt count 15. -/
theorem witness_Take : (naming .opened 0x58).Takes 0 0x58 (req 0x58 [1]) ∧ ((naming .opened 0x58).destination 1).state = .opened
    ∧ (ask queued 2 0x58 [1]).Takes 2 0x58 (req 0x58 [1]) ∧ (queued.rights 2).deliver = true
    ∧ (queued.destination 1).bound = some 2 ∧ (queued.destination 1).checkouts.length < (queued.destination 1).checkoutLimit
    ∧ (queued.destination 1).urgent ++ (queued.destination 1).normal = ⟨⟨0, 1⟩, 1⟩ :: []
    ∧ (queued.document 0).entry 1 = some (entryIn .queued 0) ∧ (entryIn .queued 14).attempts < 15
    ∧ (ask spentHead 2 0x58 [1]).Takes 2 0x58 (req 0x58 [1]) ∧ 15 ≤ (entryIn .queued 15).attempts
    ∧ (∃ y ∈ (spentHead.document 0).entryList, y.1 ≠ 1 ∧ y.2.outstanding = true) := by
  decide

set_option maxRecDepth 4000 in
theorem test_TAKE_checks_out : ((after (.take 2) (ask queued 2 0x58 [1])).station 2).replies
      = [⟨.ok, 0x58, 5, [handle0, 1, 1, 0, 1, 32, 0]⟩]
    ∧ ((after (.take 2) (ask queued 2 0x58 [1])).destination 1).checkouts = [⟨⟨0, 1⟩, 1, 2, 1⟩] := by
  decide

/-- The queue of destination 1: the given number of documents at attempt count 15, each with one delivery, and one at 14. -/
def spentHeads (spent : Nat) (last : Bool) : State :=
  let places := (List.range (spent + bit last)).map (fun i => (⟨⟨i, 1⟩, 1⟩ : QueueItem))
  let documents := (List.range (spent + bit last)).map
    (fun i => (i, docWith .queued [(1, some (entryIn .queued (if i < spent then 15 else 14)))]))
  ask { ready with dt := { ready.dt with documents := ⟨documents⟩ }, dqu := ⟨⟨[(1, dest1 .opened places [])]⟩⟩ } 2 0x58 [1]

/-- A PAUSED, a DRAINING and a CLOSED destination, and a checkout list at its limit. -/
theorem witness_Take_refused :
    let s (st : DestState) := ask (ready.setDestination 1 (dest1 st [⟨⟨0, 1⟩, 1⟩] [])) 2 0x58 [1]
    let u := ask (ready.setDestination 1 { dest1 .opened [] [⟨⟨0, 1⟩, 1, 2, 1⟩] with checkoutLimit := 1 }) 2 0x58 [1]
    (∀ st ∈ [DestState.paused, .draining, .closed], (s st).Takes 2 0x58 (req 0x58 [1]) ∧ ((s st).destination 1).state ≠ .opened)
      ∧ u.Takes 2 0x58 (req 0x58 [1]) ∧ (u.destination 1).state = .opened
      ∧ (u.destination 1).checkoutLimit ≤ (u.destination 1).checkouts.length
      ∧ (after (.take 2) (s .paused)).destination 1 = (s .paused).destination 1 := by
  decide

set_option maxRecDepth 20000 in
/-- Two spent heads before an entry at attempt count 14, and two spent heads alone. -/
theorem witness_Take_spent :
    let s := spentHeads 2 true
    let u := spentHeads 2 false
    s.Takes 2 0x58 (req 0x58 [1]) ∧ s.QueueSound (s.destination 1) ∧ u.Takes 2 0x58 (req 0x58 [1]) ∧ u.QueueSound (u.destination 1)
      ∧ (s.destination 1).urgent ++ (s.destination 1).normal = [⟨⟨0, 1⟩, 1⟩, ⟨⟨1, 1⟩, 1⟩] ++ [⟨⟨2, 1⟩, 1⟩]
      ∧ (u.destination 1).urgent ++ (u.destination 1).normal = [⟨⟨0, 1⟩, 1⟩, ⟨⟨1, 1⟩, 1⟩] ++ []
      ∧ (s.document 1).entry 1 = some (entryIn .queued 15) ∧ (s.document 2).entry 1 = some (entryIn .queued 14)
      ∧ (s.taken 2).replyRoom 3 = true ∧ s.spu.underReset = [] :=
  ⟨by decide, by decide, by decide, by decide, by decide, by decide, by decide, by decide, by decide, by decide⟩

set_option maxRecDepth 20000 in
/-- R128, R138: both spent documents settle with their notices, and the third is taken at its 15th attempt. -/
theorem test_TAKE_passes_spent_heads :
    let t := after (.take 2) (spentHeads 2 true)
    (t.document 0).state = .unrouted ∧ (t.document 1).state = .unrouted
      ∧ ((t.station 3).replies.map (fun x => x.status)) = [.undeliverable, .unroutedDoc, .undeliverable, .unroutedDoc]
      ∧ (t.destination 1).checkouts = [⟨⟨2, 1⟩, 1, 2, 15⟩] ∧ (t.destination 1).queue = [] :=
  ⟨by decide, by decide, by decide, by decide, by decide⟩

/-- FETCH_PAGES of the checkout, with a first page, a count and a chain. -/
def fetching (s : State) (first : Word) : State := ask s 2 0x59 [handle0, 1, 1, first, 255, 0x100]

/-- The first page 0, 1 and 2 of one, a job of the position in the engine, a full engine, and no checkout. -/
theorem witness_FetchPages :
    let r (first : Word) := req 0x59 [handle0, 1, 1, first, 255, 0x100]
    (fetching checkedOut 0).Takes 2 0x59 (r 0) ∧ (fetching checkedOut 1).Takes 2 0x59 (r 1)
      ∧ (fetching checkedOut 2).Takes 2 0x59 (r 2) ∧ (checkedOut.document 0).checkedOut 1 1 = some (1, entryIn .checkedOut 1)
      ∧ (checkedOut.rights 2).deliver = true ∧ (decodeHandle handle0).generation = (checkedOut.document 0).generation
      ∧ (checkedOut.checkoutOf 1 0 1).any (fun x => decide (x.takingSlot = 2)) = true ∧ checkedOut.jobMark 0 1 = false
      ∧ (running (fetching checkedOut 1) delivery0 ⟨.fetch, 0, 16, []⟩).Takes 2 0x59 (r 1)
      ∧ (running (fetching checkedOut 1) delivery0 ⟨.fetch, 0, 16, []⟩).jobMark 0 1 = true
      ∧ (fetching queued 1).Takes 2 0x59 (r 1)
      ∧ (∀ x ∈ (queued.document 0).entryList, ¬ (x.2.destination = 1 ∧ x.2.state = .checkedOut ∧ x.2.ticket = 1)) := by
  decide

/-- No entry checked out under the ticket, and no committed page of the number either. -/
theorem witness_FetchPages_none : (fetching queued 0).Takes 2 0x59 (req 0x59 [handle0, 1, 1, 0, 255, 0x100])
    ∧ (fetching queued 2).Takes 2 0x59 (req 0x59 [handle0, 1, 1, 2, 255, 0x100]) ∧ (queued.document 0).pages.length < 2 := by
  decide

set_option maxRecDepth 4000 in
theorem witness_FetchPages_full :
    ({ fetching checkedOut 1 with te := { Te.powerOn with jobs := List.replicate 32 intake0 } } : State).Takes 2 0x59
      (req 0x59 [handle0, 1, 1, 1, 255, 0x100]) := by
  decide

/-- CONFIRM of a checkout. -/
def confirming (s : State) : State := ask s 2 0x5A [handle0, 1, 1]

/-- The document's only delivery, with retention 0 and with a retention; and one of two deliveries. -/
theorem witness_Confirm :
    let kept : State := { confirming checkedOut with dt := { (confirming checkedOut).dt with retention := ⟨[(0, 1)]⟩ } }
    (confirming checkedOut).Takes 2 0x5A (req 0x5A [handle0, 1, 1])
      ∧ (confirming checkedOut).Holds 2 (decodeHandle handle0) 1 1 1 (entryIn .checkedOut 1)
      ∧ ((confirming checkedOut).document 0).state = .queued ∧ (confirming checkedOut).retentionMinutes 0 = 0
      ∧ kept.Takes 2 0x5A (req 0x5A [handle0, 1, 1]) ∧ kept.Holds 2 (decodeHandle handle0) 1 1 1 (entryIn .checkedOut 1)
      ∧ 0 < kept.retentionMinutes 0
      ∧ (confirming (checkedOutOfTwo .draining 1)).Holds 2 (decodeHandle handle0) 1 1 1 (entryIn .checkedOut 1)
      ∧ ((checkedOutOfTwo .draining 1).destination 1).state = .draining := by
  decide

/-- No entry checked out under the ticket, a job of the checkout in the engine, and the bound slot with room. -/
theorem witness_Confirm_refused :
    let s := confirming queued
    let u := running (confirming checkedOut) delivery0 ⟨.fetch, 0, 16, []⟩
    let v := ask (checkedOutOfTwo .draining 1) 0 0x5A [handle0, 1, 1]
    s.Takes 2 0x5A (req 0x5A [handle0, 1, 1]) ∧ (s.document 0).checkedOut 1 1 = none
      ∧ u.Takes 2 0x5A (req 0x5A [handle0, 1, 1]) ∧ (u.document 0).checkedOut 1 1 = some (1, entryIn .checkedOut 1)
      ∧ u.jobMark 0 1 = true ∧ (u.checkoutOf 1 0 1).any (fun x => decide (x.takingSlot = 2)) = true
      ∧ v.Takes 0 0x5A (req 0x5A [handle0, 1, 1]) ∧ v.Holds 0 (decodeHandle handle0) 1 1 1 (entryIn .checkedOut 1)
      ∧ (v.destination 1).bound = some 2 ∧ v.spu.underReset = [] ∧ (v.taken 0).replyRoom 2 = true
      ∧ ((after (.confirm 0) v).station 2).replies = [⟨.destState, 0, 0xFFFF, [1, 0, 3, 0, 0]⟩] := by
  decide

set_option maxRecDepth 4000 in
theorem test_CONFIRM_closes_a_draining_destination :
    let t := after (.confirm 2) (confirming (checkedOutOfTwo .draining 1))
    (t.destination 1).state = .closed ∧ (t.station 2).replies.getLast? = some ⟨.ok, 0x5A, 5, [4, 2, 1, 0]⟩ := by
  decide

/-- Document 0 with its one delivery checked out of destination 1, which is in a state, by slot 2. -/
def checkedOutAt (st : DestState) (attempts : Nat) (fallback : Option Nat) : State :=
  { (holding (docWith .queued [(1, some (entryIn .checkedOut attempts))])) with
    rtu := { ready.rtu with fallback := fallback }
    dqu := ⟨⟨[(1, dest1 st [] [⟨⟨0, 1⟩, 1, 2, attempts⟩]), (3, dest1 .opened [] [])]⟩⟩ }

/-- RETURN of a checkout, at an attempt count. -/
def returning (s : State) (attempts : Word) : State := ask s 2 0x5B [handle0, 1, attempts, 1]

/-- Below the limit at an OPEN destination, at the limit of 8, and below the limit at a DRAINING one. -/
theorem witness_Return :
    let r (a : Word) := req 0x5B [handle0, 1, a, 1]
    (returning (checkedOutOfTwo .opened 7) 7).Takes 2 0x5B (r 7)
      ∧ (returning (checkedOutOfTwo .opened 7) 7).Holds 2 (decodeHandle handle0) 1 7 1 (entryIn .checkedOut 7)
      ∧ (entryIn .checkedOut 7).attempts < ((checkedOutOfTwo .opened 7).destination 1).attemptLimit
      ∧ (returning (checkedOutOfTwo .opened 8) 8).Takes 2 0x5B (r 8)
      ∧ (returning (checkedOutOfTwo .opened 8) 8).Holds 2 (decodeHandle handle0) 1 8 1 (entryIn .checkedOut 8)
      ∧ ((checkedOutOfTwo .opened 8).destination 1).attemptLimit ≤ (entryIn .checkedOut 8).attempts
      ∧ (∃ y ∈ ((checkedOutOfTwo .opened 8).document 0).entryList, y.1 ≠ 1 ∧ y.2.outstanding = true)
      ∧ (returning (checkedOutOfTwo .draining 1) 1).Takes 2 0x5B (r 1)
      ∧ (returning (checkedOutOfTwo .draining 1) 1).Holds 2 (decodeHandle handle0) 1 1 1 (entryIn .checkedOut 1)
      ∧ ((checkedOutOfTwo .draining 1).destination 1).state = .draining ∧ (checkedOutOfTwo .draining 1).usableFallback = none := by
  decide

/-- A document of one delivery: at the limit, requeued, moved to the fallback, and withdrawn; with a job in the engine; and none
checked out. -/
theorem witness_Return_alone :
    let s (st : DestState) (f : Option Nat) := returning (checkedOutAt st 7 f) 7
    let u := returning (checkedOutAt .paused 8 none) 8
    let v := running (s .opened none) delivery0 ⟨.fetch, 0, 16, []⟩
    (∀ st ∈ [DestState.opened, .paused, .draining], ∀ f ∈ [none, some 3, some 1],
        (s st f).Takes 2 0x5B (req 0x5B [handle0, 1, 7, 1])
        ∧ ((s st f).document 0).checkedOut 1 7 = some (1, entryIn .checkedOut 7) ∧ (s st f).jobMark 0 1 = false)
      ∧ (s .draining (some 3)).usableFallback = some 3 ∧ (s .draining none).usableFallback = none
      ∧ u.Takes 2 0x5B (req 0x5B [handle0, 1, 8, 1]) ∧ (u.document 0).checkedOut 1 8 = some (1, entryIn .checkedOut 8)
      ∧ (u.destination 1).attemptLimit ≤ 8 ∧ (u.taken 2).replyRoom 3 = true
      ∧ v.Takes 2 0x5B (req 0x5B [handle0, 1, 7, 1]) ∧ v.jobMark 0 1 = true
      ∧ (returning queued 1).Takes 2 0x5B (req 0x5B [handle0, 1, 1, 1]) ∧ (queued.document 0).checkedOut 1 1 = none := by
  decide

set_option maxRecDepth 4000 in
/-- R136, R138, R70: at the limit the lone delivery is UNDELIVERABLE and its document UNROUTED. -/
theorem test_RETURN_at_the_limit :
    let t := after (.returnCheckout 2) (returning (checkedOutAt .opened 8 none) 8)
    (t.station 2).replies = [⟨.ok, 0x5B, 5, [5, 1, 8, 3, absentWord]⟩] ∧ (t.document 0).state = .unrouted
      ∧ (t.station 3).replies = [⟨.undeliverable, 0, 0xFFFF, [handle0, 1, 1, 8, 1, absentWord]⟩,
          ⟨.unroutedDoc, 0, 0xFFFF, [handle0, 1, 1, 1, 0]⟩] := by
  decide

set_option maxRecDepth 4000 in
/-- R136, R121: below the limit at a DRAINING destination the entry is the fallback's, and the destination CLOSED. -/
theorem test_RETURN_moves :
    let t := after (.returnCheckout 2) (returning (checkedOutAt .draining 7 (some 3)) 7)
    (t.destination 3).queue = [⟨⟨0, 1⟩, 1⟩] ∧ (t.destination 1).state = .closed
      ∧ (t.station 2).replies.getLast? = some ⟨.ok, 0x5B, 5, [2, 3, 7, 2, 1]⟩ := by
  decide

set_option maxRecDepth 4000 in
/-- The last checkout of a DRAINING destination, returned by slot 0, its bound slot having room. -/
theorem witness_Return_drained :
    let s := ask (checkedOutAt .draining 7 (some 3)) 0 0x5B [handle0, 1, 7, 0]
    s.Takes 0 0x5B (req 0x5B [handle0, 1, 7, 0]) ∧ (s.rights 0).administer = true ∧ (s.destination 1).bound = some 2
      ∧ (s.destination 1).checkouts.filter (fun x => decide (¬ (x.handle.index = 0 ∧ x.position = 1))) = []
      ∧ (s.taken 0).replyRoom 2 = true
      ∧ ((after (.returnCheckout 0) s).station 2).replies = [⟨.destState, 0, 0xFFFF, [1, 0, 3, 0, 0]⟩] := by
  decide

/-- The deadline just reached, and the millisecond before it. -/
theorem witness_HoldExpiry :
    let s := atTime checkedOut 9
    s.part = .ready ∧ (s.document 0).entry 1 = some (entryIn .checkedOut 1) ∧ (entryIn .checkedOut 1).deadline = some 9
      ∧ 9 ≤ s.tb.uptime ∧ s.jobMark 0 1 = false ∧ (s.destination 1).state = .opened
      ∧ (entryIn .checkedOut 1).attempts < (s.destination 1).attemptLimit
      ∧ s.checkoutOf 1 0 1 = some ⟨⟨0, 1⟩, 1, 2, 1⟩ ∧ s.replyRoom 2 = true ∧ s.spu.underReset = []
      ∧ (atTime checkedOut 8).tb.uptime < 9 ∧ (running s delivery0 ⟨.fetch, 0, 16, []⟩).jobMark 0 1 = true := by
  decide

/-- At the attempt limit, at a DRAINING destination with and without a fallback, and at one whose fallback holds the document. -/
theorem witness_HoldExpiry_outcomes :
    (∀ s ∈ [checkedOutAt .opened 8 none, checkedOutAt .draining 7 (some 3), checkedOutAt .draining 7 none,
        checkedOutAt .draining 7 (some 1)],
      (atTime s 9).part = .ready ∧ ((atTime s 9).document 0).state = .queued ∧ (atTime s 9).jobMark 0 1 = false
        ∧ (atTime s 9).replyRoom 2 = true ∧ (atTime s 9).replyRoom 3 = true ∧ s.spu.underReset = [] ∧ (s.rights 3).administer = true
        ∧ ((s.document 0).entry 1).any (fun e => decide (e.state = .checkedOut) && decide (e.deadline = some 9)) = true
        ∧ (s.checkoutOf 1 0 1).any (fun x => decide (x.takingSlot = 2)) = true)
      ∧ ((checkedOutAt .opened 8 none).destination 1).attemptLimit ≤ 8
      ∧ (checkedOutAt .draining 7 (some 3)).usableFallback = some 3
      ∧ ((checkedOutAt .draining 7 none).destination 1).accepting = false := by
  decide

set_option maxRecDepth 4000 in
/-- R136, R138, R139: an expiry at the limit, with both notices and the document settled. -/
theorem test_HOLD_EXPIRY_at_the_limit :
    let t := after (.holdExpiry 0 1) (atTime (checkedOutAt .opened 8 none) 9)
    (t.station 2).replies = [⟨.checkoutExpired, 0, 0xFFFF, [handle0, 1, 8, 3, 1]⟩]
      ∧ (t.station 3).replies.head? = some ⟨.undeliverable, 0, 0xFFFF, [handle0, 1, 1, 8, 2, absentWord]⟩
      ∧ (t.document 0).state = .unrouted ∧ (t.destination 1).checkouts = [] := by
  decide

set_option maxRecDepth 4000 in
theorem test_HOLD_EXPIRY_requeues :
    let t := after (.holdExpiry 0 1) (atTime checkedOut 9)
    (t.station 2).replies = [⟨.checkoutExpired, 0, 0xFFFF, [handle0, 1, 1, 0, 1]⟩] ∧ (t.destination 1).queue = [⟨⟨0, 1⟩, 1⟩]
      ∧ (t.station 2).work = true := by
  decide

/-- WITHDRAW of a QUEUED and of a CHECKED_OUT entry of two, and of a document without an entry for the destination. -/
theorem witness_Withdraw :
    let s := ask (checkedOutOfTwo .opened 1) 0 0x5C [handle0, 2]
    let u := ask (checkedOutOfTwo .opened 1) 0 0x5C [handle0, 1]
    let v := ask (checkedOutOfTwo .opened 1) 0 0x5C [handle0, 31]
    s.Takes 0 0x5C (req 0x5C [handle0, 2]) ∧ (s.rights 0).administer = true
      ∧ (decodeHandle handle0).generation = (s.document 0).generation ∧ (s.document 0).state = .queued
      ∧ (s.document 0).outstandingFor 2 = some (2, { entryIn .queued 0 with destination := 2 })
      ∧ (∃ y ∈ (s.document 0).entryList, y.1 ≠ 2 ∧ y.2.outstanding = true) ∧ u.Takes 0 0x5C (req 0x5C [handle0, 1])
      ∧ (u.document 0).outstandingFor 1 = some (1, entryIn .checkedOut 1)
      ∧ (∃ y ∈ (u.document 0).entryList, y.1 ≠ 1 ∧ y.2.outstanding = true) ∧ v.Takes 0 0x5C (req 0x5C [handle0, 31])
      ∧ (∀ x ∈ (v.document 0).entryList, x.2.destination = 31 → x.2.outstanding = false) := by
  decide

/-- The last outstanding entry, alone and beside a DELIVERED one, with retention 0 and with a retention. -/
theorem witness_Withdraw_settles :
    let s := ask queued 0 0x5C [handle0, 1]
    let d := docWith .queued [(1, some (entryIn .queued 0)), (2, some { entryIn .delivered 1 with destination := 2 })]
    let u := s.setDocument 0 d
    let v : State := { u with dt := { u.dt with retention := ⟨[(0, 1)]⟩ } }
    s.Takes 0 0x5C (req 0x5C [handle0, 1]) ∧ (s.document 0).state = .queued
      ∧ (s.document 0).outstandingFor 1 = some (1, entryIn .queued 0)
      ∧ (∀ y ∈ (s.document 0).entryList, y.1 ≠ 1 → y.2.outstanding = false)
      ∧ (∀ y ∈ d.entryList, y.1 ≠ 1 → y.2.outstanding = false) ∧ s.spu.underReset = [] ∧ (s.taken 0).replyRoom 3 = true
      ∧ (s.rights 3).administer = true ∧ u.Takes 0 0x5C (req 0x5C [handle0, 1]) ∧ v.Takes 0 0x5C (req 0x5C [handle0, 1])
      ∧ 0 < v.retentionMinutes 0 ∧ ((after (.withdraw 0) v).document 0).state = .done
      ∧ ((after (.withdraw 0) s).station 3).replies = [⟨.unroutedDoc, 0, 0xFFFF, [handle0, 1, 1, 0, 1]⟩] := by
  decide

set_option maxRecDepth 4000 in
/-- The one WAITING entry of a RECEIVING document, and the one CHECKED_OUT entry of a document while its job is in the engine, at a
DRAINING destination. -/
theorem witness_Withdraw_others :
    let s := ask (receiving .betweenPages none []) 0 0x5C [handle0, 1]
    let u := ask (running (checkedOutAt .draining 1 none) { delivery0 with current := some region64 } ⟨.deliveryWrite, 0x2000, 48, []⟩) 0
      0x5C [handle0, 1]
    s.Takes 0 0x5C (req 0x5C [handle0, 1]) ∧ (s.document 0).state = .receiving
      ∧ (s.document 0).outstandingFor 1 = some (1, entryIn .waiting 0) ∧ ((after (.withdraw 0) s).document 0).state = .receiving
      ∧ u.Takes 0 0x5C (req 0x5C [handle0, 1]) ∧ (u.document 0).state = .queued
      ∧ (u.document 0).outstandingFor 1 = some (1, entryIn .checkedOut 1) ∧ (u.destination 1).state = .draining
      ∧ (∀ y ∈ (u.document 0).entryList, y.1 ≠ 1 → y.2.outstanding = false)
      ∧ ((after (.withdraw 0) u).destination 1).state = .closed ∧ ((after (.withdraw 0) u).document 0).state = .unrouted := by
  decide

/-! ## Witnesses: notices and the transfer engine -/

/-- Room; no room while slot 0 and 3 have room; and no room anywhere. -/
theorem witness_NoticePosted : Status.destState ≠ .noticeOverrun ∧ ready.spu.underReset = [] ∧ ready.replyRoom 2 = true ∧ (full ready 2).replyRoom 2 = false
    ∧ ((full ready 2).rights 0).administer = true ∧ (full ready 2).replyRoom 0 = true
    ∧ (∀ m, m < 16 → m ≠ 2 → ((full (full (full ready 2) 0) 3).rights m).administer = true →
        (full (full (full ready 2) 0) 3).replyRoom m = false) := by
  decide

theorem witness_NoticePosted_under_reset : 2 ∈ (ready.markReset [2]).spu.underReset := by decide

set_option maxRecDepth 4000 in
theorem test_lost_notice_escalates :
    let t := (full ready 2).send .destState [1] [2]
    (t.station 2).noticeLost = true ∧ t.spu.fault = false
      ∧ (t.station 3).replies = [⟨.noticeOverrun, 0, 0xFFFF, [2, 0x83]⟩] := by
  decide

/-- The job carries the tag and its burst is under way; another slot's job runs; the policy's values are above their ranges. -/
theorem witness_EngineCommands :
    let s := ask (running checkedOut { delivery0 with current := some region64 } ⟨.deliveryWrite, 0x2000, 48, []⟩) 2 0x60 [5]
    s.Takes 2 0x60 (req 0x60 [5]) ∧ (s.rights 2).any = true ∧ (∃ j ∈ s.te.jobs, j.slot = 2 ∧ j.tag = 5 ∧ j.cancelled = false)
      ∧ (ask s 0 0x60 [5]).Takes 0 0x60 (req 0x60 [5])
      ∧ (∃ j ∈ s.te.jobs, ¬ (j.slot = 0 ∧ j.tag = 5) ∧ j.cancelled = false ∧ j.channel ≠ none ∧ j.current ≠ none)
      ∧ (ask s 0 0x61 [4, 2]).Takes 0 0x61 (req 0x61 [4, 2]) ∧ (s.rights 0).administer = true
      ∧ (after (.setBusPolicy 0) (ask s 0 0x61 [4, 2])).te.level = 3 := by
  decide

set_option maxRecDepth 4000 in
/-- The only job of the engine, at a burst boundary, is cancelled by its slot. -/
theorem witness_EngineCommands_ends :
    let j : Job := { delivery0 with current := some region64, moved := 20 }
    let s := ask { checkedOut with te := { Te.powerOn with jobs := [j] } } 2 0x60 [5]
    s.Takes 2 0x60 (req 0x60 [5]) ∧ s.te.jobs = [j] ∧ s.te.tenure = none ∧ j.slot = 2 ∧ j.tag = 5 ∧ j.suppressed = false
      ∧ ((after (.cancelTransfer 2) s).station 2).replies = [⟨.cancelled, 0x59, 5, [20, 0, 1]⟩, ⟨.ok, 0x60, 5, [1, 0, 1]⟩] := by
  decide

/-- Four running jobs. -/
def fourJobs : State :=
  { ready with te := { Te.powerOn with
    jobs := [0, 1, 2, 3].map (fun c => { delivery0 with channel := some c, current := some region64 }) } }

/-- A chain in the aperture; one that is no multiple of 16; one past the end of an aperture that ends at 0xFFFF; four jobs. -/
theorem witness_JobQueued :
    let st := { ready.station 2 with apertureEnd := 0 }
    ready.te.jobs = [] ∧ ready.te.tenure = none ∧ (0xFFF0 : Word).toNat % 16 = 0
      ∧ (st.relocate 0xFFF0).toNat + 15 ≤ st.apertureEnd * 65536 + 65535
      ∧ st.apertureStart * 65536 ≤ (st.relocate 0xFFF0).toNat ∧ (1 : Word).toNat % 16 ≠ 0
      ∧ st.apertureEnd * 65536 + 65535 < (st.relocate 0x10000).toNat + 15
      ∧ (∀ c, c < 4 → ∃ k ∈ fourJobs.te.jobs, k.channel = some c)
      ∧ (∀ k ∈ fourJobs.te.jobs, k.channel ≠ none → k.fetch ≠ none ∨ k.current ≠ none) := by
  decide

/-- Channels 0 and 2 are busy with jobs that have started, while a burst is under way: channel 1 is the lowest that is IDLE. -/
theorem witness_JobQueued_beside_others :
    let j (c : Nat) : Job := { delivery0 with channel := some c, current := some region64 }
    let s : State := { checkedOut with te := { Te.powerOn with
      jobs := [j 0, j 2], tenure := some ⟨.fair, 0, ⟨.deliveryWrite, 0x2000, 48, []⟩⟩ } }
    (∀ k ∈ s.te.jobs, k.channel ≠ none ∧ (k.fetch ≠ none ∨ k.current ≠ none)) ∧ (∀ k ∈ s.te.jobs, k.channel ≠ some 1)
      ∧ (∀ m, m < 1 → ∃ k ∈ s.te.jobs, k.channel = some m) ∧ s.te.tenure ≠ none
      ∧ ((s.queueJob (Job.new (.intake 0) 0 5 0x100)).te.jobs.map (fun k => k.channel)) = [some 0, some 2, some 1] := by
  decide

/-- The first channel after the one granted last, and the fourth. -/
theorem witness_BusGrant :
    let s : State := { running ready { delivery0 with fetch := some (0x100, 0x100) } ⟨.fetch, 0, 16, []⟩ with
      te := { Te.powerOn with
        jobs := [{ delivery0 with fetch := some (0x100, 0x100) }], request := some ⟨3, .fair⟩ } }
    let u : State := { s with te := { s.te with lastGranted := 0 } }
    s.te.request = some ⟨3, .fair⟩ ∧ s.te.tenure = none ∧ 0 = (s.te.lastGranted + 1 + 0) % 4
      ∧ s.jobOn 0 = some { delivery0 with fetch := some (0x100, 0x100) } ∧ 0 = (u.te.lastGranted + 1 + 3) % 4
      ∧ (∀ m, m < 3 → u.jobOn ((u.te.lastGranted + 1 + m) % 4) = none)
      ∧ (after .busGrant s).te.tenure = some ⟨.fair, 0, ⟨.fetch, 0x100, 16, []⟩⟩ ∧ ready.te.request = none := by
  decide

/-- A fetch; a read of 4 bytes in a region of 64; a write within and a write that completes a stream of 48 bytes. -/
theorem witness_BurstEnds :
    let f := running checkedOut { delivery0 with fetch := some (0x100, 0x100) } ⟨.fetch, 0x100, 16, []⟩
    let i : Job := { intake0 with current := some region64 }
    let r := running (receiving .intakeActive (some openPage0) []) i ⟨.intakeRead, 0x2000, 4, []⟩
    let d : Delivery := ⟨⟨0, 1⟩, 1, 1, 1, 1, 1, 0, 0⟩
    f.te.jobs = [{ delivery0 with fetch := some (0x100, 0x100) }] ∧ f.te.tenure = some ⟨.fair, 0, ⟨.fetch, 0x100, 16, []⟩⟩
      ∧ delivery0.channel = some 0 ∧ (4 : Word).toNat % 4 = 0
      ∧ 0x2000 + 16777216 ≤ (f.station 2).apertureEnd * 65536 + 65536 ∧ r.te.jobs = [i]
      ∧ (r.parseWords 0 [0x00000000]).full = false ∧ region64.moved + 4 < region64.count
      ∧ streamLengths (checkedOut.deliveryPages d) = [48] ∧ ([48] : List Nat).sum ≤ 0 + 48 ∧ 0 + 4 < ([48] : List Nat).sum
      ∧ (([48] : List Nat).take 0).sum + 4 = 0 + 4 := by
  decide

/-- A burst of 4 bytes that finishes a region of 64. -/
def finishing (s : State) (j : Job) (last notify : Bool) (next : Word) : State :=
  running s { j with current := some ⟨0x100, notify, last, next, 0x2000, 64, 0x2000, 60⟩ } ⟨.intakeRead, 0x203C, 4, []⟩

set_option maxRecDepth 4000 in
/-- A parser refused a block; a region finished by an intake job and by a delivery that has bytes left, the last and not the
last, notified and not; 63 and 64 descriptors fetched. -/
theorem witness_BurstEnds_regions :
    let r := receiving .intakeActive (some openPage0) []
    let p : OpenPage := { openPage0 with storedBytes := 4096 }
    let e := (r.setContext 0 (some { context0 .intakeActive (some p) with reservation := 0 }))
    let f := running { e with bsm := { e.bsm with floor := 131072 } } { intake0 with current := some region64 }
      ⟨.intakeRead, 0x2000, 4, []⟩
    let i := finishing r intake0 true true 1
    let d : Delivery := ⟨⟨0, 1⟩, 1, 1, 1, 1, 1, 0, 0⟩
    (f.parseWords 0 [0]).full = true ∧ (i.parseWords 0 [0]).full = false ∧ i.spu.underReset = []
      ∧ (i.parseWords 0 [0]).state.replyRoom 0 = true ∧ 60 + 4 = 64 ∧ streamLengths (checkedOut.deliveryPages d) = [48]
      ∧ (([48] : List Nat).take 0).sum ≤ 40 + 4 ∧ 40 + 4 < (([48] : List Nat).take 1).sum ∧ (0x110 : Word).toNat % 16 = 0
      ∧ 0x110 + 16 ≤ (i.station 0).apertureEnd * 65536 + 65536
      ∧ ((after (.burstComplete [0]) i).station 0).replies
        = [⟨.descriptorDone, 0, 0xFFFF, [5, 0, 0x100, 4, 12]⟩, ⟨.ok, 0x22, 5, [4, 12]⟩]
      ∧ ((after (.burstComplete []) (finishing checkedOut { delivery0 with moved := 40 } true false 1)).station 2).replies
        = [⟨.shortBuffer, 0x59, 5, [44, 0, 1]⟩]
      ∧ ((after (.burstComplete []) (finishing checkedOut { delivery0 with fetched := 63 } false false 0x110)).te.jobs.map
          (fun j => j.fetch)) = [some (0x110, 0x110)]
      ∧ ((after (.burstComplete []) (finishing checkedOut { delivery0 with fetched := 64 } false false 0x110)).station 2).replies
        = [⟨.chainFault, 0x59, 5, [4, 0, 1]⟩] := by
  decide

set_option maxRecDepth 4000 in
/-- A region outside the aperture, the next descriptor misaligned and outside the aperture, cancelled jobs of both kinds, a
PURGE_PENDING document and a DONE one due for release, and a job that waits. -/
theorem witness_BurstEnds_ends :
    let near (s : State) : State := s.setStation 2 { s.station 2 with apertureEnd := 0 }
    let f := near (running checkedOut { delivery0 with fetch := some (0x100, 0x100) } ⟨.fetch, 0x100, 16, []⟩)
    let n (next : Word) := near (finishing checkedOut delivery0 false false next)
    let gone (d : Document) := running (holding d) { delivery0 with current := some region64 } ⟨.deliveryWrite, 0x2000, 48, []⟩
    let c := finishing (receiving .intakeActive (some openPage0) []) { intake0 with cancelled := true } true true 1
    let e := finishing (receiving .intakeActive (some openPage0) []) { intake0 with cancelled := true, detached := true } true true 1
    let k := Job.new (.intake 0) 0 6 0x200
    (f.station 2).apertureEnd * 65536 + 65536 < 0xFFFD + 4 ∧ (4 : Word).toNat = 4
      ∧ ((after (.burstComplete [0, 0xFFFFFFFC, 4, 1]) f).station 2).replies = [⟨.apertureFault, 0x59, 5, [0, 0, 1]⟩]
      ∧ ((after (.burstComplete []) (n 0x108)).station 2).replies = [⟨.chainFault, 0x59, 5, [4, 0, 1]⟩]
      ∧ ((after (.burstComplete []) (n 0x10000)).station 2).replies = [⟨.apertureFault, 0x59, 5, [4, 0, 1]⟩]
      ∧ ((after .burstError (gone (docWith .purgePending []))).document 0).state = .free
      ∧ ((after .burstError (gone { docWith .done [] with retentionDeadline := some 0 })).document 0).state = .free
      ∧ ((after (.burstComplete [0]) c).station 0).replies = [⟨.cancelled, 0x22, 5, [4, 12]⟩]
      ∧ ((after (.burstComplete [0]) e).station 0).replies = [⟨.cancelled, 0x22, 5, [0, 0]⟩]
      ∧ ((after .burstRetry c).station 0).replies = [⟨.cancelled, 0x22, 5, [0, 8]⟩]
      ∧ k.channel = none ∧ k.chain.toNat % 16 = 0 ∧ k.fetched < 64
      ∧ ((after .burstError { gone (docWith .queued []) with te := { (gone (docWith .queued [])).te with
            jobs := [{ delivery0 with current := some region64 }, k] } }).te.jobs.map (fun x => (x.tag, x.channel))) = [(6, some 0)] :=
  ⟨by decide, by decide, by decide, by decide, by decide, by decide, by decide, by decide, by decide, by decide, by decide, by decide,
    by decide, by decide⟩

set_option maxRecDepth 4000 in
theorem test_delivery_completes :
    let t := after (.burstComplete []) (running checkedOut { delivery0 with current := some region64 } ⟨.deliveryWrite, 0x2000, 48, []⟩)
    t.te.jobs = [] ∧ (t.station 2).replies = [⟨.ok, 0x59, 5, [48, 1, 1]⟩]
      ∧ ((t.document 0).entry 1).any (fun e => decide (e.deadline = some 300000)) = true := by
  decide

set_option maxRecDepth 4000 in
theorem test_bus_error_ends_an_intake_job :
    let t := after .burstError (running (receiving .intakeActive (some openPage0) []) { intake0 with current := some region64 }
      ⟨.intakeRead, 0x2000, 4, []⟩)
    t.te.jobs = [] ∧ (t.station 0).replies = [⟨.busError, 0x22, 5, [0, 8]⟩]
      ∧ (t.context 0).any (fun c => decide (c.state = .pageOpen)) = true := by
  decide

/-! ## Witnesses: invariants -/

set_option maxRecDepth 4000 in
/-- Destination 1 is bound to slot 2, which holds DELIVER, and slots 0 and 3 hold ADMINISTER. -/
theorem witness_InvariantKept : State.reset.InRange ∧ State.reset.Canonical ∧ queued.InRange ∧ queued.Canonical :=
  ⟨⟨by decide, by decide, by decide, by decide, by decide⟩, by decide, ⟨by decide, by decide, by decide, by decide, by decide⟩, by decide⟩

theorem witness_ConfigurationIsolated : Instr.requester (.take 2) = some 2 ∧ ((ask queued 2 0x58 [1]).rights 2).administer = false := by
  decide

end Sys2Proof.Machine.Tests
end

-- ==== Proofs: tables ====
section
/-!
SUPPORT. A table in canonical form is known by what its numbers read as: a cell is what its number reads as, and the cells are
the cell of one number, where there is one, beside the cells of the others.
-/

namespace Sys2Proof.Machine

variable {α : Type}

/-- The rest of a table beside number `i`: its cells of other numbers. -/
def Table.others (t : Table α) (i : Nat) : List (Nat × α) := eraseCell i t.cells

theorem Table.others_write [DecidableEq α] (d : α) (t : Table α) (i : Nat) (v : α) : (t.write d i v).others i = t.others i := by
  unfold Table.others Table.write
  split
  · exact eraseCell_of_absent i _ (eraseCell_absent i t.cells)
  · exact eraseCell_insert i v _ (eraseCell_absent i t.cells)

theorem Table.mem_others {t : Table α} {i : Nat} {c : Nat × α} : c ∈ t.others i ↔ c ∈ t.cells ∧ c.1 ≠ i := by
  simp [Table.others, eraseCell]

/-- In canonical form the cells have different numbers. -/
theorem Table.WF.eq_of_fst {d : α} {t : Table α} (h : t.WF d) {a b : Nat × α} (ha : a ∈ t.cells) (hb : b ∈ t.cells)
    (e : a.1 = b.1) : a = b := by
  by_contra hn
  have hd : t.cells.Pairwise (fun a b => a.1 ≠ b.1) := h.1.imp (fun h => Nat.ne_of_lt h)
  have : Std.Symm (fun a b : Nat × α => a.1 ≠ b.1) := ⟨fun _ _ h => h.symm⟩
  exact hd.forall ha hb hn e

/-- In canonical form a cell is what its number reads as. -/
theorem Table.WF.read_of_mem {d : α} {t : Table α} (h : t.WF d) {c : Nat × α} (hc : c ∈ t.cells) : t.read d c.1 = c.2 := by
  rcases t.read_cases d c.1 with ⟨-, hn⟩ | hm
  · exact absurd rfl (hn c hc)
  · exact congrArg Prod.snd (h.eq_of_fst hm hc rfl)

theorem Table.WF.mem_iff {d : α} {t : Table α} (h : t.WF d) {i : Nat} {v : α} : (i, v) ∈ t.cells ↔ t.read d i = v ∧ v ≠ d := by
  constructor
  · exact fun hm => ⟨h.read_of_mem hm, h.2 _ hm⟩
  · rintro ⟨rfl, hv⟩
    rcases t.read_cases d i with ⟨e, -⟩ | hm
    · exact absurd e hv
    · exact hm

/-- What holds of the value of an unlisted number holds of all cells exactly where it holds of every read. -/
theorem Table.WF.forall_cells {d : α} {t : Table α} (h : t.WF d) {P : α → Prop} (hd : P d) :
    (∀ c ∈ t.cells, P c.2) ↔ ∀ i, P (t.read d i) := by
  constructor
  · exact fun hc => t.read_forall (P := fun _ => P) d (fun _ => hd) hc
  · intro hr c hc
    rw [← h.read_of_mem hc]
    exact hr c.1

/-- The cells of a canonical table, the one of number `i` first where it is listed. -/
theorem Table.WF.perm_others [DecidableEq α] {d : α} {t : Table α} (h : t.WF d) (i : Nat) :
    t.cells.Perm ((if t.read d i = d then [] else [(i, t.read d i)]) ++ t.others i) := by
  have hn : t.cells.Nodup := h.1.imp (fun {a b} hab e => by rw [e] at hab; exact lt_irrefl _ hab)
  have ho : (t.others i).Nodup := hn.filter _
  refine (List.perm_ext_iff_of_nodup hn ?_).2 (fun c => ?_)
  · split
    · exact ho
    · exact List.nodup_cons.2 ⟨fun hm => (Table.mem_others.1 hm).2 rfl, ho⟩
  · rw [List.mem_append, Table.mem_others]
    by_cases e : c.1 = i
    · obtain ⟨k, v⟩ := c
      obtain rfl : k = i := e
      rw [h.mem_iff]
      split <;> simp <;> grind
    · have : c ∉ (if t.read d i = d then [] else [(i, t.read d i)]) := by
        split
        · simp
        · rw [List.mem_singleton]
          rintro rfl
          exact e rfl
      simp [this, e]

/-- What the cells list together, number `i` first. -/
theorem Table.WF.flatMap_perm [DecidableEq α] {β : Type} {d : α} {t : Table α} (h : t.WF d) (f : α → List β) (hf : f d = [])
    (i : Nat) : (t.cells.flatMap (fun c => f c.2)).Perm (f (t.read d i) ++ (t.others i).flatMap (fun c => f c.2)) := by
  refine ((h.perm_others i).flatMap_right _).trans ?_
  split
  · rename_i e
    simp [e, hf]
  · simp

/-- What the cells count together, number `i` first. -/
theorem Table.WF.sum_eq [DecidableEq α] {d : α} {t : Table α} (h : t.WF d) (f : α → Nat) (hf : f d = 0) (i : Nat) :
    (t.cells.map (fun c => f c.2)).sum = f (t.read d i) + ((t.others i).map (fun c => f c.2)).sum := by
  rw [((h.perm_others i).map _).sum_eq]
  split
  · rename_i e
    simp [e, hf]
  · simp

end Sys2Proof.Machine
end

-- ==== Proofs: traffic ====
section
/-!
SUPPORT. What the shared operations outside the engine are made of. A notice posts copies where there is room, marks losses and
sets the part fault condition (R175 to R177); the traffic of documents and queues is notices, writes of destinations and
documents, and freed documents. An operation is shown once to be made of such changes; a promise that every change keeps is then
kept by the operation.
-/

namespace Sys2Proof.Machine

open Relation (ReflTransGen)

/-- One change by a notice (R175 to R177). -/
inductive State.Notified : State → State → Prop
  | post {s : State} (n : Nat) (r : Reply) (room : s.replyRoom n = true) : Notified s (s.appendReply n r)
  | lost {s : State} (n : Nat) : Notified s (s.setNoticeLost n)
  | fault {s : State} : Notified s { s with spu := { s.spu with fault := true } }

/-- Changes by notices, one after another. -/
abbrev State.Notices : State → State → Prop := ReflTransGen State.Notified

/-- One change by the traffic of documents and queues: of a destination, which goes on accepting where it did; of a document,
which keeps its pages and is not made FREE; or a document is freed with all it holds. -/
inductive State.Move : State → State → Prop
  | notified {s t : State} (h : s.Notified t) : Move s t
  | hold {s : State} (b : Bool) : Move s { s with bsm := { s.bsm with storeHold := b } }
  | work {s : State} (n : Nat) : Move s (s.setWork n)
  | destination {s : State} (n : Nat) (x : Destination) (accepts : (s.destination n).accepting = true → x.accepting = true) :
      Move s (s.setDestination n x)
  | document {s : State} (i : Nat) (d : Document) (pages : d.pages = (s.document i).pages)
      (free : d.state = .free → (s.document i).state = .free) : Move s (s.setDocument i d)
  | free {s : State} (i : Nat) : Move s (s.freeDocument i)

/-- The traffic of documents and queues. -/
abbrev State.Traffic : State → State → Prop := ReflTransGen State.Move

/-- One change, seen from the ports and the destinations: a notice; the flags of a slot; a destination, which goes on accepting
where it did; or anything in the block store, the contexts, the document table and the marks on the slots. -/
inductive State.Change : State → State → Prop
  | notified {s t : State} (h : s.Notified t) : Change s t
  | flags {s : State} (n : Nat) (framing lost work : Bool) :
      Change s (s.setStation n { s.station n with framing := framing, noticeLost := lost, work := work })
  | destination {s : State} (n : Nat) (x : Destination) (accepts : (s.destination n).accepting = true → x.accepting = true) :
      Change s (s.setDestination n x)
  | inner {s : State} (b : Bsm) (iu : Iu) (dt : Dt) (fault : Bool) (marks : List Nat) (k : Nat) :
      Change s { s with bsm := b, iu := iu, dt := dt, spu := { s.spu with fault := fault, underReset := marks }, choice := k }

/-- Changes that leave the engine, the reservations and the requests alone. -/
abbrev State.Changes : State → State → Prop := ReflTransGen State.Change

theorem State.Traffic.trans {s t u : State} (h : s.Traffic t) (k : t.Traffic u) : s.Traffic u := ReflTransGen.trans h k

theorem State.Traffic.after {s t u : State} (k : t.Traffic u) (h : s.Traffic t) : s.Traffic u := h.trans k

theorem State.Changes.trans {s t u : State} (h : s.Changes t) (k : t.Changes u) : s.Changes u := ReflTransGen.trans h k

theorem State.Changes.after {s t u : State} (k : t.Changes u) (h : s.Changes t) : s.Changes u := h.trans k

/-- A fold of operations made of changes is made of changes. -/
theorem ReflTransGen.foldl {R : State → State → Prop} {α : Type} (f : State → α → State)
    (h : ∀ s a, ReflTransGen R s (f s a)) (l : List α) (s : State) : ReflTransGen R s (l.foldl f s) := by
  induction l generalizing s with
  | nil => exact .refl
  | cons a l ih => exact (h s a).trans (ih (f s a))

variable (s : State)

/-! ## Notices -/

theorem State.notices_postCopy (n : Nat) (r : Reply) : s.Notices (s.postCopy n r) := by
  unfold State.postCopy
  cases hp : s.postingOf n with
  | posted =>
    refine .single (.post n r ?_)
    unfold State.postingOf at hp
    split at hp
    · cases hp
    · by_contra hr
      simp [hr] at hp
  | muted => exact .refl
  | lost => exact .refl

theorem State.notices_postCopies (r : Reply) (ns : List Nat) : s.Notices (s.postCopies r ns) := by
  induction ns generalizing s with
  | nil => exact .refl
  | cons n ns ih => exact (s.notices_postCopy n r).trans (ih _)

theorem State.notices_overrun (kind : Status) (n : Nat) : s.Notices (s.overrun kind n) :=
  .head (.lost n) (State.notices_postCopies _ _ _)

theorem State.notices_sendUnderFault (kind : Status) (ws : List Word) (ns : List Nat) :
    s.Notices (s.sendUnderFault kind ws ns) :=
  (s.notices_postCopies _ _).trans (ReflTransGen.foldl _ (fun s n => s.notices_overrun kind n) _ _)

theorem State.notices_setFault : s.Notices s.setFault := by
  unfold State.setFault
  split
  · exact .refl
  · dsimp only
    split
    · exact .single .fault
    · exact .head .fault (State.notices_sendUnderFault _ _ _ _)

theorem State.notices_escalate (kind : Status) (n : Nat) : s.Notices (s.escalate kind n) := by
  unfold State.escalate
  split
  · exact (s.notices_overrun kind n).trans (State.notices_setFault _)
  · exact s.notices_overrun kind n

/-- A notice is made of copies posted where there is room, of losses and of the fault condition. -/
theorem State.notices_send (kind : Status) (ws : List Word) (ns : List Nat) : s.Notices (s.send kind ws ns) :=
  (s.notices_postCopies _ _).trans (ReflTransGen.foldl _ (fun s n => s.notices_escalate kind n) _ _)

theorem State.notices_announceHeld (was : Bool) : s.Notices (s.announceHeld was) := by
  unfold State.announceHeld
  split
  · exact .refl
  · exact s.notices_send _ _ _

/-- The intake hold test changes the STORE cause, and notices go out; while the part is not READY it does nothing. -/
theorem State.holdTest_notices : ∃ b, ({ s with bsm := { s.bsm with storeHold := b } } : State).Notices s.holdTest := by
  unfold State.holdTest
  split
  · exact ⟨_, State.notices_announceHeld _ _⟩
  · exact ⟨s.bsm.storeHold, .refl⟩
  · exact ⟨s.bsm.storeHold, .refl⟩

theorem State.Notices.traffic {s t : State} (h : s.Notices t) : s.Traffic t :=
  ReflTransGen.mono (fun _ _ k => State.Move.notified k) _ _ h

theorem State.Notices.changes {s t : State} (h : s.Notices t) : s.Changes t :=
  ReflTransGen.mono (fun _ _ k => State.Change.notified k) _ _ h

/-! ## Documents and queues -/

theorem State.traffic_send (kind : Status) (ws : List Word) (ns : List Nat) : s.Traffic (s.send kind ws ns) :=
  (s.notices_send _ _ _).traffic

theorem State.traffic_setDestination (n : Nat) (x : Destination)
    (h : (s.destination n).accepting = true → x.accepting = true) : s.Traffic (s.setDestination n x) := .single (.destination n x h)

theorem State.traffic_setDocument (i : Nat) (d : Document) (hp : d.pages = (s.document i).pages)
    (hf : d.state = .free → (s.document i).state = .free) : s.Traffic (s.setDocument i d) := .single (.document i d hp hf)

theorem State.traffic_releaseTest (i : Nat) : s.Traffic (s.releaseTest i) := by
  unfold State.releaseTest
  split
  · exact .single (.free i)
  · exact .refl

theorem State.traffic_sendUnrouted (i cause : Nat) : s.Traffic (s.sendUnrouted i cause) := s.traffic_send _ _ _

theorem State.traffic_settle (i : Nat) : s.Traffic (s.settle i) := by
  unfold State.settle
  dsimp only
  split
  · exact (State.traffic_sendUnrouted _ _ _).after (s.traffic_setDocument i _ (by rfl) (by simp))
  · exact (State.traffic_releaseTest _ _).after (s.traffic_setDocument i _ (by rfl) (by simp))

theorem State.traffic_settleIfEmpty (i : Nat) : s.Traffic (s.settleIfEmpty i) := by
  unfold State.settleIfEmpty
  dsimp only
  split
  · exact s.traffic_settle i
  · exact .refl

theorem State.traffic_signalWork (dest : Nat) : s.Traffic (s.signalWork dest) := by
  unfold State.signalWork
  dsimp only
  split
  · exact .refl
  · split
    · exact .single (.work _)
    · exact .refl

theorem Destination.joinTail_state (d : Destination) (p : Priority) (x : QueueItem) : (d.joinTail p x).state = d.state := by
  cases p <;> rfl

theorem Destination.joinHead_state (d : Destination) (p : Priority) (x : QueueItem) : (d.joinHead p x).state = d.state := by
  cases p <;> rfl

theorem Destination.accepting_of_state {d e : Destination} (h : e.state = d.state) : d.accepting = true → e.accepting = true := by
  simp only [Destination.accepting, h, imp_self]

theorem State.traffic_joined (dest : Nat) (d : Destination) (h : d.state = (s.destination dest).state) :
    s.Traffic (s.joined dest d) := by
  have hd : s.Traffic (s.setDestination dest d) := s.traffic_setDestination _ _ (Destination.accepting_of_state h)
  unfold State.joined
  dsimp only
  split
  · exact hd.trans (State.traffic_signalWork _ _)
  · exact hd

theorem State.traffic_joinTail (dest i p : Nat) : s.Traffic (s.joinTail dest i p) :=
  s.traffic_joined _ _ (Destination.joinTail_state _ _ _)

theorem State.traffic_joinHead (dest i p : Nat) : s.Traffic (s.joinHead dest i p) :=
  s.traffic_joined _ _ (Destination.joinHead_state _ _ _)

theorem State.traffic_leaveQueue (dest i p : Nat) : s.Traffic (s.leaveQueue dest i p) := s.traffic_setDestination _ _ id

theorem State.traffic_leaveCheckouts (dest i p : Nat) : s.Traffic (s.leaveCheckouts dest i p) := s.traffic_setDestination _ _ id

theorem State.traffic_changeDest (dest : Nat) (st : DestState)
    (h : (s.destination dest).accepting = true → ({ s.destination dest with state := st } : Destination).accepting = true) :
    s.Traffic (s.changeDest dest st) := by
  unfold State.changeDest
  dsimp only
  split
  · exact s.traffic_setDestination _ _ h
  · exact (s.traffic_setDestination _ _ h).trans (State.traffic_send _ _ _ _)

theorem State.traffic_closeIfDrained (dest : Nat) : s.Traffic (s.closeIfDrained dest) := by
  unfold State.closeIfDrained
  dsimp only
  split
  · rename_i h
    exact s.traffic_changeDest _ _ (by simp [Destination.accepting, h.1])
  · exact .refl

theorem State.traffic_setEntry (i p : Nat) (e : Entry) : s.Traffic (s.setEntry i p e) := s.traffic_setDocument _ _ rfl id

theorem State.traffic_settleEntry (i p : Nat) (e : Entry) (st : EntryState) : s.Traffic (s.settleEntry i p e st) :=
  s.traffic_setEntry _ _ _

theorem State.traffic_moveEntry (i p : Nat) (e : Entry) : s.Traffic (s.moveEntry i p e) := by
  unfold State.moveEntry
  split
  · exact (s.traffic_setEntry _ _ _).trans (State.traffic_joinTail _ _ _ _)
  · exact s.traffic_settleEntry _ _ _ _

theorem State.traffic_makeUndeliverable (i p : Nat) (e : Entry) (reason : Nat) : s.Traffic (s.makeUndeliverable i p e reason) :=
  (s.traffic_settleEntry _ _ _ _).trans (State.traffic_send _ _ _ _)

theorem State.traffic_comeBack (i p : Nat) (e : Entry) (reason : Nat) : s.Traffic (s.comeBack i p e reason) := by
  unfold State.comeBack
  refine ReflTransGen.trans ?_ (State.traffic_closeIfDrained _ _)
  refine ReflTransGen.trans ?_ (State.traffic_settleIfEmpty _ _)
  refine (s.traffic_leaveCheckouts e.destination i p).trans ?_
  split
  · exact State.traffic_makeUndeliverable _ _ _ _ _
  · exact (State.traffic_setEntry _ _ _ _).trans (State.traffic_joinTail _ _ _ _)
  · exact State.traffic_moveEntry _ _ _ _

theorem State.traffic_resetReturn (i p : Nat) (e : Entry) : s.Traffic (s.resetReturn i p e) := by
  unfold State.resetReturn
  refine ReflTransGen.trans ?_ (State.traffic_closeIfDrained _ _)
  refine ReflTransGen.trans ?_ (State.traffic_settleIfEmpty _ _)
  refine (s.traffic_leaveCheckouts e.destination i p).trans ?_
  split
  · exact (State.traffic_setEntry _ _ _ _).trans (State.traffic_joinHead _ _ _ _)
  · exact State.traffic_moveEntry _ _ _ _

theorem State.traffic_returnCheckoutItem (x : Checkout) : s.Traffic (s.returnCheckoutItem x) := by
  unfold State.returnCheckoutItem
  split
  · exact .refl
  · exact s.traffic_resetReturn _ _ _

theorem State.traffic_returnCheckouts (who : Nat → Bool) : s.Traffic (s.returnCheckouts who) :=
  ReflTransGen.foldl _ (fun s _ => ReflTransGen.foldl _ (fun s x => s.traffic_returnCheckoutItem x) _ s) _ s

/-! ## Completion, and what the commands of delivery do -/

theorem State.traffic_recheckEntry (i p : Nat) : s.Traffic (s.recheckEntry i p) := by
  unfold State.recheckEntry
  split
  · exact .refl
  split
  · split
    · exact (s.traffic_setEntry _ _ _).trans (State.traffic_joinTail _ _ _ _)
    · exact s.traffic_moveEntry _ _ _
  · exact .refl

theorem State.traffic_recheck (i : Nat) : s.Traffic (s.recheck i) := ReflTransGen.foldl _ (fun s p => s.traffic_recheckEntry i p) _ s

theorem State.traffic_completeDocument (i : Nat) (b : Bool) : s.Traffic (s.completeDocument i b) := by
  unfold State.completeDocument
  dsimp only
  have h := (State.traffic_recheck _ i).after (s.traffic_setDocument i { s.document i with
    endTime := some s.tb.clock, incomplete := (s.document i).incomplete || b } rfl id)
  generalize State.recheck _ i = u at h ⊢
  split
  · exact ((State.traffic_sendUnrouted _ _ _).after (State.traffic_setDocument _ i _ (by rfl) (by simp))).after h
  · exact (State.traffic_setDocument _ i _ (by rfl) (by simp)).after h

theorem State.traffic_finishDocument (i : Nat) (b : Bool) : s.Traffic (s.finishDocument i b) := by
  unfold State.finishDocument
  split
  · exact .single (.free i)
  · exact s.traffic_completeDocument i b

theorem State.traffic_expelItem (n : Nat) (x : QueueItem) : s.Traffic (s.expelItem n x) := by
  unfold State.expelItem
  dsimp only
  split
  · exact s.traffic_leaveQueue _ _ _
  · exact ((s.traffic_leaveQueue _ _ _).trans (State.traffic_moveEntry _ _ _ _)).trans (State.traffic_settleIfEmpty _ _)

theorem State.traffic_expelQueue (n moved withdrawn : Nat) (xs : List QueueItem) :
    s.Traffic (s.expelQueue n moved withdrawn xs).1 := by
  induction xs generalizing s moved withdrawn with
  | nil => exact .refl
  | cons x xs ih =>
    unfold State.expelQueue
    split
    · exact (s.traffic_expelItem n x).trans (ih _ _ _)
    · exact (s.traffic_expelItem n x).trans (ih _ _ _)

theorem State.traffic_dropHead (n : Nat) (x : QueueItem) (e : Entry) : s.Traffic (s.dropHead n x e) :=
  ((s.traffic_leaveQueue _ _ _).trans (State.traffic_makeUndeliverable _ _ _ _ _)).trans (State.traffic_settleIfEmpty _ _)

theorem State.traffic_dropSpent (n fuel : Nat) : s.Traffic (State.dropSpent n fuel s) := by
  induction fuel generalizing s with
  | zero => exact .refl
  | succ fuel ih =>
    unfold State.dropSpent
    split
    · exact .refl
    split
    · exact .refl
    split
    · exact (s.traffic_dropHead _ _ _).trans (ih _)
    · exact .refl

theorem State.traffic_takeHead (slot n : Nat) (x : QueueItem) (e : Entry) : s.Traffic (s.takeHead slot n x e) :=
  ((s.traffic_leaveQueue _ _ _).trans (State.traffic_setEntry _ _ _ _)).trans (State.traffic_setDestination _ _ _ id)

theorem State.traffic_confirmed (i p : Nat) (e : Entry) : s.Traffic (s.confirmed i p e) :=
  (((s.traffic_leaveCheckouts _ _ _).trans (State.traffic_settleEntry _ _ _ _ _)).trans (State.traffic_settleIfEmpty _ _)).trans
    (State.traffic_closeIfDrained _ _)

theorem State.traffic_sendExpired (i p : Nat) (e : Entry) : s.Traffic (s.sendExpired i p e) := by
  unfold State.sendExpired
  split
  · exact .refl
  · exact s.traffic_send _ _ _

theorem State.traffic_purgeEntry (i p : Nat) : s.Traffic (s.purgeEntry i p) := by
  unfold State.purgeEntry
  split
  · exact .refl
  split
  · exact (s.traffic_leaveQueue _ _ _).trans (State.traffic_settleEntry _ _ _ _ _)
  · exact ((s.traffic_leaveCheckouts _ _ _).trans (State.traffic_settleEntry _ _ _ _ _)).trans (State.traffic_closeIfDrained _ _)
  · exact s.traffic_settleEntry _ _ _ _
  all_goals exact .refl

theorem State.traffic_purgeFinish (i : Nat) : s.Traffic (s.purgeFinish i) := by
  unfold State.purgeFinish
  dsimp only
  split
  · exact .refl
  all_goals
    split
    · exact .single (.free i)
    · exact s.traffic_setDocument i { s.document i with state := .purgePending } rfl (by simp)

theorem State.traffic_joinPlaced (i : Nat) (x : Nat × Placement) : s.Traffic (s.joinPlaced i x) := by
  unfold State.joinPlaced
  split
  · exact .refl
  · exact s.traffic_joinTail _ _ _
  · exact s.traffic_joinTail _ _ _

theorem State.traffic_rerouted (i : Nat) (d : Document) (xs : List (Nat × Placement)) (hp : d.pages = (s.document i).pages) :
    s.Traffic (s.rerouted i d xs) :=
  (State.traffic_settleIfEmpty _ _).after (State.Traffic.after (ReflTransGen.foldl _ (fun s x => s.traffic_joinPlaced i x) _ _)
    (s.traffic_setDocument i { d with state := .queued, settleTime := none, retentionDeadline := none } hp (by simp)))

/-! ## Seen from the ports and the destinations -/

theorem State.changes_inner (b : Bsm) (iu : Iu) (dt : Dt) : s.Changes { s with bsm := b, iu := iu, dt := dt } :=
  .single (.inner b iu dt s.spu.fault s.spu.underReset s.choice)

theorem State.changes_bsm (b : Bsm) : s.Changes { s with bsm := b } := s.changes_inner b s.iu s.dt

theorem State.changes_setContext (n : Nat) (x : Option Context) : s.Changes (s.setContext n x) := s.changes_inner s.bsm _ s.dt

theorem State.changes_setDocument (i : Nat) (d : Document) : s.Changes (s.setDocument i d) := s.changes_inner s.bsm s.iu _

theorem State.changes_setPage (p : Nat) (r : Option PageRecord) : s.Changes (s.setPage p r) := s.changes_inner s.bsm s.iu _

theorem State.changes_setDestination (n : Nat) (x : Destination)
    (h : (s.destination n).accepting = true → x.accepting = true) : s.Changes (s.setDestination n x) := .single (.destination n x h)

theorem State.changes_setWork (n : Nat) : s.Changes (s.setWork n) :=
  .single (.flags n (s.station n).framing (s.station n).noticeLost true)

theorem State.changes_markReset (ns : List Nat) : s.Changes (s.markReset ns) :=
  .single (.inner s.bsm s.iu s.dt s.spu.fault ns s.choice)

theorem State.changes_choiceMade : s.Changes s.choiceMade :=
  .single (.inner s.bsm s.iu s.dt s.spu.fault s.spu.underReset (s.choice + 1))

theorem State.changes_holdTest : s.Changes s.holdTest :=
  let ⟨_, h⟩ := s.holdTest_notices
  (s.changes_bsm _).trans h.changes

theorem State.changes_releaseBlocks (ns : List Block) : s.Changes (s.releaseBlocks ns) :=
  (s.changes_bsm _).trans (State.changes_holdTest _)

theorem State.changes_freeDocument (i : Nat) : s.Changes (s.freeDocument i) :=
  ((s.changes_releaseBlocks _).trans (ReflTransGen.foldl _ (fun s p => s.changes_setPage p none) _ _)).trans
    (State.changes_setDocument _ _ _)

theorem State.Move.changes {s t : State} (h : s.Move t) : s.Changes t := by
  cases h with
  | notified h => exact .single (.notified h)
  | hold b => exact s.changes_bsm _
  | work n => exact s.changes_setWork n
  | destination n x h => exact s.changes_setDestination n x h
  | document i d _ _ => exact s.changes_setDocument i d
  | free i => exact s.changes_freeDocument i

theorem State.Traffic.changes {s t : State} (h : s.Traffic t) : s.Changes t := by
  induction h with
  | refl => exact .refl
  | tail _ k ih => exact ih.trans k.changes

/-! ## Receptions and resets -/

theorem State.changes_reserveBlocks (k : Nat) : s.Changes (s.reserveBlocks k) :=
  (s.changes_bsm _).trans (State.changes_holdTest _)

theorem State.changes_releaseReservation (k : Nat) : s.Changes (s.releaseReservation k) :=
  (s.changes_bsm _).trans (State.changes_holdTest _)

theorem State.changes_discardPage (p : OpenPage) : s.Changes (s.discardPage p) :=
  (s.changes_releaseBlocks _).trans (State.changes_setPage _ _ _)

theorem State.changes_discardOpenPage (c : Context) : s.Changes (s.discardOpenPage c) := by
  unfold State.discardOpenPage
  cases c.openPage with
  | none => exact .refl
  | some p => exact s.changes_discardPage p

theorem State.changes_endReception (n : Nat) (c : Context) (b : Bool) : s.Changes (s.endReception n c b) :=
  (((s.changes_discardOpenPage c).trans (State.changes_releaseReservation _ _)).trans (State.changes_setContext _ _ _)).trans
    (State.traffic_finishDocument _ _ _).changes

theorem State.changes_endReceptionsOf (n : Nat) : s.Changes (s.endReceptionsOf n) := by
  refine (ReflTransGen.foldl _ (fun s n => ?_) _ s).trans (State.changes_choiceMade _)
  unfold State.interruptReception
  split
  · exact .refl
  · exact s.changes_endReception _ _ _

theorem State.changes_restoreFlags (n : Nat) : s.Changes (s.restoreFlags n) := by
  have h : s.Changes (s.setStation n (s.station n).flagsCleared) := .single (.flags n false false false)
  unfold State.restoreFlags
  dsimp only
  split
  · exact h.trans (State.changes_setWork _ _)
  · exact h

theorem State.changes_idleEnd (n : Nat) (c : Context) : s.Changes (s.idleEnd n c) :=
  (s.changes_endReception n c true).trans (State.traffic_send _ _ _ _).changes

theorem State.changes_storeRecord (n : Nat) (c : Context) (p : OpenPage) (ws : List Word) :
    s.Changes (s.storeRecord n c p ws).1 := by
  unfold State.storeRecord
  split
  · exact s.changes_setContext _ _
  split
  · exact (s.changes_bsm _).trans (State.changes_setContext _ _ _)
  split
  · exact s.changes_setContext _ _
  split
  · exact s.changes_setContext _ _
  · exact ((s.changes_bsm _).trans (State.changes_setContext _ _ _)).trans (State.changes_holdTest _)

theorem State.changes_parseWord (n : Nat) (w : Word) : s.Changes (s.parseWord n w).1 := by
  unfold State.parseWord
  split
  · exact .refl
  split
  · exact .refl
  split
  · exact .refl
  · split
    · exact s.changes_setContext _ _
    split
    · exact s.changes_storeRecord _ _ _ _
    · exact s.changes_setContext _ _
  · split
    · exact s.changes_storeRecord _ _ _ _
    · exact s.changes_setContext _ _

theorem State.changes_parseWords (n : Nat) (ws : List Word) : s.Changes (s.parseWords n ws).state := by
  induction ws generalizing s with
  | nil => exact .refl
  | cons w ws ih =>
    have h := s.changes_parseWord n w
    unfold State.parseWords
    generalize s.parseWord n w = x at h ⊢
    obtain ⟨s', full⟩ := x
    cases full
    · exact h.trans (ih s')
    · exact h

theorem State.changes_openPageIn (n : Nat) (c : Context) (p : Nat) : s.Changes (s.openPageIn n c p).1 :=
  (s.changes_setPage _ _).trans (State.changes_setContext _ _ _)

theorem State.changes_commitPage (i : Nat) (p : OpenPage) (v : Verdict) (f : PageFlags) : s.Changes (s.commitPage i p v f) :=
  (s.changes_setPage _ _).trans (State.changes_setDocument _ _ _)

/-! ## The stages of the scan -/

theorem State.changes_scanContext (n : Nat) : s.Changes (s.scanContext n) := by
  unfold State.scanContext
  split
  · exact .refl
  · rename_i c _
    have h : s.Changes (c.openPage.elim s (fun p => s.setPage p.record none)) := by
      cases c.openPage with
      | none => exact .refl
      | some p => exact s.changes_setPage _ _
    exact (h.trans (State.changes_setContext _ _ _)).trans (State.traffic_finishDocument _ _ _).changes

theorem State.changes_scanFirstContexts (k : Nat) : s.Changes (s.scanFirstContexts k) :=
  ReflTransGen.foldl _ (fun s n => s.changes_scanContext n) _ s

theorem State.changes_scanContexts : s.Changes s.scanContexts :=
  ((s.changes_scanFirstContexts _).trans (State.changes_choiceMade _)).trans (State.changes_inner _ _ _ _)

theorem State.changes_scanHold : s.Changes s.scanHold := (s.changes_bsm _).trans (State.notices_announceHeld _ _).changes

theorem State.traffic_scanFirstPurges (k : Nat) : ({ s with part := .ready } : State).Traffic (s.scanFirstPurges k) :=
  ReflTransGen.foldl _ (fun _ n => .single (.free n)) _ _

theorem State.traffic_scanFirstReleases (k : Nat) : s.Traffic (s.scanFirstReleases k) :=
  ReflTransGen.foldl _ (fun s n => s.traffic_releaseTest n) _ s

/-! ## What changes keep -/

/-- A destination that accepts new work goes on accepting. -/
def State.Accepts (s t : State) : Prop := ∀ d, (s.destination d).accepting = true → (t.destination d).accepting = true

theorem State.Notified.rest {s t : State} (h : s.Notified t) : t = { s with spu := t.spu } := by cases h <;> rfl

theorem State.Notices.rest {s t : State} (h : s.Notices t) : t = { s with spu := t.spu } := by
  induction h with
  | refl => rfl
  | tail _ k ih => rw [k.rest, ih]

theorem State.Change.accepts {s t : State} (h : s.Change t) : s.Accepts t := by
  cases h with
  | notified h =>
    rw [h.rest]
    exact fun _ => id
  | flags n _ _ _ => exact fun _ => id
  | destination n x h =>
    intro d hd
    rw [State.destination_setDestination]
    split
    · rename_i e
      subst e
      exact h hd
    · exact hd
  | inner _ _ _ _ _ _ => exact fun _ => id

theorem State.Changes.accepts {s t : State} (h : s.Changes t) : s.Accepts t := by
  induction h with
  | refl => exact fun _ => id
  | tail _ k ih => exact fun d hd => k.accepts d (ih d hd)

theorem State.Change.te {s t : State} (h : s.Change t) : t.te = s.te := by
  cases h with
  | notified h => rw [h.rest]
  | _ => rfl

theorem State.Changes.te {s t : State} (h : s.Changes t) : t.te = s.te := by
  induction h with
  | refl => rfl
  | tail _ k ih => exact k.te.trans ih

theorem State.Change.part {s t : State} (h : s.Change t) : t.part = s.part := by
  cases h with
  | notified h => rw [h.rest]
  | _ => rfl

theorem State.Changes.part {s t : State} (h : s.Changes t) : t.part = s.part := by
  induction h with
  | refl => rfl
  | tail _ k ih => exact k.part.trans ih

/-- The traffic of documents and queues leaves the reception contexts alone. -/
theorem State.Move.iu {s t : State} (h : s.Move t) : t.iu = s.iu := by
  cases h with
  | notified h => rw [h.rest]
  | free i =>
    obtain ⟨b, h⟩ := ({ s with bsm := s.bsm.pushAll (s.documentBlocks (s.document i)) } : State).holdTest_notices
    have key : ∀ (ps : List Nat) (u : State), (u.freePages ps).iu = u.iu := fun ps => by
      induction ps with
      | nil => exact fun _ => rfl
      | cons p ps ih => exact fun u => (ih (u.setPage p none)).trans rfl
    have hr : (s.releaseBlocks (s.documentBlocks (s.document i))).iu = s.iu := by
      unfold State.releaseBlocks
      rw [h.rest]
    exact (key _ _).trans hr
  | _ => rfl

theorem State.Traffic.iu {s t : State} (h : s.Traffic t) : t.iu = s.iu := by
  induction h with
  | refl => rfl
  | tail _ k ih => exact k.iu.trans ih

end Sys2Proof.Machine
end

-- ==== Proofs: the engine ====
section
/-!
SUPPORT. What the Transfer Engine does outside its own registers: notices, replies into reservations, a reception back to
PAGE_OPEN, a checkout deadline set anew, and the freeing of a document that waited for its jobs (R161).
-/

namespace Sys2Proof.Machine

open Relation (ReflTransGen)

/-- One change by the engine. -/
inductive State.EngineMove : State → State → Prop
  | notified {s t : State} (h : s.Notified t) : EngineMove s t
  | te {s : State} (x : Te) (level : x.level = s.te.level) (mode : x.mode = s.te.mode) : EngineMove s { s with te := x }
  | fill {s : State} (n : Nat) (r : Reply) : EngineMove s (s.fillReservation n r)
  | context {s : State} (n : Nat) (c c' : Context) (carries : s.context n = some c) (handle : c'.handle = c.handle)
      (page : c'.openPage = c.openPage) (reservation : c'.reservation = c.reservation) (state : c'.state ≠ .betweenPages) :
      EngineMove s (s.setContext n (some c'))
  | deadline {s : State} (i p : Nat) (e : Entry) (t : Option Nat) (entry : (s.document i).entry p = some e) :
      EngineMove s (s.setEntry i p { e with deadline := t })
  | free {s : State} (i : Nat) (h : (s.document i).state = .purgePending ∨ (s.document i).state = .done) :
      EngineMove s (s.freeDocument i)

/-- The work of the engine. -/
abbrev State.Engine : State → State → Prop := ReflTransGen State.EngineMove

theorem State.Engine.trans {s t u : State} (h : s.Engine t) (k : t.Engine u) : s.Engine u := ReflTransGen.trans h k

theorem State.Engine.after {s t u : State} (k : t.Engine u) (h : s.Engine t) : s.Engine u := h.trans k

theorem State.Engine.ite {s t u : State} (p : Prop) [Decidable p] (ht : s.Engine t) (hu : s.Engine u) :
    s.Engine (if p then t else u) := by
  split
  · exact ht
  · exact hu

variable (s : State)

theorem State.Notices.engine {s t : State} (h : s.Notices t) : s.Engine t :=
  ReflTransGen.mono (fun _ _ k => State.EngineMove.notified k) _ _ h

theorem State.engine_te (x : Te) (hl : x.level = s.te.level) (hm : x.mode = s.te.mode) : s.Engine { s with te := x } :=
  .single (.te x hl hm)

theorem State.engine_replaceJob (j k : Job) : s.Engine (s.replaceJob j k) := s.engine_te _ rfl rfl

theorem State.engine_assignChannels : s.Engine s.assignChannels := by
  refine ReflTransGen.foldl _ (fun s c => ?_) _ s
  unfold State.assignChannel
  split
  · exact .refl
  split
  · exact .refl
  · exact s.engine_replaceJob _ _

/-- Step 2 of the end of a job. -/
theorem State.engine_ownerEnd (j : Job) : s.Engine (s.ownerEnd j) := by
  unfold State.ownerEnd
  split
  · split
    · exact .refl
    split
    · exact .refl
    · rename_i c hc
      exact .single (.context _ c _ hc rfl rfl rfl (by simp))
  · split
    · exact .refl
    · rename_i e he
      split
      · exact .single (.deadline _ _ e _ he)
      · exact .refl

theorem State.engine_releaseTest (i : Nat) : s.Engine (s.releaseTest i) := by
  unfold State.releaseTest
  split
  · rename_i h
    simp only [State.releasable, Bool.and_eq_true, decide_eq_true_eq] at h
    exact .single (.free i (.inr h.1.1.1.1))
  · exact .refl

/-- Step 4 of the end of a job. -/
theorem State.engine_documentEnd (j : Job) : s.Engine (s.documentEnd j) := by
  unfold State.documentEnd
  split
  · exact .refl
  · split
    · split
      · rename_i h
        exact .single (.free _ (.inl h))
      · exact s.engine_releaseTest _
      all_goals exact .refl
    · exact .refl

theorem State.engine_endJob (j : Job) (outcome : Status) : s.Engine (s.endJob j outcome) := by
  unfold State.endJob
  refine (State.engine_documentEnd _ _).after ?_
  have h : s.Engine ((({ s with te := { s.te with jobs := s.te.jobs.erase j } } : State).assignChannels).ownerEnd j) :=
    ((State.engine_ownerEnd _ _).after (State.engine_assignChannels _)).after (s.engine_te _ rfl rfl)
  split
  · exact h
  · exact h.tail (.fill _ _)

theorem State.engine_beginWalks (fuel : Nat) : s.Engine (State.beginWalks fuel s) := by
  induction fuel generalizing s with
  | zero => exact .refl
  | succ fuel ih =>
    unfold State.beginWalks
    split
    · exact .refl
    split
    · exact (s.engine_replaceJob _ _).trans (ih _)
    · exact (s.engine_endJob _ _).trans (ih _)

theorem State.engine_updateRequest : s.Engine s.updateRequest := by
  unfold State.updateRequest
  split
  · exact .refl
  split
  · exact s.engine_te _ rfl rfl
  split
  · exact .refl
  · exact s.engine_te _ rfl rfl

theorem State.engine_runEngine : s.Engine s.runEngine := (s.engine_beginWalks _).trans (State.engine_updateRequest _)

theorem State.engine_queueJob (j : Job) : s.Engine (s.queueJob j) :=
  ((State.engine_runEngine _).after (State.engine_assignChannels _)).after (s.engine_te _ rfl rfl)

theorem State.engine_cancelJobs (p : Job → Bool) (detach suppress : Bool) : s.Engine (s.cancelJobs p detach suppress) :=
  ((State.engine_runEngine _).after (ReflTransGen.foldl _ (fun s j => s.engine_endJob j .cancelled) _ _)).after
    (s.engine_te _ rfl rfl)

theorem State.engine_grantBurst (m : BusMode) : s.Engine (s.grantBurst m) := by
  unfold State.grantBurst
  split
  · exact s.engine_te _ rfl rfl
  split
  · exact s.engine_te _ rfl rfl
  · exact s.engine_te _ rfl rfl

theorem State.engine_afterBurst (m : BusMode) : s.Engine (s.afterBurst m) := by
  unfold State.afterBurst
  split
  · exact (State.engine_updateRequest _).after (s.engine_te _ rfl rfl)
  · exact (s.engine_grantBurst _).trans (State.engine_updateRequest _)

theorem State.engine_notifyRegion (j : Job) (c : Descriptor) (n : Nat) : s.Engine (s.notifyRegion j c n) := by
  unfold State.notifyRegion
  split
  · exact (s.notices_send _ _ _).engine
  · exact .refl

theorem State.engine_nextDescriptor (j : Job) (c : Descriptor) (x : Status) : s.Engine (s.nextDescriptor j c x) := by
  unfold State.nextDescriptor
  split
  · exact s.engine_endJob _ _
  split
  · exact s.engine_replaceJob _ _
  · exact s.engine_endJob _ _

theorem State.engine_fetchComplete (j : Job) (a : Word) (ws : List Word) : s.Engine (s.fetchComplete j a ws) := by
  unfold State.fetchComplete
  dsimp only
  split
  · exact (State.engine_endJob _ _ _).after (s.engine_replaceJob _ _)
  split
  · exact (State.engine_replaceJob _ _ _).after (s.engine_replaceJob _ _)
  · exact (State.engine_endJob _ _ _).after (s.engine_replaceJob _ _)

/-- A completed intake read: the parser has taken words, and the rest is the engine's work. -/
theorem State.engine_intakeComplete (j : Job) (c : Descriptor) (n : Nat) (b : Burst) (ws : List Word) :
    ∃ vs, (s.parseWords n vs).state.Engine (s.intakeComplete j c n b ws) := by
  unfold State.intakeComplete
  have h : ∃ vs, (if j.detached then (⟨s, 0, false⟩ : Parsed) else s.parseWords n (busWords ws (b.length / 4))).state
      = (s.parseWords n vs).state := by
    split
    · exact ⟨[], rfl⟩
    · exact ⟨_, rfl⟩
  obtain ⟨vs, h⟩ := h
  refine ⟨vs, ?_⟩
  rw [← h]
  generalize (if j.detached then (⟨s, 0, false⟩ : Parsed) else s.parseWords n (busWords ws (b.length / 4))) = r
  dsimp only
  split
  · exact (State.engine_endJob _ _ _).after (State.engine_replaceJob _ _ _)
  split
  · exact (State.engine_endJob _ _ _).after (State.engine_replaceJob _ _ _)
  split
  · exact ((State.engine_nextDescriptor _ _ _ _).after (State.engine_notifyRegion _ _ _ _)).after (State.engine_replaceJob _ _ _)
  · exact State.engine_replaceJob _ _ _

theorem State.engine_deliveryComplete (j : Job) (c : Descriptor) (d : Delivery) (b : Burst) :
    s.Engine (s.deliveryComplete j c d b) := by
  unfold State.deliveryComplete
  dsimp only
  have h : ∀ (p : Prop) [Decidable p] (k : Job) (c1 : Descriptor) (n : Nat),
      s.Engine (if p then (s.replaceJob j k).notifyRegion k c1 n else s.replaceJob j k) := fun p _ k c1 n =>
    .ite _ ((State.engine_notifyRegion _ _ _ _).after (s.engine_replaceJob _ _)) (s.engine_replaceJob _ _)
  refine .ite _ ?_ (.ite _ ?_ (.ite _ ?_ ?_))
  · exact (State.engine_endJob _ _ _).after (h _ _ _ _)
  · exact (State.engine_endJob _ _ _).after (h _ _ _ _)
  · exact (State.engine_nextDescriptor _ _ _ _).after (h _ _ _ _)
  · exact h _ _ _ _

/-- A completed burst: a parser may have taken words, and the rest is the engine's work. -/
theorem State.engine_burstDone (j : Job) (b : Burst) (ws : List Word) :
    ∃ n vs, (s.parseWords n vs).state.Engine (s.burstDone j b ws) := by
  unfold State.burstDone
  split
  · exact ⟨0, [], s.engine_fetchComplete _ _ _⟩
  split
  · exact ⟨0, [], .refl⟩
  split
  · exact ⟨_, s.engine_intakeComplete _ _ _ _ _⟩
  · exact ⟨0, [], s.engine_deliveryComplete _ _ _ _⟩

/-- The end of a burst: a parser may have taken words, and the rest is the engine's work. -/
theorem State.engine_burstEnd (f : State → Job → Burst → State)
    (h : ∀ j b, ∃ n vs, (s.parseWords n vs).state.Engine (f s j b)) : ∃ n vs, (s.parseWords n vs).state.Engine (s.burstEnd f) := by
  unfold State.burstEnd
  split
  · exact ⟨0, [], .refl⟩
  split
  · exact ⟨0, [], s.engine_afterBurst _⟩
  · obtain ⟨n, vs, h⟩ := h _ _
    exact ⟨n, vs, (h.trans (State.engine_beginWalks _ _)).trans (State.engine_afterBurst _ _)⟩

/-! ## What the engine's work keeps -/

theorem State.freeDocument_dqu (i : Nat) : (s.freeDocument i).dqu = s.dqu := by
  obtain ⟨b, h⟩ := ({ s with bsm := s.bsm.pushAll (s.documentBlocks (s.document i)) } : State).holdTest_notices
  have key : ∀ (ps : List Nat) (u : State), (u.freePages ps).dqu = u.dqu := fun ps => by
    induction ps with
    | nil => exact fun _ => rfl
    | cons p ps ih => exact fun u => (ih (u.setPage p none)).trans rfl
  have hr : (s.releaseBlocks (s.documentBlocks (s.document i))).dqu = s.dqu := by
    unfold State.releaseBlocks
    rw [h.rest]
  exact (key _ _).trans hr

theorem State.EngineMove.dqu {s t : State} (h : s.EngineMove t) : t.dqu = s.dqu := by
  cases h with
  | notified h => rw [h.rest]
  | free i _ => exact s.freeDocument_dqu i
  | _ => rfl

theorem State.Engine.dqu {s t : State} (h : s.Engine t) : t.dqu = s.dqu := by
  induction h with
  | refl => rfl
  | tail _ k ih => exact k.dqu.trans ih

theorem State.Engine.accepts {s t : State} (h : s.Engine t) : s.Accepts t := fun d hd => by
  simpa only [State.destination, h.dqu] using hd

/-- The engine leaves a reception its handle, its open page and its reservation. -/
theorem State.EngineMove.carries {s t : State} (h : s.EngineMove t) {n : Nat} {c : Context} (hc : s.context n = some c) :
    ∃ c', t.context n = some c' ∧ c'.handle = c.handle ∧ c'.openPage = c.openPage ∧ c'.reservation = c.reservation := by
  cases h with
  | notified h =>
    refine ⟨c, ?_, rfl, rfl, rfl⟩
    rw [h.rest]
    exact hc
  | te _ _ _ => exact ⟨c, hc, rfl, rfl, rfl⟩
  | fill _ _ => exact ⟨c, hc, rfl, rfl, rfl⟩
  | context m d d' hd hh hp hr _ =>
    rw [State.context_setContext]
    split
    · rename_i e
      subst e
      obtain rfl : c = d := Option.some.inj (hc.symm.trans hd)
      exact ⟨d', rfl, hh, hp, hr⟩
    · exact ⟨c, hc, rfl, rfl, rfl⟩
  | deadline _ _ _ _ _ => exact ⟨c, hc, rfl, rfl, rfl⟩
  | free i _ =>
    refine ⟨c, ?_, rfl, rfl, rfl⟩
    have : (s.freeDocument i).iu = s.iu := State.Move.iu (.free i)
    simpa only [State.context, this] using hc

theorem State.Engine.carries {s t : State} (h : s.Engine t) {n : Nat} {c : Context} (hc : s.context n = some c) :
    ∃ c', t.context n = some c' ∧ c'.handle = c.handle ∧ c'.openPage = c.openPage ∧ c'.reservation = c.reservation := by
  induction h with
  | refl => exact ⟨c, hc, rfl, rfl, rfl⟩
  | tail _ k ih =>
    obtain ⟨c1, h1, hh, hp, hr⟩ := ih
    obtain ⟨c2, h2, hh2, hp2, hr2⟩ := k.carries h1
    exact ⟨c2, h2, hh2.trans hh, hp2.trans hp, hr2.trans hr⟩

end Sys2Proof.Machine
end

-- ==== Proofs: what a step can do ====
section
/-!
SUPPORT. What a step can do, said once. `State.Effect` has one case for each change a command's record can bring, with the checks
that stood before it; `State.Event` has one for each event and each access to the port window. `exec_cases` says that these are
all, so that a promise of the part is shown case by case and no command is opened again.
-/

namespace Sys2Proof.Machine

/-- A slot after a STATION_CONFIG, its destinations unbound where DELIVER went (R179, R180). -/
def State.configuring (s : State) (n : Nat) (rights : Rights) (start stop : Nat) (base mask : BitVec 16) (enables : Enables) :
    State :=
  (s.setStation n ((s.station n).configured rights start stop base mask enables)).unbindIfRemoved n (s.station n).rights rights

/-- The record, the context and the reservation an OPEN_RECEPTION takes (R23 to R25). -/
def State.receptionOpened (s : State) (slot lineId profile : Nat) (digits caller : List Byte) (n i : Nat) : State :=
  let d := (s.document i).opened slot lineId digits caller s.tb.clock (s.resolve digits)
  ((s.setDocument i d).setContext n (some (Context.opened ((s.setDocument i d).handleOf i) slot lineId profile s.bsm.grant
    (s.idleFrom profile)))).reserveBlocks s.bsm.grant

/-- A destination opened, WORK being set where its queue is not empty (R118). -/
def State.destOpened (s : State) (n : Nat) : State :=
  let s1 := s.changeDest n .opened
  if (s1.destination n).queue.isEmpty then s1 else s1.signalWork n

/-- What a command does to the state in which its record was taken, and whether a reply follows. -/
inductive State.Effect (s : State) (slot : Nat) : Bool → State → Prop
  | same : Effect s slot true s
  | config (n : Nat) (rights : Rights) (start stop : Nat) (base mask : BitVec 16) (enables : Enables) (number : n < 16)
      (order : start ≤ stop) (last : stop ≤ 65535) (admin : s.lastAdministrator n rights = false) (used : rights.any = true) :
      Effect s slot true (s.configuring n rights start stop base mask enables)
  | unused (n : Nat) (rights : Rights) (start stop : Nat) (base mask : BitVec 16) (enables : Enables) (number : n < 16)
      (order : start ≤ stop) (last : stop ≤ 65535) (admin : s.lastAdministrator n rights = false) (used : rights.any = false)
      (other : n ≠ slot) : Effect s slot true ((s.configuring n rights start stop base mask enables).stationReset n false)
  | unusedOwn (rights : Rights) (start stop : Nat) (base mask : BitVec 16) (enables : Enables) (number : slot < 16)
      (order : start ≤ stop) (last : stop ≤ 65535) (admin : s.lastAdministrator slot rights = false) (used : rights.any = false) :
      Effect s slot false ((s.configuring slot rights start stop base mask enables).stationReset slot false)
  | reset (n : Nat) (number : n < 16) : Effect s slot true (s.stationReset n (decide (n = slot)))
  | faultCleared (ns : List Nat) : Effect s slot true (s.clearNoticeLost ns).clearFault
  | marks (low release floor reserve : Nat) :
      Effect s slot true ({ s with bsm := s.bsm.withMarks low release floor reserve } : State).holdTest
  | adminHold (v : Bool) : Effect s slot true (s.setAdminHold v)
  | clock (c : Clock) (sound : c.Sound) : Effect s slot true { s with tb := { s.tb with clock := c } }
  | opened (lineId profile : Nat) (digits caller : List Byte) (n i : Nat) (context : s.freeContext = some n)
      (record : s.freeDocumentIndex = some i) : Effect s slot true (s.receptionOpened slot lineId profile digits caller n i)
  | sender (n : Nat) (c c' : Context) (i : Nat) (cs : List Byte) (carries : s.context n = some c) (handle : c'.handle = c.handle)
      (page : c'.openPage = c.openPage) (reservation : c'.reservation = c.reservation) (state : c'.state = c.state) :
      Effect s slot true ((s.setDocument i { s.document i with sender := cs }).setContext n (some c'))
  | pageGoesOn (n : Nat) (c : Context) (tag : Nat) (chain : Word) (carries : s.context n = some c) (few : s.jobCount slot < 4)
      (room : s.te.jobs.length < 32) :
      Effect s slot false ((s.setContext n (some c.intaking)).queueJob (Job.new (.intake n) slot tag chain))
  | pageOpens (n : Nat) (c : Context) (p tag : Nat) (chain : Word) (carries : s.context n = some c)
      (between : c.state = .betweenPages) (record : s.page p = none) (few : s.jobCount slot < 4) (room : s.te.jobs.length < 32) :
      Effect s slot false
        (((s.openPageIn n c p).1.setContext n (some (s.openPageIn n c p).2.intaking)).queueJob (Job.new (.intake n) slot tag chain))
  | pageCommitted (n : Nat) (c : Context) (p0 p : OpenPage) (v : Verdict) (flags : PageFlags) (drops deadline : Nat)
      (carries : s.context n = some c) (receiving : (s.document c.handle.index).state = .receiving) (page : c.openPage = some p0)
      (record : p.record = p0.record) (blocks : p.blocks = p0.blocks) :
      Effect s slot true ((s.commitPage c.handle.index p v flags).setContext n (some (c.pageEnded drops deadline)))
  | pageDiscarded (n : Nat) (c : Context) (p0 p : OpenPage) (drops deadline : Nat) (carries : s.context n = some c)
      (page : c.openPage = some p0) (record : p.record = p0.record) (blocks : p.blocks = p0.blocks) :
      Effect s slot true ((s.discardPage p).setContext n (some (c.pageEnded drops deadline)))
  | ended (n : Nat) (c : Context) (interrupted : Bool) (carries : s.context n = some c) :
      Effect s slot true (s.endReception n c interrupted)
  | aborted (n : Nat) (c : Context) (carries : s.context n = some c) : Effect s slot true (s.abortReception n c)
  | profile (n : Nat) (p : Profile) (sound : p.Sound) : Effect s slot true (s.setProfile n p)
  | attributes (i : Nat) (d : Document) (pages : d.pages = (s.document i).pages) (state : d.state = (s.document i).state)
      (generation : d.generation = (s.document i).generation) (priority : d.priority = (s.document i).priority)
      (entries : d.entries = (s.document i).entries) : Effect s slot true (s.setDocument i d)
  | attributesTested (i : Nat) (d : Document) (pages : d.pages = (s.document i).pages) (state : d.state = (s.document i).state)
      (generation : d.generation = (s.document i).generation) (priority : d.priority = (s.document i).priority)
      (entries : d.entries = (s.document i).entries) : Effect s slot true ((s.setDocument i d).releaseTest i)
  | purged (i : Nat) (state : (s.document i).state = .queued ∨ (s.document i).state = .unrouted ∨ (s.document i).state = .done) :
      Effect s slot true (s.purgeDocument i)
  | retention (c minutes : Nat) (sound : minutes ≤ 65535) :
      Effect s slot true { s with dt := { s.dt with retention := s.dt.retention.write 0 c minutes } }
  | route (i : Nat) (e : RouteEntry) (number : i < 1024) (sound : e.Sound) (new : s.heldElsewhere i e.digits = false) :
      Effect s slot true (s.setRouteEntry i (some e))
  | routeCleared (i : Nat) : Effect s slot true (s.setRouteEntry i none)
  | defaultRoute (r : Route) (sound : r.Sound) : Effect s slot true { s with rtu := { s.rtu with defaultRoute := r } }
  | fallback (f : Option Nat) (number : ∀ d ∈ f, d < 32) (accepts : ∀ d ∈ f, (s.destination d).accepting = true) :
      Effect s slot true { s with rtu := { s.rtu with fallback := f } }
  | destConfig (n : Nat) (bound : Option Nat) (hold attempts checkouts : Nat) (label : List Byte)
      (slots : ∀ m ∈ bound, m < 16 ∧ (s.rights m).deliver = true)
      (sound : DestSettings.Sound ⟨label, bound, hold, attempts, checkouts⟩) :
      Effect s slot true (s.bindDestination n ((s.destination n).configured bound hold attempts checkouts label))
  | destOpened (n : Nat) (state : (s.destination n).state = .closed ∨ (s.destination n).state = .paused) :
      Effect s slot true (s.destOpened n)
  | destPaused (n : Nat) (state : (s.destination n).state = .opened) : Effect s slot true (s.changeDest n .paused)
  | destClosed (n : Nat) (kept : s.rtu.fallback ≠ some n) (accepts : (s.destination n).accepting = true) :
      Effect s slot true ((s.expelQueue n 0 0 (s.destination n).queue).1.shutDest n)
  | rerouted (i : Nat) (w : Word) (d : Document) (xs : List (Nat × Placement))
      (state : (s.document i).state = .queued ∨ (s.document i).state = .unrouted ∨ (s.document i).state = .done)
      (placed : (s.document i).placeAll (s.replaceClosed w).delivery ((s.replaceClosed w).original w)
        (members (s.replaceClosed w).delivery) = some (d, xs)) : Effect s slot true (s.rerouted i d xs)
  | dropped (n fuel : Nat) (opened : (s.destination n).state = .opened) : Effect s slot true (State.dropSpent n fuel s)
  | took (n fuel : Nat) (u : State) (x : QueueItem) (e : Entry) (opened : (s.destination n).state = .opened)
      (dropped : u = State.dropSpent n fuel s) (head : (u.destination n).queue.head? = some x) (entry : u.itemEntry x = some e) :
      Effect s slot true (u.takeHead slot n x e)
  | fetches (kind : JobKind) (tag : Nat) (chain : Word) (few : s.jobCount slot < 4) (room : s.te.jobs.length < 32) :
      Effect s slot false (s.queueJob (Job.new kind slot tag chain))
  | confirmed (i p : Nat) (e : Entry) (entry : (s.document i).entry p = some e) (out : e.state = .checkedOut) :
      Effect s slot true (s.confirmed i p e)
  | cameBack (i p : Nat) (e : Entry) (reason : Nat) (entry : (s.document i).entry p = some e) (out : e.state = .checkedOut) :
      Effect s slot true (s.comeBack i p e reason)
  | withdrawn (i p : Nat) (e : Entry) (entry : (s.document i).entry p = some e) (outstanding : e.outstanding = true) :
      Effect s slot true (((s.withdrawEntry i p e).settleIfEmpty i).closeIfDrained e.destination)
  | cancelled (p : Job → Bool) : Effect s slot true (s.cancelJobs p false false)
  | policy (level : Nat) (mode : BusMode) (sound : level ≤ 3) :
      Effect s slot true { s with te := { s.te with level := level, mode := mode } }

/-- What a command's body hands back is one of its effects. -/
def State.Handles (s : State) (slot : Nat) : Handled → Prop
  | .refused _ => True
  | .replied _ _ t => s.Effect slot true t
  | .silent t => s.Effect slot false t

/-- The head record of a slot has been taken, and its command carried out; or nothing has happened. -/
def State.Taking (s : State) (slot : Nat) (t : State) : Prop :=
  t = s ∨ ∃ r u answered x, s.takeable slot = some r ∧ (s.taken slot).Effect slot answered u
    ∧ t = if answered then u.fillReservation slot x else u

variable (s : State)

/-- Where a record is taken, the part is READY, the record is the head, and there is room for its reply. -/
theorem State.takeable_some {slot : Nat} {r : Record} (h : s.takeable slot = some r) : s.HasHead slot r := by
  unfold State.takeable at h
  split at h
  · cases h
  · cases h
  · rename_i hp
    split at h
    · cases h
    · rename_i a rest hreq
      split at h
      · rename_i hc
        cases h
        simp only [Bool.and_eq_true, Bool.or_eq_true, Bool.not_eq_true', decide_eq_true_eq] at hc
        refine ⟨hp, by simp [hreq], hc.1, fun ht => ?_⟩
        rcases hc.2 with hc | hc
        · simp [ht] at hc
        · exact hc
      · cases h

theorem State.taking_takeRecord (slot : Nat) (codes : Nat → Bool) (body : State → Record → Handled)
    (h : ∀ r, codes r.header.code = true → (isTransfer r.header.code = true → s.jobCount slot < 4) →
      (s.taken slot).Handles slot (body (s.taken slot) r)) : s.Taking slot (s.takeRecord slot codes body) := by
  unfold State.takeRecord
  split
  · exact .inl rfl
  · rename_i r hr
    split
    · rename_i hcode
      refine .inr ?_
      dsimp only
      split
      · exact ⟨r, _, true, _, hr, .same, rfl⟩
      · have hb := h r hcode (s.takeable_some hr).2.2.2
        generalize body (s.taken slot) r = x at hb
        cases x with
        | refused _ => exact ⟨r, _, true, _, hr, .same, rfl⟩
        | replied _ _ t => exact ⟨r, t, true, _, hr, hb, rfl⟩
        | silent t => exact ⟨r, t, false, ⟨.ok, 0, 0, []⟩, hr, hb, rfl⟩
    · exact .inl rfl

theorem State.taking_command (slot code : Nat) (body : State → Record → Handled)
    (h : ∀ (u : State) r, (isTransfer code = true → u.jobCount slot < 4) → u.Handles slot (body u r)) :
    s.Taking slot (s.command slot code body) := by
  refine s.taking_takeRecord slot _ body (fun r hc few => h _ r fun ht => ?_)
  exact few (by rwa [of_decide_eq_true hc])

/-! ## Checks shared by commands -/

theorem firstFrom_some {p : Nat → Bool} {fuel i n : Nat} (h : firstFrom p fuel i = some n) :
    p n = true ∧ i ≤ n ∧ n < i + fuel ∧ ∀ m, i ≤ m → m < n → p m = false := by
  induction fuel generalizing i with
  | zero => cases h
  | succ fuel ih =>
    unfold firstFrom at h
    split at h
    · rename_i hp
      obtain rfl := Option.some.inj h
      exact ⟨hp, le_rfl, by omega, fun m h1 h2 => absurd h1 (by omega)⟩
    · rename_i hp
      obtain ⟨h1, h2, h3, h4⟩ := ih h
      refine ⟨h1, by omega, by omega, fun m hm hmn => ?_⟩
      rcases Nat.eq_or_lt_of_le hm with rfl | hm
      · exact Bool.eq_false_iff.2 hp
      · exact h4 m hm hmn

theorem State.handles_receptionCheck (slot : Nat) (h : Handle) (f : Nat → Context → Handled)
    (hf : ∀ n c, s.context n = some c → c.handle = h → (s.document h.index).state = .receiving → s.Handles slot (f n c)) :
    s.Handles slot (s.receptionCheck slot h f) := by
  unfold State.receptionCheck
  split
  · trivial
  split
  · trivial
  split
  · trivial
  rename_i hs
  split
  · trivial
  rename_i n hn
  split
  · trivial
  rename_i c hc
  refine hf n c hc ?_ (not_not.1 hs)
  simpa [hc] using (firstFrom_some hn).1

theorem Document.entry_of_entryList {d : Document} {x : Nat × Entry} (h : x ∈ d.entryList) : d.entry x.1 = some x.2 := by
  unfold Document.entryList at h
  obtain ⟨p, -, hp⟩ := List.mem_filterMap.1 h
  obtain ⟨e, he, rfl⟩ := Option.map_eq_some_iff.1 hp
  exact he

theorem State.handles_checkoutCheck (slot : Nat) (h : Handle) (dest ticket : Nat) (field : Option Status)
    (f : Nat → Entry → Handled)
    (hf : ∀ p e, (s.document h.index).entry p = some e → e.state = .checkedOut → s.Handles slot (f p e)) :
    s.Handles slot (s.checkoutCheck slot h dest ticket field f) := by
  unfold State.checkoutCheck
  dsimp only
  cases hfound : (s.document h.index).checkedOut dest ticket with
  | none => repeat' first | trivial | split
  | some x =>
    obtain ⟨p, e⟩ := x
    have hp := List.find?_some hfound
    simp only [decide_eq_true_eq] at hp
    have hf := hf p e (Document.entry_of_entryList (List.mem_of_find?_eq_some hfound)) hp.2.1
    dsimp only
    repeat' first | trivial | exact hf | split

theorem State.handles_viewCheck (slot : Nat) (h : Handle) (f : Unit → Handled) (hf : s.Handles slot (f ())) :
    s.Handles slot (s.viewCheck slot h f) := by
  unfold State.viewCheck
  dsimp only
  split
  · trivial
  split
  · trivial
  split
  · trivial
  · exact hf

/-! ## Settings as commands store them -/

theorem clamp_le (lo hi v : Nat) (h : lo ≤ hi) : clamp lo hi v ≤ hi := by
  rw [clamp_eq h]
  omega

theorem le_clamp (lo hi v : Nat) (h : lo ≤ hi) : lo ≤ clamp lo hi v := by
  rw [clamp_eq h]
  omega

theorem profileOf_sound (w2 w3 w4 w5 w6 w7 : Word) : (profileOf w2 w3 w4 w5 w6 w7).Sound := by
  have h : 5 ≤ clamp 5 600 w7.toNat ∧ clamp 5 600 w7.toNat ≤ 600 := ⟨le_clamp 5 600 _ (by decide), clamp_le 5 600 _ (by decide)⟩
  simp only [Profile.Sound, profileOf, clamp_zero]
  omega

theorem routeOf_sound (w1 w2 w3 w4 w5 w6 w7 w8 : Word) (h : (tooLarge w1 || tooLarge w2) = false) :
    (routeOf w1 w2 w3 w4 w5 w6 w7 w8).Sound := by
  simp only [tooLarge, Bool.or_eq_false_iff, decide_eq_false_iff_not, not_lt] at h
  simp only [Route.Sound, routeOf, clamp_zero]
  exact ⟨h.1, h.2, by omega, by omega, by omega⟩

end Sys2Proof.Machine
end

-- ==== Proofs: the commands and events ====
section
/-!
SUPPORT. Each command brings one of the effects, each event and access one of the events.
-/

namespace Sys2Proof.Machine

variable (s : State) (slot : Nat)

/-! ## Commands that change nothing -/

theorem State.taking_badCommand :
    s.Taking slot (s.takeRecord slot (fun c => !commandCodes.contains c) (fun _ _ => .refused .badCommand)) :=
  s.taking_takeRecord slot _ _ (fun _ _ _ => trivial)

theorem execEcho_taking {t : State} (h : execEcho slot s = .next t) : s.Taking slot t := by
  cases h
  refine s.taking_command slot _ _ (fun u r _ => ?_)
  repeat' first | trivial | exact .same | split

theorem execReadStatus_taking {t : State} (h : execReadStatus slot s = .next t) : s.Taking slot t := by
  cases h
  refine s.taking_command slot _ _ (fun u r _ => ?_)
  repeat' first | trivial | exact .same | split

theorem execStoreStatus_taking {t : State} (h : execStoreStatus slot s = .next t) : s.Taking slot t := by
  cases h
  refine s.taking_command slot _ _ (fun u r _ => ?_)
  repeat' first | trivial | exact .same | split

theorem execReadClock_taking {t : State} (h : execReadClock slot s = .next t) : s.Taking slot t := by
  cases h
  refine s.taking_command slot _ _ (fun u r _ => ?_)
  dsimp only
  repeat' first | trivial | exact .same | split

theorem execGetProfile_taking {t : State} (h : execGetProfile slot s = .next t) : s.Taking slot t := by
  cases h
  refine s.taking_command slot _ _ (fun u r _ => ?_)
  dsimp only
  repeat' first | trivial | exact .same | split

theorem execDocInfo_taking {t : State} (h : execDocInfo slot s = .next t) : s.Taking slot t := by
  cases h
  refine s.taking_command slot _ _ (fun u r _ => ?_)
  dsimp only
  split
  · exact u.handles_viewCheck _ _ _ .same
  · trivial

theorem execPageInfo_taking {t : State} (h : execPageInfo slot s = .next t) : s.Taking slot t := by
  cases h
  refine s.taking_command slot _ _ (fun u r _ => ?_)
  dsimp only
  split
  · refine u.handles_viewCheck _ _ _ ?_
    repeat' first | trivial | exact .same | split
  · trivial

theorem execListDocs_taking {t : State} (h : execListDocs slot s = .next t) : s.Taking slot t := by
  cases h
  refine s.taking_command slot _ _ (fun u r _ => ?_)
  dsimp only
  repeat' first | trivial | exact .same | split

theorem execRouteGet_taking {t : State} (h : execRouteGet slot s = .next t) : s.Taking slot t := by
  cases h
  refine s.taking_command slot _ _ (fun u r _ => ?_)
  repeat' first | trivial | exact .same | split

theorem execRouteLookup_taking {t : State} (h : execRouteLookup slot s = .next t) : s.Taking slot t := by
  cases h
  refine s.taking_command slot _ _ (fun u r _ => ?_)
  dsimp only
  repeat' first | trivial | exact .same | split

theorem execDestStatus_taking {t : State} (h : execDestStatus slot s = .next t) : s.Taking slot t := by
  cases h
  refine s.taking_command slot _ _ (fun u r _ => ?_)
  dsimp only
  repeat' first | trivial | exact .same | split

/-! ## Stations, the store and the clock -/

theorem execStationConfig_taking {t : State} (h : execStationConfig slot s = .next t) : s.Taking slot t := by
  cases h
  refine s.taking_command slot _ _ (fun u r _ => ?_)
  dsimp only
  split
  swap
  · trivial
  rename_i w1 w2 w3 w4 w5 w6 w7 _
  have hn : clamp 0 15 w1.toNat < 16 := Nat.lt_succ_of_le (clamp_le 0 15 _ (by decide))
  have hl : clamp 0 65535 w4.toNat ≤ 65535 := clamp_le 0 65535 _ (by decide)
  generalize clamp 0 15 w1.toNat = n at hn ⊢
  generalize clamp 0 65535 w3.toNat = start
  generalize clamp 0 65535 w4.toNat = stop at hl ⊢
  generalize decodeRights w2 = rights
  split
  · trivial
  split
  · trivial
  rename_i ho
  have ho := not_lt.1 ho
  split
  · trivial
  rename_i ha
  have ha := Bool.eq_false_iff.2 ha
  by_cases hany : rights.any = true
  · simp only [hany, Bool.true_or, if_true]
    exact .config n rights start stop _ _ _ hn ho hl ha hany
  have hnone := Bool.eq_false_iff.2 hany
  by_cases hslot : n = slot
  · subst hslot
    simp only [hnone, decide_not, decide_true, Bool.not_true, Bool.or_self, Bool.false_eq_true, if_false]
    exact .unusedOwn rights start stop _ _ _ hn ho hl ha hnone
  · simp only [hnone, hslot, ne_eq, not_false_eq_true, decide_true, Bool.or_true, if_true, Bool.false_eq_true, if_false]
    exact .unused n rights start stop _ _ _ hn ho hl ha hnone hslot

theorem execStationReset_taking {t : State} (h : execStationReset slot s = .next t) : s.Taking slot t := by
  cases h
  refine s.taking_command slot _ _ (fun u r _ => ?_)
  dsimp only
  split
  · split
    · trivial
    · exact .reset _ (Nat.lt_succ_of_le (clamp_le 0 15 _ (by decide)))
  · trivial

theorem execClearFault_taking {t : State} (h : execClearFault slot s = .next t) : s.Taking slot t := by
  cases h
  refine s.taking_command slot _ _ (fun u r _ => ?_)
  dsimp only
  split
  · split
    · trivial
    · exact .faultCleared _
  · trivial

theorem execSetStoreMarks_taking {t : State} (h : execSetStoreMarks slot s = .next t) : s.Taking slot t := by
  cases h
  refine s.taking_command slot _ _ (fun u r _ => ?_)
  dsimp only
  split
  · split
    · trivial
    · exact .marks _ _ _ _
  · trivial

theorem execSetIntakeHold_taking {t : State} (h : execSetIntakeHold slot s = .next t) : s.Taking slot t := by
  cases h
  refine s.taking_command slot _ _ (fun u r _ => ?_)
  dsimp only
  split
  · split
    · trivial
    · exact .adminHold _
  · trivial

theorem execSetClock_taking {t : State} (h : execSetClock slot s = .next t) : s.Taking slot t := by
  cases h
  refine s.taking_command slot _ _ (fun u r _ => ?_)
  dsimp only
  split
  · split
    · trivial
    split
    · trivial
    · rename_i hc
      simp only [clockFieldsOk, Bool.not_eq_true', Bool.not_eq_false, Bool.and_eq_true, decide_eq_true_eq] at hc
      obtain ⟨⟨⟨hd, hw⟩, hm⟩, hs⟩ := hc
      exact .clock _ ⟨hd, hw, hm, hs⟩
  · trivial

/-! ## Receptions -/

theorem execOpenReception_taking {t : State} (h : execOpenReception slot s = .next t) : s.Taking slot t := by
  cases h
  refine s.taking_command slot _ _ (fun u r _ => ?_)
  dsimp only
  split
  · trivial
  split
  · trivial
  split
  · trivial
  split
  · trivial
  split
  · trivial
  rename_i n hn
  split
  · trivial
  rename_i i hi
  exact .opened _ _ _ _ n i hn hi

theorem execSetSender_taking {t : State} (h : execSetSender slot s = .next t) : s.Taking slot t := by
  cases h
  refine s.taking_command slot _ _ (fun u r _ => ?_)
  dsimp only
  split
  · trivial
  split
  · split
    · trivial
    · refine u.handles_receptionCheck slot _ _ (fun n c hc hh _ => ?_)
      refine .sender n c _ _ _ hc ?_ ?_ ?_ ?_ <;> split <;> rfl
  · trivial

theorem execPageData_taking {t : State} (h : execPageData slot s = .next t) : s.Taking slot t := by
  cases h
  refine s.taking_command slot _ _ (fun u r few => ?_)
  have few := few rfl
  dsimp only
  split
  swap
  · trivial
  split
  · trivial
  refine u.handles_receptionCheck slot _ _ (fun n c hc hh _ => ?_)
  split
  · trivial
  · split
    · trivial
    split
    · trivial
    · rename_i hroom
      rw [decide_eq_true_eq, not_le] at hroom
      exact .pageGoesOn n c _ _ hc few hroom
  · rename_i hb
    split
    · trivial
    split
    · trivial
    rename_i p hp
    split
    · trivial
    · rename_i hroom
      rw [decide_eq_true_eq, not_le] at hroom
      exact .pageOpens n c p _ _ hc hb (by simpa using (firstFrom_some hp).1) few hroom

theorem OpenPage.dropPartial_record (p : OpenPage) (x : Parser) : (p.dropPartial x).record = p.record := by
  unfold OpenPage.dropPartial
  repeat' first | rfl | split

theorem OpenPage.dropPartial_blocks (p : OpenPage) (x : Parser) : (p.dropPartial x).blocks = p.blocks := by
  unfold OpenPage.dropPartial
  repeat' first | rfl | split

theorem execPageEnd_taking {t : State} (h : execPageEnd slot s = .next t) : s.Taking slot t := by
  cases h
  refine s.taking_command slot _ _ (fun u r _ => ?_)
  dsimp only
  split
  swap
  · trivial
  split
  · trivial
  rename_i w1 _ _
  generalize decodeHandle w1 = h
  refine u.handles_receptionCheck slot _ _ (fun n c hc hh hr => ?_)
  subst hh
  split
  · trivial
  · trivial
  split
  swap
  · trivial
  rename_i p0 a hp _
  generalize hp1 : p0.dropPartial c.parser = p
  have hrec : p.record = p0.record := hp1 ▸ p0.dropPartial_record _
  have hblocks : p.blocks = p0.blocks := hp1 ▸ p0.dropPartial_blocks _
  generalize pageAction _ _ _ = act
  obtain ⟨act, forced⟩ := act
  cases act with
  | committed => exact .pageCommitted n c p0 p _ _ _ _ hc hr hp hrec hblocks
  | discarded => exact .pageDiscarded n c p0 p _ _ hc hp hrec hblocks
  | dropped => exact .pageDiscarded n c p0 p _ _ hc hp hrec hblocks

theorem execEndReception_taking {t : State} (h : execEndReception slot s = .next t) : s.Taking slot t := by
  cases h
  refine s.taking_command slot _ _ (fun u r _ => ?_)
  dsimp only
  split
  swap
  · trivial
  split
  · trivial
  refine u.handles_receptionCheck slot _ _ (fun n c hc _ _ => ?_)
  split
  · trivial
  · exact .ended n c _ hc
  · exact .ended n c _ hc

theorem execAbortReception_taking {t : State} (h : execAbortReception slot s = .next t) : s.Taking slot t := by
  cases h
  refine s.taking_command slot _ _ (fun u r _ => ?_)
  dsimp only
  split
  swap
  · trivial
  iterate 4
    split
    · trivial
  split
  · trivial
  split
  · trivial
  rename_i c hc
  exact .aborted _ c hc

theorem execSetProfile_taking {t : State} (h : execSetProfile slot s = .next t) : s.Taking slot t := by
  cases h
  refine s.taking_command slot _ _ (fun u r _ => ?_)
  dsimp only
  split
  · split
    · trivial
    · exact .profile _ _ (profileOf_sound _ _ _ _ _ _)
  · trivial

/-! ## The document table -/

theorem execSetDocAttr_taking {t : State} (h : execSetDocAttr slot s = .next t) : s.Taking slot t := by
  cases h
  refine s.taking_command slot _ _ (fun u r _ => ?_)
  dsimp only
  split
  · trivial
  rename_i q _
  refine u.handles_viewCheck _ _ _ ?_
  generalize hd : u.withAttributes (u.document q.handle.index) q (u.rights slot).deliveryViewer = d
  have same : d.pages = (u.document q.handle.index).pages ∧ d.state = (u.document q.handle.index).state
      ∧ d.generation = (u.document q.handle.index).generation ∧ d.priority = (u.document q.handle.index).priority
      ∧ d.entries = (u.document q.handle.index).entries := by
    rw [← hd]
    unfold State.withAttributes
    dsimp only
    split <;> exact ⟨rfl, rfl, rfl, rfl, rfl⟩
  obtain ⟨hp, hs, hg, hpr, he⟩ := same
  cases (u.rights slot).deliveryViewer with
  | true =>
    split
    · trivial
    · trivial
    all_goals exact .attributes _ d hp hs hg hpr he
  | false =>
    split
    · trivial
    · trivial
    all_goals exact .attributesTested _ d hp hs hg hpr he

theorem execPurge_taking {t : State} (h : execPurge slot s = .next t) : s.Taking slot t := by
  cases h
  refine s.taking_command slot _ _ (fun u r _ => ?_)
  dsimp only
  split
  swap
  · trivial
  split
  · trivial
  split
  · trivial
  have purge {i : Nat} (hs : (u.document i).state = .queued ∨ (u.document i).state = .unrouted ∨ (u.document i).state = .done)
      {p : Prop} [Decidable p] {ws : List Word} :
      u.Handles slot (if p then .refused .held else .replied .ok ws (u.purgeDocument i)) := by
    split
    · trivial
    · exact .purged i hs
  split
  · trivial
  · trivial
  · split
    · trivial
    split
    · trivial
    split
    · trivial
    · rename_i c hc
      exact .aborted _ c hc
  · rename_i hs
    exact purge (.inl hs)
  · rename_i hs
    exact purge (.inr (.inl hs))
  · rename_i hs
    exact purge (.inr (.inr hs))

theorem execSetRetention_taking {t : State} (h : execSetRetention slot s = .next t) : s.Taking slot t := by
  cases h
  refine s.taking_command slot _ _ (fun u r _ => ?_)
  dsimp only
  split
  · split
    · trivial
    · exact .retention _ _ (clamp_le 0 65535 _ (by decide))
  · trivial

/-! ## Routing -/

theorem execRouteSet_taking {t : State} (h : execRouteSet slot s = .next t) : s.Taking slot t := by
  cases h
  refine s.taking_command slot _ _ (fun u r _ => ?_)
  dsimp only
  split
  swap
  · trivial
  split
  swap
  · trivial
  rename_i cs _
  split
  · trivial
  split
  · trivial
  rename_i hd
  split
  · trivial
  rename_i hl
  split
  · trivial
  rename_i hx
  simp only [Bool.or_eq_true, List.isEmpty_iff, Bool.not_eq_true', not_or, Bool.not_eq_false, List.all_eq_true] at hd
  obtain ⟨hne, hdig⟩ := hd
  have hpos : 0 < cs.length := List.length_pos_of_ne_nil hne
  refine .route _ _ (Nat.lt_succ_of_le (clamp_le 0 1023 _ (by decide))) ⟨?_, ?_, fun c hc => ?_, ?_⟩ (Bool.eq_false_iff.2 hx)
  · simp only [List.length_take, digitLimit]
    omega
  · simp only [List.length_take, digitLimit]
    omega
  · simpa [isDigit] using hdig c (List.mem_of_mem_take hc)
  · exact routeOf_sound _ _ _ _ _ _ _ _ (Bool.eq_false_iff.2 hl)

theorem execRouteClear_taking {t : State} (h : execRouteClear slot s = .next t) : s.Taking slot t := by
  cases h
  refine s.taking_command slot _ _ (fun u r _ => ?_)
  dsimp only
  split
  · split
    · trivial
    · exact .routeCleared _
  · trivial

theorem execSetDefaultRoute_taking {t : State} (h : execSetDefaultRoute slot s = .next t) : s.Taking slot t := by
  cases h
  refine s.taking_command slot _ _ (fun u r _ => ?_)
  dsimp only
  split
  · split
    · trivial
    split
    · trivial
    · rename_i hl
      exact .defaultRoute _ (routeOf_sound _ _ _ _ _ _ _ _ (Bool.eq_false_iff.2 hl))
  · trivial

theorem execSetFallback_taking {t : State} (h : execSetFallback slot s = .next t) : s.Taking slot t := by
  cases h
  refine s.taking_command slot _ _ (fun u r _ => ?_)
  dsimp only
  split
  · split
    · trivial
    split
    · trivial
    · rename_i w _ _ ha
      refine .fallback _ (fun d hd => ?_) (fun d hd => ?_)
      · unfold decodeFallback at hd
        split at hd
        · rename_i hw
          rwa [Option.mem_some_iff.1 hd] at hw
        · cases hd
      · rw [Option.mem_def] at hd
        simpa [hd] using ha
  · trivial

/-! ## Destinations -/

theorem execDestConfig_taking {t : State} (h : execDestConfig slot s = .next t) : s.Taking slot t := by
  cases h
  refine s.taking_command slot _ _ (fun u r _ => ?_)
  dsimp only
  split
  swap
  · trivial
  split
  swap
  · trivial
  rename_i w1 w2 w3 w4 w5 _ _ _ cs _
  split
  · trivial
  split
  · trivial
  rename_i hb
  refine .destConfig _ _ _ _ _ _ (fun m hm => ⟨?_, ?_⟩)
    ⟨?_, le_clamp 10 3600 _ (by decide), clamp_le 10 3600 _ (by decide), le_clamp 1 15 _ (by decide), clamp_le 1 15 _ (by decide),
      le_clamp 1 16 _ (by decide), clamp_le 1 16 _ (by decide)⟩
  · unfold decodeBound at hm
    split at hm
    · rename_i hw
      rwa [Option.mem_some_iff.1 hm] at hw
    · cases hm
  · rw [Option.mem_def] at hm
    simpa [hm] using hb
  · simp only [List.length_take, labelLimit]
    omega

theorem execDestOpen_taking {t : State} (h : execDestOpen slot s = .next t) : s.Taking slot t := by
  cases h
  refine s.taking_command slot _ _ (fun u r _ => ?_)
  dsimp only
  split
  swap
  · trivial
  split
  · trivial
  split
  · trivial
  · exact .same
  · rename_i hs
    exact .destOpened _ (.inl hs)
  · rename_i hs
    exact .destOpened _ (.inr hs)

theorem execDestPause_taking {t : State} (h : execDestPause slot s = .next t) : s.Taking slot t := by
  cases h
  refine s.taking_command slot _ _ (fun u r _ => ?_)
  dsimp only
  split
  swap
  · trivial
  split
  · trivial
  split
  · trivial
  · trivial
  · exact .same
  · rename_i hs
    exact .destPaused _ hs

theorem execDestClose_taking {t : State} (h : execDestClose slot s = .next t) : s.Taking slot t := by
  cases h
  refine s.taking_command slot _ _ (fun u r _ => ?_)
  dsimp only
  split
  swap
  · trivial
  split
  · trivial
  split
  · trivial
  rename_i hf
  split
  · rename_i ha
    exact .destClosed _ hf ha
  · exact .same

theorem execReroute_taking {t : State} (h : execReroute slot s = .next t) : s.Taking slot t := by
  cases h
  refine s.taking_command slot _ _ (fun u r _ => ?_)
  dsimp only
  split
  swap
  · trivial
  iterate 4
    split
    · trivial
  rename_i w1 w2 _ _ _ _ _
  have key (hs : (u.document (decodeHandle w1).index).state = .queued ∨ (u.document (decodeHandle w1).index).state = .unrouted
      ∨ (u.document (decodeHandle w1).index).state = .done) {d : Document} {xs : List (Nat × Placement)}
      (hp : (u.document (decodeHandle w1).index).placeAll (u.replaceClosed w2).delivery ((u.replaceClosed w2).original w2)
        (members (u.replaceClosed w2).delivery) = some (d, xs)) {ws : List Word} :
      u.Handles slot (.replied .ok ws (u.rerouted (decodeHandle w1).index d xs)) := .rerouted _ w2 d xs hs hp
  split
  · trivial
  · trivial
  · trivial
  all_goals
    rename_i hs
    split
    · trivial
    rename_i hp
  · exact key (.inl hs) hp
  · exact key (.inr (.inl hs)) hp
  · exact key (.inr (.inr hs)) hp

/-! ## Checkout and delivery -/

theorem execTake_taking {t : State} (h : execTake slot s = .next t) : s.Taking slot t := by
  cases h
  refine s.taking_command slot _ _ (fun u r _ => ?_)
  dsimp only
  split
  swap
  · trivial
  split
  · trivial
  split
  · trivial
  split
  · trivial
  rename_i ho
  have ho := not_not.1 ho
  split
  · trivial
  unfold State.takeFrom
  split
  · exact .dropped _ _ ho
  rename_i x hx
  split
  · exact .dropped _ _ ho
  rename_i e he
  exact .took _ _ _ x e ho rfl hx he

theorem execFetchPages_taking {t : State} (h : execFetchPages slot s = .next t) : s.Taking slot t := by
  cases h
  refine s.taking_command slot _ _ (fun u r few => ?_)
  have few := few rfl
  dsimp only
  split
  swap
  · trivial
  refine u.handles_checkoutCheck _ _ _ _ _ _ (fun p e _ _ => ?_)
  split
  · trivial
  · rename_i hroom
    exact .fetches _ _ _ few (not_le.1 hroom)

theorem execConfirm_taking {t : State} (h : execConfirm slot s = .next t) : s.Taking slot t := by
  cases h
  refine s.taking_command slot _ _ (fun u r _ => ?_)
  dsimp only
  split
  · exact u.handles_checkoutCheck _ _ _ _ _ _ (fun p e he hs => .confirmed _ p e he hs)
  · trivial

theorem execReturn_taking {t : State} (h : execReturn slot s = .next t) : s.Taking slot t := by
  cases h
  refine s.taking_command slot _ _ (fun u r _ => ?_)
  dsimp only
  split
  · exact u.handles_checkoutCheck _ _ _ _ _ _ (fun p e he hs => .cameBack _ p e _ he hs)
  · trivial

theorem execWithdraw_taking {t : State} (h : execWithdraw slot s = .next t) : s.Taking slot t := by
  cases h
  refine s.taking_command slot _ _ (fun u r _ => ?_)
  dsimp only
  split
  swap
  · trivial
  split
  · trivial
  split
  · trivial
  split
  · trivial
  rename_i p e hf
  unfold Document.outstandingFor at hf
  have ho := List.find?_some hf
  simp only [Bool.and_eq_true] at ho
  exact .withdrawn _ p e (Document.entry_of_entryList (List.mem_of_find?_eq_some hf)) ho.2

/-! ## The engine -/

theorem execCancelTransfer_taking {t : State} (h : execCancelTransfer slot s = .next t) : s.Taking slot t := by
  cases h
  refine s.taking_command slot _ _ (fun u r _ => ?_)
  dsimp only
  split
  · split
    · trivial
    · exact .cancelled _
  · trivial

theorem execSetBusPolicy_taking {t : State} (h : execSetBusPolicy slot s = .next t) : s.Taking slot t := by
  cases h
  refine s.taking_command slot _ _ (fun u r _ => ?_)
  dsimp only
  split
  · split
    · trivial
    · exact .policy _ _ (clamp_le 0 3 _ (by decide))
  · trivial

/-! ## Events -/

/-- What an access that is not RETRY or a bus error makes of the slot it goes to (R169, R173, R174, R178). -/
inductive Station.Accessed (st : Station) : Station → Prop
  | started (w : Word) (room : st.requests.length < 8) : Accessed st (st.startRecord w)
  | word (w : Word) : Accessed st (st.appendWord w)
  | read : Accessed st st.readReply.2
  | status : Accessed st { st with framing := false }
  | acknowledged : Accessed st { st with work := false }

/-- What an event or an access to the port window does. -/
inductive State.Event (s : State) : State → Prop
  | same : Event s s
  | poweredOn : Event s s.fresh
  | started (starting : s.part = .starting) : Event s s.started
  | left (ready : s.part = .ready) : Event s { s.recovering with heldAtLeave := s.held }
  | broken (recovering : s.part = .recovering) : Event s s.scanBroken
  | scanned (recovering : s.part = .recovering) :
      Event s s.scanStations.scanEngine.scanContexts.scanStack.scanHold.scanRelease
  | ticked : Event s { s with tb := ⟨nextUptime s.tb.uptime, s.tb.clock.advance⟩ }
  | idle (n : Nat) (c : Context) (ready : s.part = .ready) (carries : s.context n = some c) : Event s (s.idleEnd n c)
  | holdExpired (i p : Nat) (e : Entry) (entry : (s.document i).entry p = some e) (out : e.state = .checkedOut) :
      Event s ((s.sendExpired i p e).comeBack i p e 2)
  | released (i : Nat) : Event s (s.releaseTest i)
  | answered (a : Answer) : Event s (s.answering a)
  | accessed (slot : Nat) (st : Station) (a : Answer) (used : (s.rights slot).any = true) (h : (s.station slot).Accessed st) :
      Event s ((s.setStation slot st).answering a)
  | reset (slot : Nat) (a : Answer) (ready : s.part = .ready) (used : (s.rights slot).any = true) :
      Event s ((s.stationReset slot false).answering a)
  | granted (q : BusRequest) (request : s.te.request = some q) (free : s.te.tenure = none) :
      Event s (({ s with te := { s.te with request := none } } : State).grantBurst q.mode)
  | completed (words : List Word) : Event s (s.burstEnd (fun s j b => s.burstDone j b words))
  | retried : Event s (s.burstEnd (fun s j _ => if j.cancelled then s.endJob j .cancelled else s))
  | failed : Event s (s.burstEnd (fun s j _ => s.endJob j (if j.cancelled then .cancelled else .busError)))

/-- An access is answered RETRY or a bus error, or does what its offset does for a slot in use. -/
theorem State.event_access (f : State → State) (hf : s.part = .ready → (s.rights slot).any = true → s.Event (f s)) :
    s.Event (s.access slot f) := by
  unfold State.access
  split
  · exact .answered _
  · exact .answered _
  · rename_i hp
    split
    · rename_i hu
      exact hf hp hu
    · exact .answered _

theorem State.event_writeStart (w : Word) (hu : (s.rights slot).any = true) : s.Event (s.writeStart slot w) := by
  unfold State.writeStart
  split
  · exact .answered _
  · rename_i hr
    exact .accessed slot _ _ hu (.started w (not_le.1 hr))

/-- Every command, event and access does one of the things of `State.Event`, or takes a record with one of the effects of
`State.Effect`. -/
theorem exec_cases {c : Instr} {t : State} (h : exec c s = .next t) : s.Event t ∨ ∃ slot, s.Taking slot t := by
  cases c with
  | powerOnReset => cases h; exact .inl .poweredOn
  | startUp =>
    cases h
    refine .inl ?_
    split
    · rename_i hp
      exact .started hp
    · exact .same
    · exact .same
  | chassisReset =>
    cases h
    refine .inl ?_
    split
    · exact .same
    · rename_i hp
      exact .broken hp
    · rename_i hp
      exact .left hp
  | recoveryScan =>
    cases h
    refine .inl ?_
    split
    · exact .same
    · exact .same
    · rename_i hp
      exact .scanned hp
  | uptimeTick => cases h; exact .inl .ticked
  | idleTimerExpiry ctx =>
    cases h
    refine .inl ?_
    split
    · exact .same
    · rename_i c hc
      split
      · rename_i he
        simp only [State.idleExpired, Bool.and_eq_true, decide_eq_true_eq] at he
        exact .idle ctx c he.1 hc
      · exact .same
  | holdExpiry doc pos =>
    cases h
    refine .inl ?_
    split
    · exact .same
    · rename_i e he
      split
      · rename_i hx
        simp only [State.holdExpired, Bool.and_eq_true, decide_eq_true_eq] at hx
        exact .holdExpired doc pos e he hx.1.1.2
      · exact .same
  | retentionExpiry doc =>
    cases h
    refine .inl ?_
    split
    · exact .released doc
    · exact .same
  | requestStart slot acc =>
    cases h
    refine .inl (s.event_access slot _ (fun _ hu => ?_))
    cases acc with
    | read => exact .answered _
    | write w => exact s.event_writeStart slot w hu
  | requestWord slot acc =>
    cases h
    refine .inl (s.event_access slot _ (fun _ hu => ?_))
    cases acc with
    | read => exact .answered _
    | write w => exact .accessed slot _ _ hu (.word w)
  | reply slot => cases h; exact .inl (s.event_access slot _ (fun _ hu => .accessed slot _ _ hu .read))
  | portStatus slot => cases h; exact .inl (s.event_access slot _ (fun _ hu => .accessed slot _ _ hu .status))
  | attentionAck slot acc =>
    cases h
    refine .inl (s.event_access slot _ (fun _ hu => ?_))
    cases acc with
    | read => exact .answered _
    | write w => exact .accessed slot _ _ hu .acknowledged
  | portReset slot acc =>
    cases h
    refine .inl (s.event_access slot _ (fun hp hu => ?_))
    cases acc with
    | read => exact .answered _
    | write w => exact .reset slot _ hp hu
  | writeIgnored slot off acc =>
    cases h
    refine .inl ?_
    split <;> first | exact .same | exact s.event_access slot _ (fun _ _ => .answered _)
  | unusedSlotAccess slot off acc => cases h; exact .inl (s.event_access slot _ (fun _ _ => .same))
  | portAccessRetry slot off acc =>
    cases h
    refine .inl ?_
    split
    · exact .answered _
    · exact .answered _
    · exact .same
  | badCommand slot => cases h; exact .inr ⟨slot, s.taking_badCommand slot⟩
  | echo slot => exact .inr ⟨slot, execEcho_taking s slot h⟩
  | readStatus slot => exact .inr ⟨slot, execReadStatus_taking s slot h⟩
  | stationConfig slot => exact .inr ⟨slot, execStationConfig_taking s slot h⟩
  | stationReset slot => exact .inr ⟨slot, execStationReset_taking s slot h⟩
  | clearFault slot => exact .inr ⟨slot, execClearFault_taking s slot h⟩
  | storeStatus slot => exact .inr ⟨slot, execStoreStatus_taking s slot h⟩
  | setStoreMarks slot => exact .inr ⟨slot, execSetStoreMarks_taking s slot h⟩
  | setIntakeHold slot => exact .inr ⟨slot, execSetIntakeHold_taking s slot h⟩
  | setClock slot => exact .inr ⟨slot, execSetClock_taking s slot h⟩
  | readClock slot => exact .inr ⟨slot, execReadClock_taking s slot h⟩
  | openReception slot => exact .inr ⟨slot, execOpenReception_taking s slot h⟩
  | setSender slot => exact .inr ⟨slot, execSetSender_taking s slot h⟩
  | pageData slot => exact .inr ⟨slot, execPageData_taking s slot h⟩
  | pageEnd slot => exact .inr ⟨slot, execPageEnd_taking s slot h⟩
  | endReception slot => exact .inr ⟨slot, execEndReception_taking s slot h⟩
  | abortReception slot => exact .inr ⟨slot, execAbortReception_taking s slot h⟩
  | setProfile slot => exact .inr ⟨slot, execSetProfile_taking s slot h⟩
  | getProfile slot => exact .inr ⟨slot, execGetProfile_taking s slot h⟩
  | docInfo slot => exact .inr ⟨slot, execDocInfo_taking s slot h⟩
  | pageInfo slot => exact .inr ⟨slot, execPageInfo_taking s slot h⟩
  | setDocAttr slot => exact .inr ⟨slot, execSetDocAttr_taking s slot h⟩
  | purge slot => exact .inr ⟨slot, execPurge_taking s slot h⟩
  | listDocs slot => exact .inr ⟨slot, execListDocs_taking s slot h⟩
  | setRetention slot => exact .inr ⟨slot, execSetRetention_taking s slot h⟩
  | routeSet slot => exact .inr ⟨slot, execRouteSet_taking s slot h⟩
  | routeClear slot => exact .inr ⟨slot, execRouteClear_taking s slot h⟩
  | routeGet slot => exact .inr ⟨slot, execRouteGet_taking s slot h⟩
  | routeLookup slot => exact .inr ⟨slot, execRouteLookup_taking s slot h⟩
  | setDefaultRoute slot => exact .inr ⟨slot, execSetDefaultRoute_taking s slot h⟩
  | setFallback slot => exact .inr ⟨slot, execSetFallback_taking s slot h⟩
  | destConfig slot => exact .inr ⟨slot, execDestConfig_taking s slot h⟩
  | destOpen slot => exact .inr ⟨slot, execDestOpen_taking s slot h⟩
  | destPause slot => exact .inr ⟨slot, execDestPause_taking s slot h⟩
  | destClose slot => exact .inr ⟨slot, execDestClose_taking s slot h⟩
  | destStatus slot => exact .inr ⟨slot, execDestStatus_taking s slot h⟩
  | reroute slot => exact .inr ⟨slot, execReroute_taking s slot h⟩
  | take slot => exact .inr ⟨slot, execTake_taking s slot h⟩
  | fetchPages slot => exact .inr ⟨slot, execFetchPages_taking s slot h⟩
  | confirm slot => exact .inr ⟨slot, execConfirm_taking s slot h⟩
  | returnCheckout slot => exact .inr ⟨slot, execReturn_taking s slot h⟩
  | withdraw slot => exact .inr ⟨slot, execWithdraw_taking s slot h⟩
  | cancelTransfer slot => exact .inr ⟨slot, execCancelTransfer_taking s slot h⟩
  | setBusPolicy slot => exact .inr ⟨slot, execSetBusPolicy_taking s slot h⟩
  | busGrant =>
    cases h
    refine .inl ?_
    split
    · rename_i q hq ht
      exact .granted q hq ht
    · exact .same
    · exact .same
  | burstComplete words => cases h; exact .inl (.completed words)
  | burstRetry => cases h; exact .inl .retried
  | burstError => cases h; exact .inl .failed

/-- Every step does so, from the state whose queue it has taken the command off, or nothing. -/
theorem step_cases {t : State} (h : step s = .next t) :
    t = s ∨ ∃ rest, ({ s with pending := rest } : State).Event t ∨ ∃ slot, ({ s with pending := rest } : State).Taking slot t := by
  unfold step at h
  split at h
  · cases h
    exact .inl rfl
  · exact .inr ⟨_, exec_cases _ h⟩

end Sys2Proof.Machine
end

-- ==== Proofs: the configuration in its ranges ====
section
/-!
SUPPORT. The ranges of the configuration, read number by number, and the canonical tables are kept by every step: the traffic
leaves the configuration alone and closes no destination that accepts, and the commands that write it store what is in range.
-/

namespace Sys2Proof.Machine

open Relation (ReflTransGen)

/-- `State.InRange` read number by number, with the canonical form of every table. -/
structure State.Fit (s : State) : Prop where
  canonical : s.Canonical
  settings : s.settings.Sound
  slots : ∀ n, (s.station n).config.Sound
  destinations : ∀ d, (s.destination d).settings.Sound
  bound : ∀ d, d < 32 → ∀ n ∈ (s.destination d).bound.toList, n < 16 ∧ (s.rights n).deliver = true
  fallback : ∀ f ∈ s.rtu.fallback.toList, (s.destination f).accepting = true
  admin : ∃ n, n < 16 ∧ (s.rights n).administer = true

theorem State.fit_iff (s : State) : s.Fit ↔ s.InRange ∧ s.Canonical := by
  have slots (hc : s.Canonical) : (∀ c ∈ s.spu.stations.cells, c.2.config.Sound) ↔ ∀ n, (s.station n).config.Sound :=
    Table.WF.forall_cells hc.1 (P := fun st => st.config.Sound) (by decide)
  have dests (hc : s.Canonical) : (∀ c ∈ s.dqu.destinations.cells, c.2.settings.Sound) ↔ ∀ d, (s.destination d).settings.Sound :=
    Table.WF.forall_cells hc.2.2.2.2.2.2.2.2.2 (P := fun d => d.settings.Sound) (by decide)
  constructor
  · rintro ⟨hc, h1, h2, h3, h4, h5, h6⟩
    exact ⟨⟨h1, (slots hc).2 h2, (dests hc).2 h3, h4, h5, h6⟩, hc⟩
  · rintro ⟨⟨h1, h2, h3, h4, h5, h6⟩, hc⟩
    exact ⟨hc, h1, (slots hc).1 h2, (dests hc).1 h3, h4, h5, h6⟩

theorem SameConfig.rights {s t : State} (h : SameConfig s t) (n : Nat) : t.rights n = s.rights n :=
  congrArg SlotConfig.rights (h.station n)

theorem SameConfig.bound {s t : State} (h : SameConfig s t) (d : Nat) : (t.destination d).bound = (s.destination d).bound :=
  congrArg DestSettings.bound (h.destination d)

theorem SameConfig.rtu {s t : State} (h : SameConfig s t) : t.rtu = s.rtu := congrArg Settings.rtu h.settings

/-- What is steady and leaves the fallback accepting keeps the configuration in its ranges. -/
theorem State.Fit.steady {s t : State} (h : s.Fit) (k : s.Steady t)
    (hf : ∀ f, s.rtu.fallback = some f → (s.destination f).accepting = true → (t.destination f).accepting = true) : t.Fit where
  canonical := k.canonical h.canonical
  settings := by rw [k.config.settings]; exact h.settings
  slots n := by rw [k.config.station]; exact h.slots n
  destinations d := by rw [k.config.destination]; exact h.destinations d
  bound d hd n hn := by
    rw [k.config.bound] at hn
    rw [k.config.rights]
    exact h.bound d hd n hn
  fallback f hf' := by
    rw [k.config.rtu] at hf'
    exact hf f (Option.mem_toList.1 hf') (h.fallback f hf')
  admin := by
    obtain ⟨n, hn, ha⟩ := h.admin
    exact ⟨n, hn, by rwa [k.config.rights]⟩

/-- Traffic: the configuration is the same, the tables stay canonical, and what accepted goes on accepting. -/
structure State.Calm (s t : State) : Prop where
  steady : s.Steady t
  accepts : s.Accepts t

theorem State.Calm.trans {s t u : State} (h : s.Calm t) (k : t.Calm u) : s.Calm u :=
  ⟨h.steady.trans k.steady, fun d hd => k.accepts d (h.accepts d hd)⟩

/-- An effect outside the slots' configurations and the destinations, with the settings still in range. -/
theorem State.Fit.other {s t : State} (h : s.Fit) (hc : t.Canonical) (hs : t.settings.Sound) (spu : t.spu.stations = s.spu.stations)
    (dqu : t.dqu = s.dqu) (fallback : t.rtu.fallback = s.rtu.fallback) : t.Fit := by
  have hd (d : Nat) : t.destination d = s.destination d := by simp only [State.destination, dqu]
  have hn (n : Nat) : t.station n = s.station n := by simp only [State.station, spu]
  have hr (n : Nat) : t.rights n = s.rights n := by simp only [State.rights, hn]
  refine ⟨hc, hs, fun n => ?_, fun d => ?_, fun d => ?_, fun f hf => ?_, ?_⟩
  · rw [hn]; exact h.slots n
  · rw [hd]; exact h.destinations d
  · simpa only [hd, hr] using h.bound d
  · rw [fallback] at hf
    rw [hd]
    exact h.fallback f hf
  · simpa only [hr] using h.admin

variable (s : State)

/-! ## Traffic -/

theorem State.calm_fill (n : Nat) (r : Reply) : s.Calm (s.fillReservation n r) := ⟨s.steady_fillReservation n r, fun _ => id⟩

theorem State.calm_taken (slot : Nat) : s.Calm (s.taken slot) := ⟨s.steady_taken slot, fun _ => id⟩

theorem State.calm_setStation (n : Nat) (x : Station) (h : x.config = (s.station n).config) : s.Calm (s.setStation n x) :=
  ⟨s.steady_setStation n x h, fun _ => id⟩

theorem State.calm_stationReset (n : Nat) (keep : Bool) : s.Calm (s.stationReset n keep) := by
  refine ⟨s.steady_stationReset n keep, fun d hd => ?_⟩
  unfold State.stationReset
  refine (State.changes_markReset _ _).accepts d ((State.changes_restoreFlags _ _).accepts d
    ((State.traffic_returnCheckouts _ _).changes.accepts d ((State.changes_endReceptionsOf _ _).accepts d ?_)))
  exact (State.engine_cancelJobs _ _ _ _).accepts d ((State.changes_markReset _ _).accepts d hd)

theorem State.calm_burst (f : State → Job → Burst → State) (hs : ∀ (s : State) j b, s.Steady (f s j b))
    (he : ∀ (s : State) j b, ∃ n vs, (s.parseWords n vs).state.Engine (f s j b)) : s.Calm (s.burstEnd f) := by
  refine ⟨s.steady_burstEnd f hs, fun d hd => ?_⟩
  obtain ⟨n, vs, h⟩ := s.engine_burstEnd f (he s)
  exact h.accepts d ((s.changes_parseWords n vs).accepts d hd)

theorem State.calm_queueJob (j : Job) : s.Calm (s.queueJob j) := by
  refine ⟨?_, (s.engine_queueJob j).accepts⟩
  exact s.steady_queueJob j

theorem State.steady_expelQueue (n moved withdrawn : Nat) (xs : List QueueItem) :
    s.Steady (s.expelQueue n moved withdrawn xs).1 := by
  have item (s : State) (x : QueueItem) : s.Steady (s.expelItem n x) := by
    unfold State.expelItem
    dsimp only
    split
    · exact s.steady_leaveQueue _ _ _
    · exact ((s.steady_leaveQueue _ _ _).trans (State.steady_moveEntry _ _ _ _)).trans (State.steady_settleIfEmpty _ _)
  induction xs generalizing s moved withdrawn with
  | nil => exact .refl s
  | cons x xs ih =>
    unfold State.expelQueue
    split
    · exact (item s x).trans (ih _ _ _)
    · exact (item s x).trans (ih _ _ _)

theorem State.steady_dropSpent (n fuel : Nat) : s.Steady (State.dropSpent n fuel s) := by
  induction fuel generalizing s with
  | zero => exact .refl s
  | succ fuel ih =>
    unfold State.dropSpent
    split
    · exact .refl s
    split
    · exact .refl s
    split
    · exact (((s.steady_leaveQueue _ _ _).trans (State.steady_makeUndeliverable _ _ _ _ _)).trans
        (State.steady_settleIfEmpty _ _)).trans (ih _)
    · exact .refl s

theorem State.steady_takeHead (slot n : Nat) (x : QueueItem) (e : Entry) : s.Steady (s.takeHead slot n x e) :=
  ((s.steady_leaveQueue _ _ _).trans (State.steady_setEntry _ _ _ _)).trans (State.steady_setDestination _ _ _ rfl)

theorem State.calm_confirmed (i p : Nat) (e : Entry) : s.Calm (s.confirmed i p e) :=
  ⟨(((s.steady_leaveCheckouts _ _ _).trans (State.steady_settleEntry _ _ _ _ _)).trans (State.steady_settleIfEmpty _ _)).trans
    (State.steady_closeIfDrained _ _), (s.traffic_confirmed i p e).changes.accepts⟩

theorem State.calm_comeBack (i p : Nat) (e : Entry) (reason : Nat) : s.Calm (s.comeBack i p e reason) :=
  ⟨s.steady_comeBack i p e reason, (s.traffic_comeBack i p e reason).changes.accepts⟩

theorem State.calm_sendExpired (i p : Nat) (e : Entry) : s.Calm (s.sendExpired i p e) := by
  refine ⟨?_, (s.traffic_sendExpired i p e).changes.accepts⟩
  unfold State.sendExpired
  split
  · exact .refl s
  · exact s.steady_send _ _ _

theorem State.calm_withdrawEntry (i p : Nat) (e : Entry) : s.Calm (s.withdrawEntry i p e) := by
  unfold State.withdrawEntry
  split
  · exact ⟨(s.steady_leaveQueue _ _ _).trans (State.steady_settleEntry _ _ _ _ _),
      ((State.traffic_settleEntry _ _ _ _ _).after (s.traffic_leaveQueue _ _ _)).changes.accepts⟩
  · have h : s.Calm ((s.leaveCheckouts e.destination i p).settleEntry i p e .withdrawn) :=
      ⟨(s.steady_leaveCheckouts _ _ _).trans (State.steady_settleEntry _ _ _ _ _),
        ((State.traffic_settleEntry _ _ _ _ _).after (s.traffic_leaveCheckouts _ _ _)).changes.accepts⟩
    exact h.trans ⟨State.steady_cancelJobs _ _ _ _, (State.engine_cancelJobs _ _ _ _).accepts⟩
  all_goals exact ⟨s.steady_settleEntry _ _ _ _, (s.traffic_settleEntry _ _ _ _).changes.accepts⟩

theorem State.calm_settleIfEmpty (i : Nat) : s.Calm (s.settleIfEmpty i) :=
  ⟨s.steady_settleIfEmpty i, (s.traffic_settleIfEmpty i).changes.accepts⟩

theorem State.calm_closeIfDrained (d : Nat) : s.Calm (s.closeIfDrained d) :=
  ⟨s.steady_closeIfDrained d, (s.traffic_closeIfDrained d).changes.accepts⟩

theorem State.calm_purgeDocument (i : Nat) : s.Calm (s.purgeDocument i) := by
  have entry (s : State) (p : Nat) : s.Steady (s.purgeEntry i p) := by
    unfold State.purgeEntry
    split
    · exact .refl s
    split
    · exact (s.steady_leaveQueue _ _ _).trans (State.steady_settleEntry _ _ _ _ _)
    · exact ((s.steady_leaveCheckouts _ _ _).trans (State.steady_settleEntry _ _ _ _ _)).trans (State.steady_closeIfDrained _ _)
    · exact s.steady_settleEntry _ _ _ _
    all_goals exact .refl s
  have finish (s : State) : s.Steady (s.purgeFinish i) := by
    unfold State.purgeFinish
    dsimp only
    split
    · exact .refl s
    all_goals exact .ite _ (s.steady_freeDocument i) (s.steady_setDocument i _)
  have h1 : s.Calm (positions.foldl (fun s p => s.purgeEntry i p) s) :=
    ⟨State.Steady.foldl _ entry _ s,
      State.Changes.accepts (State.Traffic.changes (ReflTransGen.foldl _ (fun s p => s.traffic_purgeEntry i p) _ s))⟩
  unfold State.purgeDocument
  exact (h1.trans ⟨State.steady_cancelJobs _ _ _ _, (State.engine_cancelJobs _ _ _ _).accepts⟩).trans
    ⟨finish _, (State.traffic_purgeFinish _ i).changes.accepts⟩

theorem State.calm_abortReception (n : Nat) (c : Context) : s.Calm (s.abortReception n c) := by
  refine ⟨s.steady_abortReception n c, fun d hd => ?_⟩
  unfold State.abortReception
  exact (State.changes_freeDocument _ _).accepts d ((State.changes_setContext _ _ _).accepts d
    ((State.changes_releaseReservation _ _).accepts d ((State.changes_discardOpenPage _ _).accepts d
      ((State.engine_cancelJobs _ _ _ _).accepts d hd))))

theorem State.calm_holdTest : s.Calm s.holdTest := ⟨s.steady_holdTest, s.changes_holdTest.accepts⟩

theorem State.calm_announceHeld (was : Bool) : s.Calm (s.announceHeld was) :=
  ⟨s.steady_announceHeld was, (s.notices_announceHeld was).changes.accepts⟩

/-! ## Commands that write the configuration -/

/-- Destinations are unbound, and nothing else happens to them. -/
theorem State.unbind_all (l : List Nat) (u : State) : (l.foldl State.unbind u).spu = u.spu
    ∧ (l.foldl State.unbind u).settings = u.settings ∧ (u.Canonical → (l.foldl State.unbind u).Canonical)
    ∧ ∀ x, (l.foldl State.unbind u).destination x = if x ∈ l then { u.destination x with
        bound := none, state := if (u.destination x).state = .opened then .paused else (u.destination x).state }
      else u.destination x := by
  induction l generalizing u with
  | nil => exact ⟨rfl, rfl, id, fun _ => by simp⟩
  | cons a l ih =>
    obtain ⟨h1, h2, h3, h4⟩ := ih (u.unbind a)
    refine ⟨h1, h2, fun ⟨a, b, c, d, e, f, g, i, j, k⟩ => h3 ⟨a, b, c, d, e, f, g, i, j, Table.write_wf _ _ _ _ k⟩, fun x => ?_⟩
    rw [List.foldl_cons, h4 x, State.unbind, State.destination_setDestination]
    by_cases e : x = a
    · subst e
      cases (u.destination x).state <;> simp
    · simp [e]

theorem State.canonical_configuring {s : State} (h : s.Canonical) (n start stop : Nat) (rights : Rights) (base mask : BitVec 16)
    (enables : Enables) : (s.configuring n rights start stop base mask enables).Canonical := by
  have k (st : Station) : (s.setStation n st).Canonical := ⟨Table.write_wf _ _ _ _ h.1, h.2⟩
  unfold State.configuring State.unbindIfRemoved
  split
  · exact (State.unbind_all _ _).2.2.1 (k _)
  · exact k _

/-- One slot's configuration is written, some slot holding ADMINISTER still; the destinations keep their settings, what accepts goes
on accepting, and none stays bound to the slot where it does not hold DELIVER (R110, R179). -/
theorem State.Fit.reconfigured {s t : State} (h : s.Fit) {n : Nat} {st : Station} (hn : n < 16) (sound : st.config.Sound)
    (admin : s.lastAdministrator n st.rights = false) (canonical : t.Canonical) (settings : t.settings = s.settings)
    (station : ∀ m, t.station m = if m = n then st else s.station m)
    (dests : ∀ d, (t.destination d).settings.Sound)
    (accepts : ∀ d, (s.destination d).accepting = true → (t.destination d).accepting = true)
    (bound : ∀ d, d < 32 → ∀ m ∈ (t.destination d).bound.toList,
      m ∈ (s.destination d).bound.toList ∧ (m = n → st.rights.deliver = true)) : t.Fit := by
  have rights (m : Nat) : t.rights m = if m = n then st.rights else s.rights m := by
    rw [State.rights, station]
    split <;> rfl
  refine ⟨canonical, settings ▸ h.settings, fun m => ?_, dests, fun d hd m hm => ?_, fun f hf => ?_, ?_⟩
  · rw [station]
    split
    · exact sound
    · exact h.slots m
  · obtain ⟨hm, deliver⟩ := bound d hd m hm
    obtain ⟨h16, hdel⟩ := h.bound d hd m hm
    rw [rights]
    split
    · rename_i e
      exact ⟨h16, deliver e⟩
    · exact ⟨h16, hdel⟩
  · have hf' : f ∈ s.rtu.fallback.toList := by
      rw [show t.rtu = s.rtu from congrArg Settings.rtu settings] at hf
      exact hf
    exact accepts f (h.fallback f hf')
  · by_cases ha : st.rights.administer = true
    · exact ⟨n, hn, by rwa [rights, if_pos rfl]⟩
    · obtain ⟨m, hm, hne, hadm⟩ : ∃ m < 16, ¬ m = n ∧ (s.rights m).administer = true := by
        simpa [State.lastAdministrator, ha, State.administrators, State.slotsWith, Config.slots] using admin
      exact ⟨m, hm, by rwa [rights, if_neg hne]⟩

/-- A slot that loses DELIVER has its destinations unbound (R110). -/
theorem State.Fit.configuring {s : State} (h : s.Fit) {n start stop : Nat} {rights : Rights} (base mask : BitVec 16)
    (enables : Enables) (hn : n < 16) (order : start ≤ stop) (last : stop ≤ 65535) (admin : s.lastAdministrator n rights = false) :
    (s.configuring n rights start stop base mask enables).Fit := by
  have canonical := State.canonical_configuring h.canonical n start stop rights base mask enables
  have station (m : Nat) := s.station_setStation n m ((s.station n).configured rights start stop base mask enables)
  unfold State.configuring at canonical ⊢
  set st := (s.station n).configured rights start stop base mask enables with hst
  unfold State.unbindIfRemoved at canonical ⊢
  split
  · rename_i hrem
    rw [if_pos hrem] at canonical
    obtain ⟨h1, h2, -, h4⟩ := State.unbind_all ((s.setStation n st).boundDestinations n) (s.setStation n st)
    refine h.reconfigured (st := st) hn ⟨order, last⟩ admin canonical h2
      (fun m => by simp only [State.unbindAll, State.station, h1]; exact station m) (fun x => ?_) (fun x hx => ?_) (fun x hx m hm => ?_)
    all_goals simp only [State.unbindAll, h4] at *
    · have := h.destinations x
      split
      · exact this
      · exact this
    · split
      · simp only [Destination.accepting] at hx ⊢
        cases hs : (s.destination x).state <;> simp [hs] at hx ⊢
      · exact hx
    · split at hm
      · simp at hm
      · rename_i hnb
        refine ⟨hm, fun e => absurd ?_ hnb⟩
        subst e
        simp only [State.boundDestinations, List.mem_filter, List.mem_range, State.boundTo, decide_eq_true_eq]
        exact ⟨hx, Option.mem_toList.1 hm⟩
  · rename_i hkeep
    rw [if_neg hkeep] at canonical
    refine h.reconfigured (st := st) hn ⟨order, last⟩ admin canonical rfl station h.destinations (fun _ => id)
      (fun x hx m hm => ⟨hm, fun e => ?_⟩)
    subst e
    have hd := (h.bound x hx m hm).2
    simp only [State.rights] at hd
    simpa [hst, Station.configured, hd] using hkeep

/-- The four marks are stored in their order (R14). -/
theorem State.Fit.marks {s : State} (h : s.Fit) (low release floor reserve : Nat) :
    State.Fit { s with bsm := s.bsm.withMarks low release floor reserve } := by
  refine h.other h.canonical ⟨?_, ?_, ?_, ?_, ?_, h.settings.2.2.2.2.2⟩ rfl rfl rfl
  all_goals simp only [State.settings, Bsm.withMarks, clamp_zero]
  · omega
  · exact le_clamp _ _ _ (by omega)
  · omega
  · exact clamp_le _ _ _ (by omega)
  · omega

theorem State.Fit.clock {s : State} (h : s.Fit) {c : Clock} (hc : c.Sound) : State.Fit { s with tb := { s.tb with clock := c } } := by
  obtain ⟨h1, h2, h3, h4, h5, -, h7⟩ := h.settings
  exact h.other h.canonical ⟨h1, h2, h3, h4, h5, hc, h7⟩ rfl rfl rfl

theorem Clock.Sound.advance {c : Clock} (h : c.Sound) : c.advance.Sound := by
  obtain ⟨h1, h2, h3, h4⟩ := h
  unfold Clock.advance Clock.nextMinute Clock.nextDay
  repeat' split
  all_goals
    dsimp only [Clock.Sound] at *
    omega

/-- Uptime stays at its greatest value and the clock in its ranges (R187, R188). -/
theorem State.Fit.ticked {s : State} (h : s.Fit) : State.Fit { s with tb := ⟨nextUptime s.tb.uptime, s.tb.clock.advance⟩ } := by
  obtain ⟨h1, h2, h3, h4, h5, hc, hu, h8⟩ := h.settings
  refine h.other h.canonical ⟨h1, h2, h3, h4, h5, hc.advance, ?_, h8⟩ rfl rfl rfl
  show nextUptime s.tb.uptime ≤ 281474976710655
  unfold nextUptime Config.maxUptime
  split
  · exact hu
  · omega

theorem State.Fit.policy {s : State} (h : s.Fit) {level : Nat} (mode : BusMode) (hl : level ≤ 3) :
    State.Fit { s with te := { s.te with level := level, mode := mode } } := by
  obtain ⟨h1, h2, h3, h4, h5, h6, h7, -, h9⟩ := h.settings
  exact h.other h.canonical ⟨h1, h2, h3, h4, h5, h6, h7, hl, h9⟩ rfl rfl rfl

theorem Table.forall_cells_write {α : Type} [DecidableEq α] {d : α} {t : Table α} {P : Nat × α → Prop} (h : ∀ c ∈ t.cells, P c)
    {i : Nat} {v : α} (hv : v ≠ d → P (i, v)) : ∀ c ∈ (t.write d i v).cells, P c := by
  intro c hc
  unfold Table.write at hc
  split at hc
  · exact h c (List.mem_filter.1 hc).1
  · rename_i hne
    rcases insertCell_mem i v _ c hc with rfl | hc
    · exact hv hne
    · exact h c (List.mem_filter.1 hc).1

theorem State.Fit.retention {s : State} (h : s.Fit) (c : Nat) {minutes : Nat} (hm : minutes ≤ 65535) :
    State.Fit { s with dt := { s.dt with retention := s.dt.retention.write 0 c minutes } } := by
  obtain ⟨h1, h2, h3, h4, h5, h6, h7, h8, h9, h10⟩ := h.settings
  obtain ⟨a, b, c', d, e, f, g, i⟩ := h.canonical
  exact h.other ⟨a, b, c', d, e, f, Table.write_wf _ _ _ _ g, i⟩
    ⟨h1, h2, h3, h4, h5, h6, h7, h8, Table.forall_cells_write (P := fun c => c.2 ≤ 65535) h9 (fun _ => hm), h10⟩ rfl rfl rfl

/-- The route table is written, and stays sound. -/
theorem State.Fit.withRtu {s : State} (h : s.Fit) {x : Rtu} (hx : x.Sound) (hr : x.routes.WF none) (hp : x.profiles.WF Profile.powerOn)
    (hf : ∀ f ∈ x.fallback.toList, (s.destination f).accepting = true) : State.Fit { s with rtu := x } := by
  obtain ⟨h1, h2, h3, h4, h5, h6, h7, h8, h9, -⟩ := h.settings
  obtain ⟨a, b, c, d, e, f, g, -, -, k⟩ := h.canonical
  exact ⟨⟨a, b, c, d, e, f, g, hr, hp, k⟩, ⟨h1, h2, h3, h4, h5, h6, h7, h8, h9, hx⟩, h.slots, h.destinations, h.bound, hf, h.admin⟩

theorem State.Fit.rtu {s : State} (h : s.Fit) : s.rtu.Sound := h.settings.2.2.2.2.2.2.2.2.2

theorem State.Fit.routes {s : State} (h : s.Fit) : s.rtu.routes.WF none := h.canonical.2.2.2.2.2.2.2.1

theorem State.Fit.profiles {s : State} (h : s.Fit) : s.rtu.profiles.WF Profile.powerOn := h.canonical.2.2.2.2.2.2.2.2.1

theorem State.Fit.profile {s : State} (h : s.Fit) (n : Nat) {p : Profile} (hp : p.Sound) : (s.setProfile n p).Fit := by
  obtain ⟨h1, h2, h3, h4, h5⟩ := h.rtu
  exact h.withRtu ⟨h1, h2, h3, h4, Table.forall_cells_write (P := fun c : Nat × Profile => c.2.Sound) h5 (fun _ => hp)⟩ h.routes
    (Table.write_wf _ _ _ _ h.profiles) h.fallback

theorem State.Fit.defaultRoute {s : State} (h : s.Fit) {r : Route} (hr : r.Sound) :
    State.Fit { s with rtu := { s.rtu with defaultRoute := r } } := by
  obtain ⟨h1, h2, h3, -, h5⟩ := h.rtu
  exact h.withRtu ⟨h1, h2, h3, hr, h5⟩ h.routes h.profiles h.fallback

theorem State.Fit.withFallback {s : State} (h : s.Fit) {f : Option Nat} (hn : ∀ d ∈ f, d < 32)
    (ha : ∀ d ∈ f, (s.destination d).accepting = true) : State.Fit { s with rtu := { s.rtu with fallback := f } } := by
  obtain ⟨h1, h2, -, h4, h5⟩ := h.rtu
  refine h.withRtu ⟨h1, h2, ?_, h4, h5⟩ h.routes h.profiles (fun d hd => ha d (Option.mem_toList.1 hd))
  cases f with
  | none => rfl
  | some d => simpa using hn d rfl

theorem State.Fit.routeCleared {s : State} (h : s.Fit) (i : Nat) : (s.setRouteEntry i none).Fit := by
  obtain ⟨h1, h2, h3, h4, h5⟩ := h.rtu
  refine h.withRtu ⟨Table.forall_cells_write h1 (fun hv => absurd rfl hv), ?_, h3, h4, h5⟩ (Table.write_wf _ _ _ _ h.routes)
    h.profiles h.fallback
  have hw : (s.rtu.routes.write none i none).cells = eraseCell i s.rtu.routes.cells := by simp [Table.write]
  show List.Pairwise _ (s.rtu.routes.write none i none).cells
  rw [hw]
  exact h2.filter _

/-- A new route entry carries digits that no other entry has (R101). -/
theorem State.Fit.route {s : State} (h : s.Fit) {i : Nat} {e : RouteEntry} (hi : i < 1024) (he : e.Sound)
    (hx : s.heldElsewhere i e.digits = false) : (s.setRouteEntry i (some e)).Fit := by
  obtain ⟨h1, h2, h3, h4, h5⟩ := h.rtu
  refine h.withRtu ⟨Table.forall_cells_write h1 (fun _ => ⟨hi, by simpa using he⟩), ?_, h3, h4, h5⟩
    (Table.write_wf _ _ _ _ h.routes) h.profiles h.fallback
  have other : ∀ c ∈ eraseCell i s.rtu.routes.cells, c.2.map (fun r => r.digits) ≠ some e.digits := by
    intro c hc he'
    obtain ⟨hc, hne⟩ := List.mem_filter.1 hc
    simp only [State.heldElsewhere, List.any_eq_false, Bool.and_eq_true, not_and] at hx
    obtain ⟨r, hr, hd⟩ := Option.map_eq_some_iff.1 he'
    exact hx c hc hne (by simp [hr, hd])
  have perm : ∀ l : List (Nat × Option RouteEntry), (insertCell i (some e) l).Perm ((i, some e) :: l) := by
    intro l
    induction l with
    | nil => exact .refl _
    | cons c l ih =>
      unfold insertCell
      split
      · exact .refl _
      · exact (ih.cons _).trans (.swap _ _ _)
  have hw : (s.rtu.routes.write none i (some e)).cells = insertCell i (some e) (eraseCell i s.rtu.routes.cells) := by
    simp [Table.write]
  show List.Pairwise _ (s.rtu.routes.write none i (some e)).cells
  rw [hw]
  refine ((perm _).pairwise_iff (fun h e => h e.symm)).2 (List.pairwise_cons.2 ⟨fun c hc e' => other c hc e'.symm, h2.filter _⟩)

/-- A destination's settings are stored, bound to a slot that holds DELIVER (R110, R117). -/
theorem State.Fit.configured {s : State} (h : s.Fit) (n : Nat) {bound : Option Nat} {hold attempts checkouts : Nat}
    {label : List Byte} (hb : ∀ m ∈ bound, m < 16 ∧ (s.rights m).deliver = true)
    (hs : DestSettings.Sound ⟨label, bound, hold, attempts, checkouts⟩) :
    (s.setDestination n ((s.destination n).configured bound hold attempts checkouts label)).Fit := by
  set d := (s.destination n).configured bound hold attempts checkouts label with hd
  have hacc : (s.destination n).accepting = true → d.accepting = true := by
    intro ha
    simp only [hd, Destination.configured, Destination.accepting] at ha ⊢
    cases hst : (s.destination n).state <;> cases bound <;> simp [hst] at ha ⊢
  obtain ⟨c1, c2, c3, c4, c5, c6, c7, c8, c9, c10⟩ := h.canonical
  refine ⟨⟨c1, c2, c3, c4, c5, c6, c7, c8, c9, Table.write_wf _ _ _ _ c10⟩, h.settings, h.slots, fun x => ?_, fun x hx m hm => ?_,
    fun f hf => ?_, h.admin⟩
  · rw [State.destination_setDestination]
    split
    · exact hs
    · exact h.destinations x
  · rw [State.destination_setDestination] at hm
    split at hm
    · exact hb m (Option.mem_toList.1 hm)
    · exact h.bound x hx m hm
  · rw [State.destination_setDestination]
    have := h.fallback f hf
    split
    · rename_i e
      subst e
      exact hacc this
    · exact this

/-! ## What is written, and what follows -/

/-- What a command or an event writes into the configuration: each setting once, with the checks that stood before it. -/
inductive State.Sets (s : State) : State → Prop
  | same : Sets s s
  | config (n : Nat) (rights : Rights) (start stop : Nat) (base mask : BitVec 16) (enables : Enables) (number : n < 16)
      (order : start ≤ stop) (last : stop ≤ 65535) (admin : s.lastAdministrator n rights = false) :
      Sets s (s.configuring n rights start stop base mask enables)
  | marks (low release floor reserve : Nat) : Sets s { s with bsm := s.bsm.withMarks low release floor reserve }
  | adminHold (v : Bool) : Sets s { s with bsm := { s.bsm with adminHold := v } }
  | clock (c : Clock) (sound : c.Sound) : Sets s { s with tb := { s.tb with clock := c } }
  | ticked : Sets s { s with tb := ⟨nextUptime s.tb.uptime, s.tb.clock.advance⟩ }
  | profile (n : Nat) (p : Profile) (sound : p.Sound) : Sets s (s.setProfile n p)
  | retention (c minutes : Nat) (sound : minutes ≤ 65535) :
      Sets s { s with dt := { s.dt with retention := s.dt.retention.write 0 c minutes } }
  | route (i : Nat) (e : RouteEntry) (number : i < 1024) (sound : e.Sound) (new : s.heldElsewhere i e.digits = false) :
      Sets s (s.setRouteEntry i (some e))
  | routeCleared (i : Nat) : Sets s (s.setRouteEntry i none)
  | defaultRoute (r : Route) (sound : r.Sound) : Sets s { s with rtu := { s.rtu with defaultRoute := r } }
  | fallback (f : Option Nat) (number : ∀ d ∈ f, d < 32) (accepts : ∀ d ∈ f, (s.destination d).accepting = true) :
      Sets s { s with rtu := { s.rtu with fallback := f } }
  | configured (n : Nat) (bound : Option Nat) (hold attempts checkouts : Nat) (label : List Byte)
      (slots : ∀ m ∈ bound, m < 16 ∧ (s.rights m).deliver = true)
      (sound : DestSettings.Sound ⟨label, bound, hold, attempts, checkouts⟩) :
      Sets s (s.setDestination n ((s.destination n).configured bound hold attempts checkouts label))
  | policy (level : Nat) (mode : BusMode) (sound : level ≤ 3) :
      Sets s { s with te := { s.te with level := level, mode := mode } }
  | aside (p : PartState) (held : Bool) (a : Answer) (k : Nat) (q : List Instr) :
      Sets s { s with part := p, heldAtLeave := held, answer := a, choice := k, pending := q }

theorem State.Fit.sets {s : State} (h : s.Fit) {t : State} (k : s.Sets t) : t.Fit := by
  cases k with
  | same => exact h
  | config n rights start stop base mask enables hn ho hl ha => exact h.configuring base mask enables hn ho hl ha
  | marks low release floor reserve => exact h.marks low release floor reserve
  | adminHold v => exact h.other h.canonical h.settings rfl rfl rfl
  | clock c hc => exact h.clock hc
  | ticked => exact h.ticked
  | profile n p hp => exact h.profile n hp
  | retention c m hm => exact h.retention c hm
  | route i e hi he hx => exact h.route hi he hx
  | routeCleared i => exact h.routeCleared i
  | defaultRoute r hr => exact h.defaultRoute hr
  | fallback f hn ha => exact h.withFallback hn ha
  | configured n bound hold attempts checkouts label hb hs => exact h.configured n hb hs
  | policy level mode hl => exact h.policy mode hl
  | aside _ _ _ _ _ => exact ⟨h.canonical, h.settings, h.slots, h.destinations, h.bound, h.fallback, h.admin⟩

theorem State.Canonical.sets {s : State} (h : s.Canonical) {t : State} (k : s.Sets t) : t.Canonical := by
  have hall := h
  obtain ⟨a, b, c, d, e, f, g, routes, profiles, dests⟩ := h
  cases k with
  | same => exact hall
  | config n rights start stop base mask enables _ _ _ _ => exact State.canonical_configuring hall n start stop rights base mask enables
  | marks low release floor reserve => exact hall
  | adminHold v => exact hall
  | clock c hc => exact hall
  | ticked => exact hall
  | profile n p hp => exact ⟨a, b, c, d, e, f, g, routes, Table.write_wf _ _ _ _ profiles, dests⟩
  | retention c' m hm => exact ⟨a, b, c, d, e, f, Table.write_wf _ _ _ _ g, routes, profiles, dests⟩
  | route i x hi he hx => exact ⟨a, b, c, d, e, f, g, Table.write_wf _ _ _ _ routes, profiles, dests⟩
  | routeCleared i => exact ⟨a, b, c, d, e, f, g, Table.write_wf _ _ _ _ routes, profiles, dests⟩
  | defaultRoute r hr => exact hall
  | fallback x hn ha => exact hall
  | configured n bound hold attempts checkouts label hb hs =>
    exact ⟨a, b, c, d, e, f, g, routes, profiles, Table.write_wf _ _ _ _ dests⟩
  | policy level mode hl => exact hall
  | aside _ _ _ _ _ => exact hall

/-- Settings are written, and in between the configuration stands, a fallback that accepts going on accepting. -/
inductive State.Configures : State → State → Prop
  | sets {s t : State} (k : s.Sets t) : State.Configures s t
  | traffic {s t : State} (steady : s.Steady t)
      (accepts : ∀ f, s.rtu.fallback = some f → (s.destination f).accepting = true → (t.destination f).accepting = true) :
      State.Configures s t
  | trans {s t u : State} (h : State.Configures s t) (k : State.Configures t u) : State.Configures s u

theorem State.Configures.fit {s t : State} (k : s.Configures t) (h : s.Fit) : t.Fit := by
  induction k with
  | sets k => exact h.sets k
  | traffic hs hf => exact h.steady hs hf
  | trans _ _ ih ik => exact ik (ih h)

theorem State.Configures.canonical {s t : State} (k : s.Configures t) (h : s.Canonical) : t.Canonical := by
  induction k with
  | sets k => exact State.Canonical.sets h k
  | traffic hs _ => exact hs.canonical h
  | trans _ _ ih ik => exact ik (ih h)

theorem State.Sets.configures {s t : State} (h : s.Sets t) : s.Configures t := .sets h

theorem State.Calm.configures {s t : State} (k : s.Calm t) : s.Configures t := .traffic k.steady (fun f _ => k.accepts f)

theorem State.Configures.calm {s t u : State} (h : s.Configures t) (k : t.Calm u) : s.Configures u := h.trans k.configures

theorem State.Sets.calm {s u t : State} (h : s.Sets u) (k : u.Calm t) : s.Configures t := h.configures.calm k

/-! ## Every command and event -/

theorem State.configures_effect {s : State} {slot : Nat} {b : Bool} {t : State} (k : s.Effect slot b t) : s.Configures t := by
  cases k with
  | same => exact State.Sets.same.configures
  | config n rights start stop base mask enables hn ho hl ha _ =>
    exact (State.Sets.config n rights start stop base mask enables hn ho hl ha).configures
  | unused n rights start stop base mask enables hn ho hl ha _ _ =>
    exact (State.Sets.config n rights start stop base mask enables hn ho hl ha).calm (State.calm_stationReset _ _ _)
  | unusedOwn rights start stop base mask enables hn ho hl ha _ =>
    exact (State.Sets.config slot rights start stop base mask enables hn ho hl ha).calm (State.calm_stationReset _ _ _)
  | reset n _ => exact State.Sets.same.calm (s.calm_stationReset n _)
  | faultCleared ns =>
    have hn : s.Calm (s.clearNoticeLost ns) := ⟨State.Steady.foldl _ (fun s n =>
        s.steady_setStation n { s.station n with noticeLost := false } rfl) ns s,
      State.Changes.accepts (ReflTransGen.foldl _ (fun s n => .single (.flags n (s.station n).framing false (s.station n).work)) ns s)⟩
    have hf (u : State) : u.Calm { u with spu := { u.spu with fault := false } } := ⟨u.steady_spu _ rfl, fun _ => id⟩
    exact (hn.configures.calm (hf _)).calm (State.calm_announceHeld _ _)
  | marks low release floor reserve => exact (State.Sets.marks low release floor reserve).calm (State.calm_holdTest _)
  | adminHold v => exact (State.Sets.adminHold v).calm (State.calm_announceHeld _ _)
  | clock c hc => exact (State.Sets.clock c hc).configures
  | opened lineId profile digits caller n i _ _ =>
    exact State.Sets.same.calm ⟨((s.steady_setDocument _ _).trans (State.steady_setContext _ _ _)).trans (State.steady_reserveBlocks _ _),
      (((s.changes_setDocument _ _).trans (State.changes_setContext _ _ _)).trans (State.changes_reserveBlocks _ _)).accepts⟩
  | sender n c c' i cs _ _ _ _ _ =>
    exact State.Sets.same.calm ⟨(s.steady_setDocument _ _).trans (State.steady_setContext _ _ _), fun _ => id⟩
  | pageGoesOn n c tag chain _ _ _ =>
    exact (State.Sets.same.calm ⟨s.steady_setContext _ _, fun _ => id⟩).calm (State.calm_queueJob _ _)
  | pageOpens n c p tag chain _ _ _ _ _ =>
    have k : s.Calm ((s.openPageIn n c p).1.setContext n (some (s.openPageIn n c p).2.intaking)) :=
      ⟨((s.steady_setPage _ _).trans (State.steady_setContext _ _ _)).trans (State.steady_setContext _ _ _), fun _ => id⟩
    exact k.configures.calm (State.calm_queueJob _ _)
  | pageCommitted n c p0 p v flags drops deadline _ _ _ _ _ =>
    exact State.Sets.same.calm ⟨((s.steady_setPage _ _).trans (State.steady_setDocument _ _ _)).trans (State.steady_setContext _ _ _),
      fun _ => id⟩
  | pageDiscarded n c p0 p drops deadline _ _ _ _ =>
    exact State.Sets.same.calm ⟨(s.steady_discardPage _).trans (State.steady_setContext _ _ _),
      ((s.changes_discardPage _).trans (State.changes_setContext _ _ _)).accepts⟩
  | ended n c i _ => exact State.Sets.same.calm ⟨s.steady_endReception n c i, (s.changes_endReception n c i).accepts⟩
  | aborted n c _ => exact State.Sets.same.calm (s.calm_abortReception n c)
  | profile n p hp => exact (State.Sets.profile n p hp).configures
  | attributes i d _ _ _ _ _ => exact State.Sets.same.calm ⟨s.steady_setDocument i d, fun _ => id⟩
  | attributesTested i d _ _ _ _ _ =>
    exact State.Sets.same.calm ⟨(s.steady_setDocument i d).trans (State.steady_releaseTest _ i),
      ((s.changes_setDocument i d).trans (State.traffic_releaseTest _ i).changes).accepts⟩
  | purged i _ => exact State.Sets.same.calm (s.calm_purgeDocument i)
  | retention c m hm => exact (State.Sets.retention c m hm).configures
  | route i e hi he hx => exact (State.Sets.route i e hi he hx).configures
  | routeCleared i => exact (State.Sets.routeCleared i).configures
  | defaultRoute r hr => exact (State.Sets.defaultRoute r hr).configures
  | fallback f hn ha => exact (State.Sets.fallback f hn ha).configures
  | destConfig n bound hold attempts checkouts label hb hs =>
    have k := State.Sets.configured n bound hold attempts checkouts label hb hs
    unfold State.bindDestination
    dsimp only
    split
    · exact k.calm ⟨State.steady_signalWork _ _, (State.traffic_signalWork _ _).changes.accepts⟩
    · exact k.configures
  | destOpened n hs =>
    have k : s.Calm (s.changeDest n .opened) := ⟨s.steady_changeDest n _, (s.traffic_changeDest n _ (fun _ => rfl)).changes.accepts⟩
    unfold State.destOpened
    dsimp only
    split
    · exact k.configures
    · exact k.configures.calm ⟨State.steady_signalWork _ _, (State.traffic_signalWork _ _).changes.accepts⟩
  | destPaused n hs => exact State.Sets.same.calm ⟨s.steady_changeDest n _, (s.traffic_changeDest n _ (fun _ => rfl)).changes.accepts⟩
  | destClosed n hf _ =>
    have k : s.Calm (s.expelQueue n 0 0 (s.destination n).queue).1 :=
      ⟨s.steady_expelQueue n 0 0 _, (s.traffic_expelQueue n 0 0 _).changes.accepts⟩
    refine .traffic (k.steady.trans (State.steady_changeDest _ _ _)) (fun f hf' ha => ?_)
    replace ha := k.accepts f ha
    have hne : f ≠ n := fun e => hf (by rw [hf', e])
    generalize (s.expelQueue n 0 0 (s.destination n).queue).1 = u at ha ⊢
    have key : ((u.setDestination n { u.destination n with state := (if (u.destination n).checkouts = [] then .closed else .draining) }
        : State).destination f).accepting = true := by rwa [State.destination_setDestination_ne _ hne]
    unfold State.shutDest State.changeDest
    dsimp only
    split
    · exact key
    · exact (State.notices_send _ _ _ _).changes.accepts f key
  | rerouted i w d xs _ hp =>
    have hsteady : s.Steady (s.rerouted i d xs) := by
      refine (State.steady_settleIfEmpty _ i).before ((State.Steady.foldl _ (fun s x => ?_) xs _).before (s.steady_setDocument i _))
      unfold State.joinPlaced
      split
      · exact .refl s
      · exact s.steady_joinTail _ _ _
      · exact s.steady_joinTail _ _ _
    refine State.Sets.same.calm ⟨hsteady, State.Changes.accepts ?_⟩
    exact (State.traffic_settleIfEmpty _ i).changes.after
      ((s.changes_setDocument i _).trans (State.Traffic.changes (ReflTransGen.foldl _ (fun s x => s.traffic_joinPlaced i x) xs _)))
  | dropped n fuel _ => exact State.Sets.same.calm ⟨s.steady_dropSpent n fuel, (s.traffic_dropSpent n fuel).changes.accepts⟩
  | took n fuel u x e _ hu _ _ =>
    subst hu
    exact (State.Sets.same.calm ⟨s.steady_dropSpent n fuel, (s.traffic_dropSpent n fuel).changes.accepts⟩).calm
      ⟨State.steady_takeHead _ _ _ _ _, (State.traffic_takeHead _ _ _ _ _).changes.accepts⟩
  | fetches kind tag chain _ _ => exact State.Sets.same.calm (s.calm_queueJob _)
  | confirmed i p e _ _ => exact State.Sets.same.calm (s.calm_confirmed i p e)
  | cameBack i p e reason _ _ => exact State.Sets.same.calm (s.calm_comeBack i p e reason)
  | withdrawn i p e _ _ =>
    exact ((State.Sets.same.calm (s.calm_withdrawEntry i p e)).calm (State.calm_settleIfEmpty _ i)).calm (State.calm_closeIfDrained _ _)
  | cancelled p => exact State.Sets.same.calm ⟨s.steady_cancelJobs p _ _, (s.engine_cancelJobs p _ _).accepts⟩
  | policy level mode hl => exact (State.Sets.policy level mode hl).configures

theorem State.configures_taking {s : State} {slot : Nat} {t : State} (k : s.Taking slot t) : s.Configures t := by
  rcases k with rfl | ⟨r, u, b, x, -, he, rfl⟩
  · exact State.Sets.same.configures
  · have hu := (s.calm_taken slot).configures.trans (State.configures_effect he)
    split
    · exact hu.calm (u.calm_fill slot x)
    · exact hu

/-- After the power-on reset every slot but slot 0 is UNUSED. -/
theorem State.station_reset {n : Nat} (h : n ≠ 0) : State.reset.station n = Station.unused := by
  simp [State.reset, Spu.powerOn, State.station, Table.read, readCells, h]

theorem State.fit_reset : State.reset.Fit := by
  have hs (n : Nat) : (State.reset.station n).config.Sound := by
    by_cases h : n = 0
    · subst h; decide
    · rw [State.station_reset h]
      decide
  refine ⟨by decide, by decide, hs, fun d => ?_, fun d _ n hn => ?_, fun f hf => ?_, ⟨0, by decide⟩⟩
  · show Destination.powerOn.settings.Sound
    decide
  · have : n ∈ Destination.powerOn.bound.toList := hn
    simp [Destination.powerOn] at this
  · simp [State.reset] at hf

theorem State.accepts_scanStations : s.Accepts s.scanStations := by
  have port (l : List Nat) (u : State) : (l.foldl (fun s n => s.emptyPort n false) u).dqu = u.dqu := by
    induction l generalizing u with
    | nil => rfl
    | cons a l ih => exact ih _
  intro d hd
  refine (State.changes_markReset _ _).accepts d (State.Changes.accepts
    (ReflTransGen.foldl State.restoreFlags (fun s n => s.changes_restoreFlags n) _ _) d
    ((State.traffic_returnCheckouts _ _).changes.accepts d ?_))
  simp only [State.destination, port]
  exact hd

theorem State.accepts_scanContexts : s.Accepts s.scanEngine.scanContexts :=
  fun d hd => (State.changes_scanContexts _).accepts d hd

theorem State.accepts_scanEngine : s.Accepts s.scanEngine := fun _ => id

theorem State.accepts_scanReservation : s.Accepts s.scanReservation := fun _ => id

theorem State.accepts_scanStack : s.Accepts s.scanStack := fun _ => id

theorem State.accepts_scanHold : s.Accepts s.scanStack.scanHold := fun d hd => (State.changes_scanHold _).accepts d hd

theorem State.accepts_scanFirstPurges (k : Nat) : s.Accepts (s.scanFirstPurges k) :=
  fun d hd => (s.traffic_scanFirstPurges k).changes.accepts d hd

theorem State.configures_scanned :
    s.Configures s.scanStations.scanEngine.scanContexts.scanStack.scanHold.scanRelease := by
  have h2 (u : State) : u.Calm u.scanEngine.scanContexts :=
    ⟨u.steady_scanEngine.trans (State.steady_scanContexts _), u.accepts_scanContexts⟩
  have h3 (u : State) : u.Calm u.scanStack.scanHold := ⟨u.steady_scanStack.trans (State.steady_scanHold _), u.accepts_scanHold⟩
  have h4 (u : State) : ({ u with part := .ready } : State).Calm u.scanRelease :=
    ⟨(u.steady_scanFirstPurges _).trans (State.steady_scanFirstReleases _ _),
      ((u.traffic_scanFirstPurges _).trans (State.traffic_scanFirstReleases _ _)).changes.accepts⟩
  have k : s.Calm s.scanStations.scanEngine.scanContexts.scanStack.scanHold :=
    (State.Calm.trans ⟨s.steady_scanStations, s.accepts_scanStations⟩ (h2 _)).trans (h3 _)
  exact (k.configures.trans (State.Sets.aside .ready _ _ _ _).configures).calm (h4 _)

theorem State.Accepts.trans {s t u : State} (h : s.Accepts t) (k : t.Accepts u) : s.Accepts u := fun d hd => k d (h d hd)

theorem State.accepts_scanUpTo (p : Config.ScanPoint) : s.Accepts (s.scanUpTo p) := by
  have h3 : s.Accepts s.scanStations.scanEngine.scanContexts := s.accepts_scanStations.trans (State.accepts_scanContexts _)
  have h6 : s.Accepts s.scanStations.scanEngine.scanContexts.scanStack.scanHold := h3.trans (State.accepts_scanHold _)
  unfold State.scanUpTo
  cases p with
  | notBegun => exact fun _ => id
  | stations => exact s.accepts_scanStations
  | engine => exact s.accepts_scanStations.trans (State.accepts_scanEngine _)
  | contexts k =>
    exact (s.accepts_scanStations.trans (State.accepts_scanEngine _)).trans (State.changes_scanFirstContexts _ k).accepts
  | pages => exact h3
  | reservation => exact h3.trans (State.accepts_scanReservation _)
  | stack => exact h3.trans (State.accepts_scanStack _)
  | hold => exact h6
  | purges k => exact h6.trans (State.accepts_scanFirstPurges _ k)
  | releases k => exact (h6.trans (State.accepts_scanFirstPurges _ _)).trans (State.traffic_scanFirstReleases _ k).changes.accepts

theorem State.fit_started {s : State} (h : s.Fit) : s.started.Fit := by
  obtain ⟨h1, h2, h3, h4, h5, -, -, h8⟩ := State.fit_reset.settings
  have k : State.Fit { State.reset with tb := s.tb } := State.fit_reset.other State.fit_reset.canonical
    ⟨h1, h2, h3, h4, h5, h.settings.2.2.2.2.2.1, h.settings.2.2.2.2.2.2.1, h8⟩ rfl rfl rfl
  exact k.sets (.aside _ _ _ _ _)

/-- An event is a reset, or a setting and what follows. -/
theorem State.configures_event {s t : State} (k : s.Event t) : t = s.fresh ∨ t = s.started ∨ s.Configures t := by
  cases k with
  | poweredOn => exact .inl rfl
  | started _ => exact .inr (.inl rfl)
  | ticked => exact .inr (.inr State.Sets.ticked.configures)
  | broken hp => exact .inr (.inr (.traffic (s.steady_scanBroken hp) (fun f _ ha => s.accepts_scanUpTo _ f ha)))
  | same => exact .inr (.inr State.Sets.same.configures)
  | left _ =>
    have k : s.Calm { s with te := { s.te with request := none, tenure := none } } := ⟨s.steady_te _ rfl rfl, fun _ => id⟩
    exact .inr (.inr (k.configures.trans (State.Sets.aside .recovering s.held _ _ _).configures))
  | scanned _ => exact .inr (.inr s.configures_scanned)
  | idle n c _ _ =>
    exact .inr (.inr (State.Calm.configures ⟨(s.steady_endReception n c true).trans (State.steady_send _ _ _ _),
      (s.changes_idleEnd n c).accepts⟩))
  | holdExpired i p e _ _ => exact .inr (.inr ((s.calm_sendExpired i p e).trans (State.calm_comeBack _ _ _ _ _)).configures)
  | released i =>
    exact .inr (.inr (State.Calm.configures ⟨s.steady_releaseTest i, (s.traffic_releaseTest i).changes.accepts⟩))
  | answered a => exact .inr (.inr (State.Sets.aside _ _ a _ _).configures)
  | accessed slot st a _ hst =>
    have hc : st.config = (s.station slot).config := by
      cases hst with
      | started w _ =>
        unfold Station.startRecord
        dsimp only
        split <;> rfl
      | word w =>
        unfold Station.appendWord
        split
        · rfl
        · dsimp only
          split <;> rfl
      | read =>
        unfold Station.readReply
        split
        · rfl
        · split <;> dsimp only <;> split <;> rfl
      | status => rfl
      | acknowledged => rfl
    exact .inr (.inr ((s.calm_setStation slot st hc).configures.trans (State.Sets.aside _ _ a _ _).configures))
  | reset slot a _ _ => exact .inr (.inr ((s.calm_stationReset slot false).configures.trans (State.Sets.aside _ _ a _ _).configures))
  | granted q _ _ =>
    exact .inr (.inr (State.Calm.configures ⟨(State.steady_grantBurst _ _).before (s.steady_te _ rfl rfl),
      fun d hd => (State.engine_grantBurst _ _).accepts d hd⟩))
  | completed words =>
    exact .inr (.inr (s.calm_burst _ (fun s j b => s.steady_burstDone j b words)
      (fun s j b => s.engine_burstDone j b words)).configures)
  | retried =>
    exact .inr (.inr (s.calm_burst _ (fun s j _ => .ite _ (s.steady_endJob _ _) (.refl s))
      (fun s j _ => ⟨0, [], .ite _ (s.engine_endJob _ _) .refl⟩)).configures)
  | failed =>
    exact .inr (.inr (s.calm_burst _ (fun s j _ => s.steady_endJob _ _) (fun s j _ => ⟨0, [], s.engine_endJob _ _⟩)).configures)

/-- A step is a reset, or settings and traffic. -/
theorem State.configures_step {s t : State} (k : step s = .next t) :
    (∃ q, t = { s with pending := q }.fresh ∨ t = { s with pending := q }.started) ∨ s.Configures t := by
  rcases step_cases s k with rfl | ⟨q, he | ⟨slot, ht⟩⟩
  · exact .inr State.Sets.same.configures
  · have k := (State.Sets.aside (s := s) s.part s.heldAtLeave s.answer s.choice q).configures
    rcases State.configures_event he with e | e | h
    · exact .inl ⟨q, .inl e⟩
    · exact .inl ⟨q, .inr e⟩
    · exact .inr (k.trans h)
  · exact .inr ((State.Sets.aside (s := s) s.part s.heldAtLeave s.answer s.choice q).configures.trans (State.configures_taking ht))

theorem State.Fit.step {s t : State} (h : s.Fit) (k : step s = .next t) : t.Fit := by
  rcases State.configures_step k with ⟨q, rfl | rfl⟩ | k
  · exact State.fit_reset.sets (.aside _ _ _ _ _)
  · exact State.fit_started (h.sets (.aside _ _ _ _ q))
  · exact k.fit h

/-- Every table stays canonical, whatever the configuration. -/
theorem State.canonical_step {s t : State} (h : s.Canonical) (k : step s = .next t) : t.Canonical := by
  rcases State.configures_step k with ⟨q, rfl | rfl⟩ | k
  · exact State.fit_reset.canonical
  · exact State.fit_reset.canonical
  · exact k.canonical h

end Sys2Proof.Machine

open Sys2Proof.Machine

/-- Settles O59: the configuration in its ranges, with the canonical tables, is kept by every effect and every event. -/
theorem invariantKept : Obligations.InvariantKept := by
  intro s t hr hc k
  exact t.fit_iff.1 (((s.fit_iff).2 ⟨hr, hc⟩).step k)
end

-- ==== Proofs: the ports ====
section
/-!
SUPPORT. The ports stay sound (R169 to R173): each slot by itself, and the reservations of a slot against the jobs that will
reply to it and the replies owed to commands under way. The engine is seen through the claims of its jobs alone: whose each is,
and whether its reply is suppressed.
-/

namespace Sys2Proof.Machine

open Relation (ReflTransGen)

/-- What `State.PortsSound` says of slot `n` by itself. -/
structure Station.Tidy (n : Nat) (st : Station) : Prop where
  replies : n < 16 → st.replies.length + st.reserved ≤ 32
  requests : st.requests.length + bit st.assembly.isSome ≤ 8
  latch : ∀ k, st.latch = some k → ∃ r rest, st.replies = r :: rest ∧ 1 ≤ k ∧ k ≤ r.words.length
  assembly : ∀ r, st.assembly = some r → r.words.length + 2 ≤ r.header.length ∧ r.header.length ≤ 64
  records : ∀ r ∈ st.requests, if r.header.badLength then r.words = [] else r.words.length + 1 = r.header.length
  slots : 16 ≤ n → st.rights.any = false ∧ st.requests = []

/-- What a job claims of a port: a reply to its slot, unless it is suppressed. -/
def Job.claim (j : Job) : Nat × Bool := (j.slot, j.suppressed)

/-- The claims of the jobs in the engine. -/
def State.claims (s : State) : List (Nat × Bool) := s.te.jobs.map Job.claim

/-- The ports of a part in state `p` are sound while `owed n` replies to commands of slot `n` are outstanding, and no job of a
slot in `muted` will reply. -/
structure State.Ports (s : State) (p : PartState) (owed : Nat → Nat) (muted : Nat → Prop) : Prop where
  part : s.part = p
  stations : ∀ n, (s.station n).Tidy n
  reserved : p ≠ .recovering → ∀ n, n < 16 → (s.station n).reserved = s.claims.count (n, false) + owed n
  few : s.claims.length ≤ 32 ∧ ∀ n, (s.claims.map Prod.fst).count n ≤ 4
  slots : ∀ c ∈ s.claims, c.1 < 16 ∧ (muted c.1 → c.2 = true)
  bus : p = .recovering → s.te.request = none ∧ s.te.tenure = none

theorem State.count_claims (s : State) (n : Nat) :
    s.claims.count (n, false) = (s.te.jobs.filter (fun j => decide (j.slot = n) && !j.suppressed)).length := by
  rw [State.claims, List.count, List.countP_map, List.countP_eq_length_filter]
  congr 1
  refine List.filter_congr (fun j _ => ?_)
  rw [Function.comp_apply, Job.claim, Bool.eq_iff_iff]
  simp

theorem State.count_slots (s : State) (n : Nat) : (s.claims.map Prod.fst).count n = s.jobCount n := by
  rw [State.claims, List.map_map, List.count, List.countP_map, List.countP_eq_length_filter, State.jobCount]
  congr 1

/-- Sound ports are ports with nothing owed and nobody muted. -/
theorem State.portsSound_iff (s : State) : s.PortsSound ↔ s.Ports s.part (fun _ => 0) (fun _ => False) := by
  constructor
  · rintro ⟨h1, h2, h3, h4, h5, h6, ⟨h7, h8, h9⟩, h10, h11⟩
    refine ⟨rfl, fun n => ⟨h1 n, h2 n, h4 n, h5 n, h6 n, h11 n⟩, fun hp n hn => ?_, ⟨?_, fun n => ?_⟩, fun c hc => ?_, h10⟩
    · rw [h3 hp n hn, s.count_claims, Nat.add_zero]
    · rwa [State.claims, List.length_map]
    · rw [s.count_slots]
      exact h8 n
    · obtain ⟨j, hj, rfl⟩ := List.mem_map.1 hc
      exact ⟨h9 j hj, False.elim⟩
  · rintro ⟨-, h1, h2, ⟨h3, h4⟩, h5, h6⟩
    refine ⟨fun n => (h1 n).replies, fun n => (h1 n).requests, fun hp n hn => ?_, fun n => (h1 n).latch, fun n => (h1 n).assembly,
      fun n => (h1 n).records, ⟨?_, fun n => ?_, fun j hj => ?_⟩, h6, fun n => (h1 n).slots⟩
    · rw [h2 hp n hn, s.count_claims, Nat.add_zero]
    · rwa [State.claims, List.length_map] at h3
    · rw [← s.count_slots]
      exact h4 n
    · exact (h5 j.claim (List.mem_map_of_mem hj)).1

/-- One more reply owed to slot `n`. -/
def oweTo (owed : Nat → Nat) (n : Nat) : Nat → Nat := fun m => owed m + if m = n then 1 else 0

section Rules

variable {s t : State} {p : PartState} {owed : Nat → Nat} {muted : Nat → Prop}

/-! ## Rules of one change -/

/-- The ports are the part state, the slots, the claims and, while RECOVERING, the bus. -/
theorem State.Ports.congr (h : s.Ports p owed muted) (hp : t.part = s.part) (hs : ∀ n, t.station n = s.station n)
    (hc : t.claims.Perm s.claims) (hb : p = .recovering → t.te.request = none ∧ t.te.tenure = none) : t.Ports p owed muted where
  part := hp.trans h.part
  stations n := by rw [hs]; exact h.stations n
  reserved hp n hn := by rw [hs, hc.count_eq]; exact h.reserved hp n hn
  few := by
    rw [hc.length_eq]
    exact ⟨h.few.1, fun n => by rw [(hc.map _).count_eq]; exact h.few.2 n⟩
  slots c hm := h.slots c (hc.mem_iff.1 hm)
  bus := hb

/-- A slot is written with a tidy state of the same reservations. -/
theorem State.Ports.setStation (h : s.Ports p owed muted) {n : Nat} {st : Station} (ht : st.Tidy n)
    (hr : p ≠ .recovering → st.reserved = (s.station n).reserved) : (s.setStation n st).Ports p owed muted where
  part := h.part
  stations m := by
    rw [State.station_setStation]
    split
    · rename_i e
      exact e ▸ ht
    · exact h.stations m
  reserved hp m hm := by
    have := h.reserved hp m hm
    rw [State.station_setStation]
    split
    · rename_i e
      subst e
      rw [hr hp]
      exact this
    · exact this
  few := h.few
  slots := h.slots
  bus := h.bus

/-- A reply joins a queue with room. -/
theorem Station.Tidy.append {n : Nat} {st : Station} (h : st.Tidy n) (r : Reply) {k : Nat}
    (hk : st.replies.length + 1 + k ≤ 32) : ({ st with replies := st.replies ++ [r], reserved := k } : Station).Tidy n where
  replies _ := by simp only [List.length_append, List.length_singleton]; omega
  requests := h.requests
  latch j hj := by
    obtain ⟨a, rest, ha, hb⟩ := h.latch j hj
    exact ⟨a, rest ++ [r], by simp [ha], hb⟩
  assembly := h.assembly
  records := h.records
  slots := h.slots

theorem State.Ports.notified (h : s.Ports p owed muted) (k : s.Notified t) : t.Ports p owed muted := by
  cases k with
  | post n r room =>
    simp only [State.replyRoom, Config.replyQueue] at room
    have room := of_decide_eq_true room
    exact h.setStation ((h.stations n).append r (by omega)) (fun _ => rfl)
  | lost n =>
    exact h.setStation ⟨(h.stations n).1, (h.stations n).2, (h.stations n).3, (h.stations n).4, (h.stations n).5,
      (h.stations n).6⟩ (fun _ => rfl)
  | fault => exact h.congr rfl (fun _ => rfl) (.refl _) h.bus

theorem State.Ports.change (h : s.Ports p owed muted) (k : s.Change t) : t.Ports p owed muted := by
  cases k with
  | notified k => exact h.notified k
  | flags n _ _ _ =>
    exact h.setStation ⟨(h.stations n).1, (h.stations n).2, (h.stations n).3, (h.stations n).4, (h.stations n).5,
      (h.stations n).6⟩ (fun _ => rfl)
  | destination n x _ => exact h.congr rfl (fun _ => rfl) (.refl _) h.bus
  | inner _ _ _ _ _ _ => exact h.congr rfl (fun _ => rfl) (.refl _) h.bus

theorem State.Ports.changes (h : s.Ports p owed muted) (k : s.Changes t) : t.Ports p owed muted := by
  induction k with
  | refl => exact h
  | tail _ k ih => exact ih.change k

/-- What a reply that is owed reserves is filled by it (R170, R172). -/
theorem State.Ports.fill (hp : p ≠ .recovering) {n : Nat} (r : Reply) (h : s.Ports p (oweTo owed n) muted) :
    (s.fillReservation n r).Ports p owed muted where
  part := h.part
  stations m := by
    unfold State.fillReservation
    rw [State.station_setStation]
    split
    · rename_i e
      subst e
      have ht := h.stations m
      by_cases hm : m < 16
      · have h1 := h.reserved hp m hm
        have h2 := ht.replies hm
        simp only [oweTo, if_true] at h1
        exact ht.append r (by omega)
      · exact ⟨fun h => absurd h hm, ht.requests, fun j hj => by
          obtain ⟨a, rest, ha, hb⟩ := ht.latch j hj
          exact ⟨a, rest ++ [r], by simp [ha], hb⟩, ht.assembly, ht.records, ht.slots⟩
    · exact h.stations m
  reserved hp m hm := by
    have h1 := h.reserved hp m hm
    unfold State.fillReservation
    rw [State.station_setStation]
    simp only [oweTo] at h1
    split
    · rename_i e
      subst e
      rw [if_pos rfl] at h1
      show (s.station m).reserved - 1 = s.claims.count (m, false) + owed m
      omega
    · rename_i e
      rwa [if_neg e, Nat.add_zero] at h1
  few := h.few
  slots := h.slots
  bus := h.bus

/-! ## Jobs that end -/

/-- A job leaves the engine; unless it is suppressed its reply is owed. -/
theorem State.Ports.erase (h : s.Ports p owed muted) {j : Job} (hj : j ∈ s.te.jobs) :
    State.Ports { s with te := { s.te with jobs := s.te.jobs.erase j } } p (if j.suppressed then owed else oweTo owed j.slot)
      muted := by
  have hperm : s.claims.Perm (j.claim :: (s.te.jobs.erase j).map Job.claim) := (List.perm_cons_erase hj).map Job.claim
  have hc : State.claims { s with te := { s.te with jobs := s.te.jobs.erase j } } = (s.te.jobs.erase j).map Job.claim := rfl
  refine ⟨h.part, h.stations, fun hp n hn => ?_, ⟨?_, fun n => ?_⟩, fun c hm => ?_, h.bus⟩
  · have h1 := h.reserved hp n hn
    rw [hperm.count_eq, List.count_cons] at h1
    rw [hc]
    show (s.station n).reserved = _
    rw [h1]
    cases hs : j.suppressed with
    | true => simp [Job.claim, hs]
    | false =>
      by_cases e : n = j.slot
      · subst e
        simp [Job.claim, hs, oweTo]
        omega
      · simp [Job.claim, hs, oweTo, e, Ne.symm e]
  · have := h.few.1
    rw [hperm.length_eq, List.length_cons] at this
    rw [hc]
    omega
  · have := h.few.2 n
    rw [(hperm.map _).count_eq, List.map_cons, List.count_cons] at this
    rw [hc]
    omega
  · exact h.slots c (hperm.mem_iff.2 (List.mem_cons_of_mem _ hm))

theorem List.map_replace_of_eq {α β : Type} [BEq α] [LawfulBEq α] (f : α → β) {a b : α} (h : f b = f a) (l : List α) :
    (l.replace a b).map f = l.map f := by
  induction l with
  | nil => rfl
  | cons c l ih =>
    rw [List.replace_cons]
    split
    · rename_i e
      obtain rfl := eq_of_beq e
      simp [h]
    · simp [ih]

theorem List.filter_replace_of_not {α : Type} [BEq α] [LawfulBEq α] (q : α → Bool) {a b : α} (ha : q a = false) (hb : q b = false)
    (l : List α) : (l.replace a b).filter q = l.filter q := by
  induction l with
  | nil => rfl
  | cons c l ih =>
    rw [List.replace_cons]
    split
    · rename_i e
      obtain rfl := eq_of_beq e
      simp [ha, hb]
    · simp [List.filter_cons, ih]

theorem List.mem_replace_self {α : Type} [BEq α] [LawfulBEq α] {a : α} (b : α) {l : List α} (h : a ∈ l) : b ∈ l.replace a b := by
  induction l with
  | nil => simp at h
  | cons c l ih =>
    rw [List.replace_cons]
    split
    · simp
    · rename_i e
      rcases List.mem_cons.1 h with rfl | h
      · simp at e
      · exact List.mem_cons_of_mem _ (ih h)

/-- The free channels take jobs: the engine's registers change, and neither a claim nor a cancelled job. -/
theorem State.assignChannels_te (s : State) : ∃ x, s.assignChannels = { s with te := x } ∧ x.jobs.map Job.claim = s.claims
    ∧ x.jobs.filter (fun j => j.cancelled) = s.te.jobs.filter (fun j => j.cancelled)
    ∧ x.request = s.te.request ∧ x.tenure = s.te.tenure := by
  have step (u : State) (c : Nat) (hu : ∃ x, u = { s with te := x } ∧ x.jobs.map Job.claim = s.claims
      ∧ x.jobs.filter (fun j => j.cancelled) = s.te.jobs.filter (fun j => j.cancelled)
      ∧ x.request = s.te.request ∧ x.tenure = s.te.tenure) : ∃ x, u.assignChannel c = { s with te := x }
      ∧ x.jobs.map Job.claim = s.claims ∧ x.jobs.filter (fun j => j.cancelled) = s.te.jobs.filter (fun j => j.cancelled)
      ∧ x.request = s.te.request ∧ x.tenure = s.te.tenure := by
    obtain ⟨x, rfl, h1, h2, h3, h4⟩ := hu
    unfold State.assignChannel
    split
    · exact ⟨x, rfl, h1, h2, h3, h4⟩
    split
    · exact ⟨x, rfl, h1, h2, h3, h4⟩
    · rename_i j hj
      have hn := List.find?_some hj
      simp only [Bool.and_eq_true, Bool.not_eq_true'] at hn
      refine ⟨_, rfl, ?_, ?_, h3, h4⟩
      · rw [← h1]
        exact List.map_replace_of_eq Job.claim (show Job.claim { j with channel := some c } = Job.claim j from rfl) _
      · rw [← h2]
        exact List.filter_replace_of_not (b := { j with channel := some c }) (fun j : Job => j.cancelled) hn.2 hn.2 _
  unfold State.assignChannels
  generalize [0, 1, 2, 3] = l
  have fold : ∀ (l : List Nat) (u : State), (∃ x, u = { s with te := x } ∧ x.jobs.map Job.claim = s.claims
      ∧ x.jobs.filter (fun j => j.cancelled) = s.te.jobs.filter (fun j => j.cancelled)
      ∧ x.request = s.te.request ∧ x.tenure = s.te.tenure) → ∃ x, l.foldl State.assignChannel u = { s with te := x }
      ∧ x.jobs.map Job.claim = s.claims ∧ x.jobs.filter (fun j => j.cancelled) = s.te.jobs.filter (fun j => j.cancelled)
      ∧ x.request = s.te.request ∧ x.tenure = s.te.tenure := by
    intro l
    induction l with
    | nil => exact fun u hu => hu
    | cons c l ih => exact fun u hu => ih _ (step u c hu)
  exact fold l s ⟨s.te, rfl, rfl, rfl, rfl, rfl⟩

theorem State.Ports.assignChannels (h : s.Ports p owed muted) : s.assignChannels.Ports p owed muted := by
  obtain ⟨x, hx, hc, -, h3, h4⟩ := s.assignChannels_te
  rw [hx]
  refine h.congr rfl (fun _ => rfl) (.of_eq hc) (fun hp => ?_)
  show x.request = none ∧ x.tenure = none
  rw [h3, h4]
  exact h.bus hp

theorem State.changes_ownerEnd (s : State) (j : Job) : s.Changes (s.ownerEnd j) := by
  unfold State.ownerEnd
  split
  · split
    · exact .refl
    split
    · exact .refl
    · exact s.changes_setContext _ _
  · split
    · exact .refl
    split
    · exact s.changes_setDocument _ _
    · exact .refl

theorem State.changes_documentEnd (s : State) (j : Job) : s.Changes (s.documentEnd j) := by
  unfold State.documentEnd
  split
  · exact .refl
  split
  · split
    · exact s.changes_freeDocument _
    · exact (s.traffic_releaseTest _).changes
    all_goals exact .refl
  · exact .refl

/-- The jobs left when one has ended. -/
theorem State.jobs_endJob (s : State) (j : Job) (o : Status) : (s.endJob j o).te.jobs =
    (State.assignChannels { s with te := { s.te with jobs := s.te.jobs.erase j } }).te.jobs := by
  have h2 := (State.changes_ownerEnd (State.assignChannels { s with te := { s.te with jobs := s.te.jobs.erase j } }) j).te
  unfold State.endJob
  dsimp only
  rw [(State.changes_documentEnd _ _).te]
  split
  · rw [h2]
  · rw [← h2]
    rfl

/-- A job of the engine ends (R161). -/
theorem State.Ports.endJob (hp : p ≠ .recovering) (h : s.Ports p owed muted) {j : Job} (hj : j ∈ s.te.jobs) (o : Status) :
    (s.endJob j o).Ports p owed muted := by
  have h2 := ((h.erase hj).assignChannels).changes (State.changes_ownerEnd _ j)
  unfold State.endJob
  refine State.Ports.changes ?_ (State.changes_documentEnd _ j)
  split
  · rename_i hs
    rwa [if_pos hs] at h2
  · rename_i hs
    rw [if_neg hs] at h2
    exact h2.fill hp _

theorem State.Ports.replaceJob (h : s.Ports p owed muted) {j k : Job} (hc : k.claim = j.claim) :
    (s.replaceJob j k).Ports p owed muted :=
  h.congr rfl (fun _ => rfl) (.of_eq (List.map_replace_of_eq Job.claim hc _)) h.bus

theorem State.approach_claim {j k : Job} {a : Word} (h : s.approach j a = .ok k) : k.claim = j.claim := by
  unfold State.approach at h
  split at h
  · cases h
  · dsimp only at h
    split at h
    · cases h
      rfl
    · cases h

theorem State.fetched_claim {j k : Job} {a w1 w2 w3 w4 : Word} (h : s.fetched j a w1 w2 w3 w4 = .ok k) : k.claim = j.claim := by
  unfold State.fetched at h
  dsimp only at h
  split at h
  · cases h
  · split at h
    · cases h
      rfl
    · cases h

theorem State.Ports.beginWalks (hp : p ≠ .recovering) (h : s.Ports p owed muted) (fuel : Nat) :
    (State.beginWalks fuel s).Ports p owed muted := by
  induction fuel generalizing s with
  | zero => exact h
  | succ fuel ih =>
    unfold State.beginWalks
    split
    · exact h
    rename_i j hj
    split
    · rename_i k hk
      exact ih (h.replaceJob (State.approach_claim hk))
    · exact ih (h.endJob hp (List.mem_of_find?_eq_some hj) _)

/-- The bus request and the tenure are no claims. -/
theorem State.Ports.te (hp : p ≠ .recovering) (h : s.Ports p owed muted) (x : Te) (hx : x.jobs = s.te.jobs) :
    State.Ports { s with te := x } p owed muted :=
  h.congr rfl (fun _ => rfl) (.of_eq (congrArg (List.map Job.claim) hx)) (fun e => absurd e hp)

theorem State.Ports.updateRequest (hp : p ≠ .recovering) (h : s.Ports p owed muted) : s.updateRequest.Ports p owed muted := by
  unfold State.updateRequest
  split
  · exact h
  split
  · exact h.te hp _ rfl
  split
  · exact h
  · exact h.te hp _ rfl

theorem State.Ports.grantBurst (hp : p ≠ .recovering) (h : s.Ports p owed muted) (m : BusMode) :
    (s.grantBurst m).Ports p owed muted := by
  unfold State.grantBurst
  split
  · exact h.te hp _ rfl
  split
  · exact h.te hp _ rfl
  · exact h.te hp _ rfl

theorem State.Ports.afterBurst (hp : p ≠ .recovering) (h : s.Ports p owed muted) (m : BusMode) :
    (s.afterBurst m).Ports p owed muted := by
  unfold State.afterBurst
  split
  · exact (h.te hp { s.te with tenure := none } rfl).updateRequest hp
  · exact (h.grantBurst hp _).updateRequest hp

theorem State.Ports.runEngine (hp : p ≠ .recovering) (h : s.Ports p owed muted) : s.runEngine.Ports p owed muted :=
  (h.beginWalks hp _).updateRequest hp

/-- A job that will reply joins the engine in the place of the reply its command is owed (R31, R133). -/
theorem State.Ports.queueJob (hp : p ≠ .recovering) {slot : Nat} (h : s.Ports p (oweTo owed slot) muted) {j : Job}
    (hj : j.claim = (slot, false)) (hs : slot < 16) (hm : ¬ muted slot) (few : s.jobCount slot < 4) (room : s.te.jobs.length < 32) :
    (s.queueJob j).Ports p owed muted := by
  have hc : State.claims { s with te := { s.te with jobs := s.te.jobs ++ [j] } } = s.claims ++ [(slot, false)] := by
    simp [State.claims, hj]
  have k : State.Ports { s with te := { s.te with jobs := s.te.jobs ++ [j] } } p owed muted := by
    refine ⟨h.part, h.stations, fun hp n hn => ?_, ⟨?_, fun n => ?_⟩, fun c hm' => ?_, h.bus⟩
    · have h1 := h.reserved hp n hn
      rw [hc, List.count_append]
      show (s.station n).reserved = _
      rw [h1, oweTo]
      by_cases e : n = slot
      · subst e
        simp
        omega
      · simp [e, Ne.symm e]
    · rw [hc]
      simp only [State.claims, List.length_append, List.length_map, List.length_singleton]
      omega
    · have h1 := h.few.2 n
      rw [hc, List.map_append, List.count_append]
      by_cases e : n = slot
      · subst e
        rw [s.count_slots]
        simp
        omega
      · simpa [Ne.symm e] using h1
    · rw [hc] at hm'
      rcases List.mem_append.1 hm' with hm' | hm'
      · exact h.slots c hm'
      · obtain rfl := List.mem_singleton.1 hm'
        exact ⟨hs, fun e => absurd e hm⟩
  exact k.assignChannels.runEngine hp

/-! ## Cancellation -/

theorem List.Subperm.erase_filter {α : Type} [BEq α] [LawfulBEq α] {q : α → Bool} {a : α} {l m : List α} (hq : q a = true)
    (h : (a :: l).Subperm (m.filter q)) : a ∈ m ∧ l.Subperm ((m.erase a).filter q) := by
  have ha : a ∈ m := (List.mem_filter.1 (h.subset List.mem_cons_self)).1
  refine ⟨ha, ?_⟩
  have hp : (m.filter q).Perm (a :: (m.erase a).filter q) := by
    have := (List.perm_cons_erase ha).filter q
    rwa [List.filter_cons_of_pos hq] at this
  exact (List.subperm_cons _).1 (h.trans hp.subperm)

/-- Cancelled jobs of the engine end, one after another. -/
theorem State.Ports.endJobs (hp : p ≠ .recovering) (h : s.Ports p owed muted) (l : List Job)
    (hl : l.Subperm (s.te.jobs.filter (fun j => j.cancelled))) :
    (l.foldl (fun s j => s.endJob j .cancelled) s).Ports p owed muted := by
  induction l generalizing s with
  | nil => exact h
  | cons j l ih =>
    have hq : j.cancelled = true := (List.mem_filter.1 (hl.subset List.mem_cons_self)).2
    obtain ⟨hj, hl⟩ := List.Subperm.erase_filter hq hl
    refine ih (h.endJob hp hj _) ?_
    obtain ⟨x, hx, -, hf, -⟩ := State.assignChannels_te { s with te := { s.te with jobs := s.te.jobs.erase j } }
    rw [s.jobs_endJob, hx]
    show l.Subperm (x.jobs.filter _)
    rw [hf]
    exact hl

theorem State.Ports.cancelled (hp : p ≠ .recovering) {js : List Job}
    (h : State.Ports { s with te := { s.te with jobs := js } } p owed muted) :
    State.Ports (State.runEngine ((js.filter (fun j => j.cancelled
      && !State.underWay { s with te := { s.te with jobs := js } } j)).foldl (fun s j => s.endJob j .cancelled)
        { s with te := { s.te with jobs := js } })) p owed muted := by
  refine (h.endJobs hp _ ?_).runEngine hp
  refine List.Sublist.subperm ?_
  show List.Sublist _ (js.filter (fun j => j.cancelled))
  have : js.filter (fun j => j.cancelled && !State.underWay { s with te := { s.te with jobs := js } } j)
      = (js.filter (fun j => j.cancelled)).filter (fun j => !State.underWay { s with te := { s.te with jobs := js } } j) := by
    rw [List.filter_filter]
    exact List.filter_congr (fun _ _ => Bool.and_comm _ _)
  rw [this]
  exact List.filter_sublist

/-- A cancel that suppresses no reply. -/
theorem State.Ports.cancelJobs (hp : p ≠ .recovering) (h : s.Ports p owed muted) (q : Job → Bool) (detach : Bool) :
    (s.cancelJobs q detach false).Ports p owed muted := by
  unfold State.cancelJobs
  refine State.Ports.cancelled hp (h.congr rfl (fun _ => rfl) (.of_eq ?_) h.bus)
  show (s.te.jobs.map _).map Job.claim = _
  rw [List.map_map]
  refine List.map_congr_left (fun j _ => ?_)
  simp only [Function.comp_apply]
  split
  · simp [Job.claim, Job.cancelBy]
  · rfl

/-- Every job of slot `n` is cancelled and its reply suppressed; what was reserved for them is left over (R181 step 1). -/
theorem State.Ports.suppressSlot (hp : p ≠ .recovering) (h : s.Ports p owed (fun _ => False)) (n : Nat) :
    (s.cancelJobs (fun j => decide (j.slot = n)) true true).Ports p
      (fun m => if m = n then (s.station n).reserved else owed m) (fun m => m = n) := by
  unfold State.cancelJobs
  set js := s.te.jobs.map (fun j => if decide (j.slot = n) then j.cancelBy true true else j) with hjs
  refine State.Ports.cancelled hp ?_
  have hslot : js.map (fun j => j.slot) = s.te.jobs.map (fun j => j.slot) := by
    rw [hjs, List.map_map]
    refine List.map_congr_left (fun j _ => ?_)
    simp only [Function.comp_apply]
    split <;> rfl
  have hmute : ∀ j ∈ js, j.slot = n → j.suppressed = true := by
    intro j hj hn
    obtain ⟨k, -, rfl⟩ := List.mem_map.1 hj
    by_cases hk : k.slot = n
    · simp [hk, Job.cancelBy]
    · simp [hk] at hn
  have hcount (m : Nat) : (js.map Job.claim).count (m, false) = if m = n then 0 else s.claims.count (m, false) := by
    split
    · rename_i e
      subst e
      refine List.count_eq_zero.2 (fun hm => ?_)
      obtain ⟨j, hj, hc⟩ := List.mem_map.1 hm
      simp only [Job.claim, Prod.mk.injEq] at hc
      simp [hmute j hj hc.1] at hc
    · rename_i e
      simp only [hjs, State.claims, List.count, List.countP_map]
      refine List.countP_congr (fun j _ => ?_)
      simp only [Function.comp_apply, Job.claim, beq_iff_eq, Prod.mk.injEq]
      split
      · rename_i hj
        rw [decide_eq_true_eq] at hj
        simp [Job.cancelBy, hj, Ne.symm e]
      · rfl
  refine ⟨h.part, h.stations, fun hp m hm => ?_, ⟨?_, fun m => ?_⟩, fun c hc => ?_, h.bus⟩
  · show (s.station m).reserved = (js.map Job.claim).count (m, false) + _
    rw [hcount]
    split
    · rename_i e
      rw [e, Nat.zero_add]
    · exact h.reserved hp m hm
  · show (js.map Job.claim).length ≤ 32
    have := h.few.1
    simp only [State.claims, hjs, List.length_map] at this ⊢
    exact this
  · show ((js.map Job.claim).map Prod.fst).count m ≤ 4
    have h1 := h.few.2 m
    rw [State.claims, List.map_map] at h1
    rw [List.map_map]
    have e1 : (js.map (Prod.fst ∘ Job.claim)) = js.map (fun j => j.slot) := rfl
    have e2 : (s.te.jobs.map (Prod.fst ∘ Job.claim)) = s.te.jobs.map (fun j => j.slot) := rfl
    rw [e1, hslot, ← e2]
    exact h1
  · obtain ⟨j, hj, rfl⟩ := List.mem_map.1 hc
    refine ⟨?_, fun e => hmute j hj e⟩
    have hm : j.slot ∈ s.te.jobs.map (fun j => j.slot) := hslot ▸ List.mem_map_of_mem hj
    obtain ⟨k, hk, e⟩ := List.mem_map.1 hm
    have := (h.slots k.claim (List.mem_map_of_mem hk)).1
    show j.slot < 16
    rw [← e]
    exact this

/-- Step 2 of a station reset empties a port no job of which will reply; a reservation kept is owed (R181, R182). -/
theorem State.Ports.emptyPort {n : Nat} (h : s.Ports p owed (fun m => m = n)) (keep : Bool) :
    (s.emptyPort n keep).Ports p (fun m => if m = n then bit keep else owed m) (fun _ => False) := by
  have hst (m : Nat) : (s.emptyPort n keep).station m = if m = n then (s.station n).emptied keep else s.station m :=
    s.station_setStation n m _
  refine ⟨h.part, fun m => ?_, fun hp m hm => ?_, h.few, fun c hc => ⟨(h.slots c hc).1, False.elim⟩, h.bus⟩
  · rw [hst]
    split
    · rename_i e
      subst e
      refine ⟨fun _ => ?_, by simp [Station.emptied, bit], fun k hk => by simp [Station.emptied] at hk,
        fun r hr => by simp [Station.emptied] at hr, fun r hr => by simp [Station.emptied] at hr,
        fun h16 => ⟨((h.stations m).slots h16).1, rfl⟩⟩
      cases keep <;> simp [Station.emptied, bit]
    · exact h.stations m
  · rw [hst]
    split
    · rename_i e
      subst e
      have : s.claims.count (m, false) = 0 :=
        List.count_eq_zero.2 (fun hc => by simpa using (h.slots _ hc).2 rfl)
      show bit keep = s.claims.count (m, false) + bit keep
      rw [this, Nat.zero_add]
    · exact h.reserved hp m hm

/-- The station reset of slot `n` (R181): nothing is reserved but, where it is kept, the reply of the command itself. -/
theorem State.Ports.stationReset (hp : p ≠ .recovering) (h : s.Ports p owed (fun _ => False)) (n : Nat) (keep : Bool) :
    (s.stationReset n keep).Ports p (fun m => if m = n then bit keep else owed m) (fun _ => False) := by
  have h1 := ((h.changes (s.changes_markReset [n])).suppressSlot hp n).emptyPort keep
  have h2 := ((h1.changes (State.changes_endReceptionsOf _ n)).changes
    (State.traffic_returnCheckouts _ (fun m => decide (m = n))).changes).changes
    (State.changes_restoreFlags _ n)
  have h3 := h2.changes (State.changes_markReset _ [])
  unfold State.stationReset
  have e : (fun m => if m = n then bit keep else
      if m = n then ((s.markReset [n]).station n).reserved else owed m) = fun m => if m = n then bit keep else owed m := by
    funext m
    split <;> rfl
  rw [e] at h3
  exact h3

/-! ## Bursts -/

/-- The end of a burst is handled for a job of the engine. -/
theorem State.Ports.burstEnd (hp : p ≠ .recovering) (h : s.Ports p owed muted) (f : State → Job → Burst → State)
    (hf : ∀ j ∈ s.te.jobs, ∀ b, (f s j b).Ports p owed muted) : (s.burstEnd f).Ports p owed muted := by
  unfold State.burstEnd
  split
  · exact h
  split
  · exact h.afterBurst hp _
  · rename_i j hj
    exact ((hf j (List.mem_of_find?_eq_some hj) _).beginWalks hp _).afterBurst hp _

theorem State.Ports.nextDescriptor (hp : p ≠ .recovering) (h : s.Ports p owed muted) {j : Job} (hj : j ∈ s.te.jobs) (c : Descriptor)
    (o : Status) : (s.nextDescriptor j c o).Ports p owed muted := by
  unfold State.nextDescriptor
  split
  · exact h.endJob hp hj _
  split
  · rename_i k hk
    exact h.replaceJob (State.approach_claim hk)
  · exact h.endJob hp hj _

theorem State.changes_notifyRegion (s : State) (j : Job) (c : Descriptor) (n : Nat) : s.Changes (s.notifyRegion j c n) := by
  unfold State.notifyRegion
  split
  · exact (s.notices_send _ _ _).changes
  · exact .refl

theorem State.Ports.fetchComplete (hp : p ≠ .recovering) (h : s.Ports p owed muted) {j : Job} (hj : j ∈ s.te.jobs) (a : Word)
    (ws : List Word) : (s.fetchComplete j a ws).Ports p owed muted := by
  unfold State.fetchComplete
  set j1 : Job := { j with fetched := j.fetched + 1, fetch := none }
  have h1 : (s.replaceJob j j1).Ports p owed muted := h.replaceJob rfl
  have hj1 : j1 ∈ (s.replaceJob j j1).te.jobs := List.mem_replace_self _ hj
  dsimp only
  split
  · exact h1.endJob hp hj1 _
  split
  · rename_i k hk
    exact h1.replaceJob (State.fetched_claim hk)
  · exact h1.endJob hp hj1 _

theorem State.Ports.intakeComplete (hp : p ≠ .recovering) (h : s.Ports p owed muted) {j : Job} (hj : j ∈ s.te.jobs) (c : Descriptor)
    (n : Nat) (b : Burst) (ws : List Word) : (s.intakeComplete j c n b ws).Ports p owed muted := by
  unfold State.intakeComplete
  have hr : ∀ r : Parsed, r = (if j.detached then ⟨s, 0, false⟩ else s.parseWords n (busWords ws (b.length / 4))) →
      r.state.Ports p owed muted ∧ r.state.te = s.te := by
    rintro r rfl
    split
    · exact ⟨h, rfl⟩
    · exact ⟨h.changes (s.changes_parseWords _ _), (s.changes_parseWords _ _).te⟩
  generalize (if j.detached then (⟨s, 0, false⟩ : Parsed) else s.parseWords n (busWords ws (b.length / 4))) = r at hr ⊢
  obtain ⟨hr, hte⟩ := hr r rfl
  dsimp only
  set j1 : Job := { j with moved := j.moved + 4 * r.consumed, current := some { c with moved := c.moved + b.length } }
  have h1 : (r.state.replaceJob j j1).Ports p owed muted := hr.replaceJob rfl
  have hj1 : j1 ∈ (r.state.replaceJob j j1).te.jobs := List.mem_replace_self _ (by rwa [hte])
  split
  · exact h1.endJob hp hj1 _
  split
  · exact h1.endJob hp hj1 _
  split
  · refine (h1.changes (State.changes_notifyRegion _ _ _ _)).nextDescriptor hp ?_ _ _
    rwa [(State.changes_notifyRegion _ _ _ _).te]
  · exact h1

theorem State.Ports.deliveryComplete (hp : p ≠ .recovering) (h : s.Ports p owed muted) {j : Job} (hj : j ∈ s.te.jobs)
    (c : Descriptor) (d : Delivery) (b : Burst) : (s.deliveryComplete j c d b).Ports p owed muted := by
  unfold State.deliveryComplete
  dsimp only
  generalize streamPosition _ _ = pos
  obtain ⟨whole, byte⟩ := pos
  dsimp only
  have key : ∀ (q : Prop) [Decidable q] (k : Job), k.claim = j.claim → ∀ (c1 : Descriptor) (n : Nat),
      State.Ports (if q then (s.replaceJob j k).notifyRegion k c1 n else s.replaceJob j k) p owed muted
        ∧ k ∈ (if q then (s.replaceJob j k).notifyRegion k c1 n else s.replaceJob j k).te.jobs := by
    intro q _ k hk c1 n
    have h1 : (s.replaceJob j k).Ports p owed muted := h.replaceJob hk
    have hk1 : k ∈ (s.replaceJob j k).te.jobs := List.mem_replace_self _ hj
    split
    · exact ⟨h1.changes (State.changes_notifyRegion _ _ _ _), by rwa [(State.changes_notifyRegion _ _ _ _).te]⟩
    · exact ⟨h1, hk1⟩
  have ite {q : Prop} [Decidable q] {u v : State} (hu : u.Ports p owed muted) (hv : v.Ports p owed muted) :
      (if q then u else v).Ports p owed muted := by
    split
    · exact hu
    · exact hv
  obtain ⟨h1, hm⟩ := key (c.moved + b.length = c.count) { j with
    moved := j.moved + b.length, current := some { c with moved := c.moved + b.length }
    kind := .delivery { d with page := d.firstPage + whole, byte := byte, whole := whole } } rfl
    { c with moved := c.moved + b.length } whole
  exact ite (h1.endJob hp hm _) (ite (h1.endJob hp hm _) (ite (h1.nextDescriptor hp hm _ _) h1))

theorem State.Ports.burstDone (hp : p ≠ .recovering) (h : s.Ports p owed muted) {j : Job} (hj : j ∈ s.te.jobs) (b : Burst)
    (ws : List Word) : (s.burstDone j b ws).Ports p owed muted := by
  unfold State.burstDone
  split
  · exact h.fetchComplete hp hj _ _
  split
  · exact h
  split
  · exact h.intakeComplete hp hj _ _ _ _
  · exact h.deliveryComplete hp hj _ _ _

end Rules

end Sys2Proof.Machine
end

-- ==== Proofs: the ports through every step ====
section
/-!
SUPPORT. Each effect of a command, each event and each access keeps the ports sound. A command whose record has been taken is owed
its reply; a recovery scan leaves an empty engine and nothing reserved.
-/

namespace Sys2Proof.Machine

open Relation (ReflTransGen)

section Rules

variable {s t : State} {p : PartState} {owed : Nat → Nat} {muted : Nat → Prop}

/-! ## Commands -/

theorem State.Ports.owed_eq (h : s.Ports p owed muted) {owed' : Nat → Nat} (e : ∀ n, owed' n = owed n) :
    s.Ports p owed' muted := by
  rwa [show owed' = owed from funext e]

/-- A record is taken: it leaves the queue, and its reply is reserved and owed (R170). -/
theorem State.Ports.taken (h : s.Ports p owed muted) {slot : Nat} (room : s.replyRoom slot = true)
    (hslot : slot < 16) : (s.taken slot).Ports p (oweTo owed slot) muted := by
  have hst (n : Nat) : (s.taken slot).station n = if n = slot then { s.station slot with
      requests := (s.station slot).requests.tail, reserved := (s.station slot).reserved + 1 } else s.station n := by
    unfold State.taken State.reserveReply
    rw [State.station_setStation]
    split
    · rw [State.station_setStation, if_pos rfl]
    · rename_i hne
      rw [State.station_setStation, if_neg hne]
  simp only [State.replyRoom, Config.replyQueue] at room
  have room := of_decide_eq_true room
  refine ⟨h.part, fun n => ?_, fun hp n hn => ?_, h.few, h.slots, h.bus⟩
  · rw [hst]
    split
    · rename_i e
      subst e
      obtain ⟨-, h2, h3, h4, h5, h6⟩ := h.stations n
      refine ⟨fun _ => ?_, ?_, h3, h4, fun r hr => h5 r (List.mem_of_mem_tail hr), fun hn => absurd hslot (not_lt.2 hn)⟩
      · dsimp only
        omega
      · dsimp only
        rw [List.length_tail]
        omega
    · exact h.stations n
  · have h1 := h.reserved hp n hn
    rw [hst]
    show _ = s.claims.count (n, false) + oweTo owed slot n
    split
    · rename_i e
      subst e
      rw [oweTo, if_pos rfl]
      dsimp only
      omega
    · rename_i e
      rw [oweTo, if_neg e, Nat.add_zero]
      exact h1

theorem State.changes_clearNoticeLost (s : State) (ns : List Nat) : s.Changes (s.clearNoticeLost ns) :=
  ReflTransGen.foldl _ (fun s n => .single (.flags n (s.station n).framing false (s.station n).work)) ns s

theorem State.changes_clearFault (s : State) : s.Changes s.clearFault :=
  .head (.inner s.bsm s.iu s.dt false s.spu.underReset s.choice) (State.notices_announceHeld _ _).changes

theorem State.changes_unbindIfRemoved (s : State) (n : Nat) (old new : Rights) : s.Changes (s.unbindIfRemoved n old new) := by
  unfold State.unbindIfRemoved
  split
  · refine ReflTransGen.foldl _ (fun s d => s.changes_setDestination d _ (fun ha => ?_)) _ _
    simp only [Destination.accepting] at ha ⊢
    cases hs : (s.destination d).state <;> simp [hs] at ha ⊢
  · exact .refl

theorem State.changes_bindDestination (s : State) (n : Nat) (d : Destination)
    (h : (s.destination n).accepting = true → d.accepting = true) : s.Changes (s.bindDestination n d) := by
  unfold State.bindDestination
  dsimp only
  split
  · exact (s.changes_setDestination n d h).trans (State.traffic_signalWork _ _).changes
  · exact s.changes_setDestination n d h

theorem State.Ports.configuring (h : s.Ports p owed muted) {n : Nat} (hn : n < 16) (rights : Rights) (start stop : Nat)
    (base mask : BitVec 16) (enables : Enables) : (s.configuring n rights start stop base mask enables).Ports p owed muted := by
  obtain ⟨h1, h2, h3, h4, h5, -⟩ := h.stations n
  have k : (s.setStation n ((s.station n).configured rights start stop base mask enables)).Ports p owed muted :=
    h.setStation ⟨h1, h2, h3, h4, h5, fun h16 => absurd hn (not_lt.2 h16)⟩ (fun _ => rfl)
  exact k.changes (State.changes_unbindIfRemoved _ _ _ _)

/-- A change outside the ports and the engine's claims. -/
theorem State.Ports.other (h : s.Ports p owed muted) (hp : t.part = s.part) (hs : ∀ n, t.station n = s.station n)
    (hj : t.te.jobs = s.te.jobs) (hr : t.te.request = s.te.request) (ht : t.te.tenure = s.te.tenure) : t.Ports p owed muted :=
  h.congr hp hs (.of_eq (congrArg (List.map Job.claim) hj)) (fun hp => by rw [hr, ht]; exact h.bus hp)

/-- What an effect leaves owed to its slot. -/
abbrev State.Ports.After (slot : Nat) (answered : Bool) (t : State) : Prop :=
  t.Ports .ready (if answered then oweTo (fun _ => 0) slot else fun _ => 0) (fun _ => False)

theorem State.changes_destOpened (s : State) (n : Nat) : s.Changes (s.destOpened n) := by
  have k : s.Changes (s.changeDest n .opened) := (s.traffic_changeDest n .opened (fun _ => rfl)).changes
  unfold State.destOpened
  dsimp only
  split
  · exact k
  · exact k.trans (State.traffic_signalWork _ _).changes

/-- Shutting a destination is not traffic: the destination no longer accepts. The ports do not see that. -/
theorem State.Ports.changeDest (h : s.Ports p owed muted) (n : Nat) (st : DestState) : (s.changeDest n st).Ports p owed muted := by
  have k : (s.setDestination n { s.destination n with state := st }).Ports p owed muted :=
    h.other rfl (fun _ => rfl) rfl rfl rfl
  unfold State.changeDest
  dsimp only
  split
  · exact k
  · exact k.changes (State.notices_send _ _ _ _).changes

theorem State.traffic_purgeEntries (s : State) (i : Nat) : s.Traffic (positions.foldl (fun s p => s.purgeEntry i p) s) :=
  ReflTransGen.foldl _ (fun s p => s.traffic_purgeEntry i p) _ s

/-- No job's reply is suppressed by a withdrawal (R141). -/
theorem State.Ports.withdrawEntry (hp : p ≠ .recovering) (h : s.Ports p owed muted) (i q : Nat) (e : Entry) :
    (s.withdrawEntry i q e).Ports p owed muted := by
  unfold State.withdrawEntry
  split
  · exact (h.changes (s.traffic_leaveQueue _ _ _).changes).changes (State.traffic_settleEntry _ _ _ _ _).changes
  · exact ((h.changes (s.traffic_leaveCheckouts e.destination i q).changes).changes
      (State.traffic_settleEntry _ i q e .withdrawn).changes).cancelJobs hp _ _
  all_goals exact h.changes (s.traffic_settleEntry _ _ _ _).changes

theorem State.Ports.purgeDocument (hp : p ≠ .recovering) (h : s.Ports p owed muted) (i : Nat) :
    (s.purgeDocument i).Ports p owed muted := by
  unfold State.purgeDocument
  exact ((h.changes (s.traffic_purgeEntries i).changes).cancelJobs hp _ _).changes (State.traffic_purgeFinish _ i).changes

theorem State.Ports.abortReception (hp : p ≠ .recovering) (h : s.Ports p owed muted) (n : Nat) (c : Context) :
    (s.abortReception n c).Ports p owed muted := by
  unfold State.abortReception
  exact ((((h.cancelJobs hp _ _).changes (State.changes_discardOpenPage _ _)).changes (State.changes_releaseReservation _ _)).changes
    (State.changes_setContext _ _ _)).changes (State.changes_freeDocument _ _)

theorem State.changes_rerouted (s : State) (i : Nat) (d : Document) (xs : List (Nat × Placement)) : s.Changes (s.rerouted i d xs) :=
  ((s.changes_setDocument i _).trans (State.Traffic.changes (ReflTransGen.foldl _ (fun s x => s.traffic_joinPlaced i x) xs _))).trans
    (State.traffic_settleIfEmpty _ i).changes

theorem State.Ports.effect {slot : Nat} (hslot : slot < 16) (h : s.Ports .ready (oweTo (fun _ => 0) slot) (fun _ => False))
    {b : Bool} (k : s.Effect slot b t) : State.Ports.After slot b t := by
  have hp : PartState.ready ≠ .recovering := by decide
  have keep {u : State} (c : s.Changes u) : State.Ports.After slot true u := h.changes c
  have rest {u : State} (h1 : u.part = s.part) (h2 : ∀ n, u.station n = s.station n) (h3 : u.te.jobs = s.te.jobs)
      (h4 : u.te.request = s.te.request) (h5 : u.te.tenure = s.te.tenure) : State.Ports.After slot true u := h.other h1 h2 h3 h4 h5
  have job {u : State} (c : s.Changes u) (kind : JobKind) (tag : Nat) (chain : Word) (few : s.jobCount slot < 4)
      (room : s.te.jobs.length < 32) : State.Ports.After slot false (u.queueJob (Job.new kind slot tag chain)) :=
    (h.changes c).queueJob hp rfl hslot id (by rwa [State.jobCount, c.te]) (by rwa [c.te])
  cases k with
  | same => exact h
  | config n rights start stop base mask enables hn _ _ _ _ => exact h.configuring hn rights start stop base mask enables
  | unused n rights start stop base mask enables hn _ _ _ _ other =>
    refine State.Ports.owed_eq ((h.configuring hn rights start stop base mask enables).stationReset hp n false) (fun m => ?_)
    by_cases e : m = n
    · subst e
      simp [oweTo, bit, other]
    · simp [e]
  | unusedOwn rights start stop base mask enables hn _ _ _ _ =>
    refine State.Ports.owed_eq ((h.configuring hn rights start stop base mask enables).stationReset hp slot false) (fun m => ?_)
    by_cases e : m = slot <;> simp [e, oweTo, bit]
  | reset n hn =>
    refine State.Ports.owed_eq (h.stationReset hp n (decide (n = slot))) (fun m => ?_)
    by_cases e : m = n
    · subst e
      by_cases e' : m = slot <;> simp [e', oweTo, bit]
    · simp [e]
  | faultCleared ns => exact keep ((s.changes_clearNoticeLost ns).trans (State.changes_clearFault _))
  | marks low release floor reserve => exact keep ((s.changes_bsm _).trans (State.changes_holdTest _))
  | adminHold v => exact keep ((s.changes_bsm _).trans (State.notices_announceHeld _ _).changes)
  | clock c hc => exact rest rfl (fun _ => rfl) rfl rfl rfl
  | opened lineId profile digits caller n i _ _ =>
    exact keep (((s.changes_setDocument _ _).trans (State.changes_setContext _ _ _)).trans (State.changes_reserveBlocks _ _))
  | sender n c c' i cs _ _ _ _ _ => exact keep ((s.changes_setDocument _ _).trans (State.changes_setContext _ _ _))
  | pageGoesOn n c tag chain _ few room => exact job (s.changes_setContext _ _) _ tag chain few room
  | pageOpens n c q tag chain _ _ _ few room =>
    exact job ((s.changes_openPageIn n c q).trans (State.changes_setContext _ _ _)) _ tag chain few room
  | pageCommitted n c p0 q v flags drops deadline _ _ _ _ _ =>
    exact keep ((s.changes_commitPage _ _ _ _).trans (State.changes_setContext _ _ _))
  | pageDiscarded n c p0 q drops deadline _ _ _ _ =>
    exact keep ((s.changes_discardPage q).trans (State.changes_setContext _ _ _))
  | ended n c i _ => exact keep (s.changes_endReception n c i)
  | aborted n c _ => exact h.abortReception hp n c
  | profile n q _ => exact rest rfl (fun _ => rfl) rfl rfl rfl
  | attributes i d _ _ _ _ _ => exact keep (s.changes_setDocument i d)
  | attributesTested i d _ _ _ _ _ => exact keep ((s.changes_setDocument i d).trans (State.traffic_releaseTest _ i).changes)
  | purged i _ =>
    exact h.purgeDocument hp i
  | retention c m _ => exact rest rfl (fun _ => rfl) rfl rfl rfl
  | route i e _ _ _ => exact rest rfl (fun _ => rfl) rfl rfl rfl
  | routeCleared i => exact rest rfl (fun _ => rfl) rfl rfl rfl
  | defaultRoute r _ => exact rest rfl (fun _ => rfl) rfl rfl rfl
  | fallback f _ _ => exact rest rfl (fun _ => rfl) rfl rfl rfl
  | destConfig n bound hold attempts checkouts label _ _ =>
    refine keep (s.changes_bindDestination n _ (fun ha => ?_))
    simp only [Destination.configured, Destination.accepting] at ha ⊢
    cases hs : (s.destination n).state <;> cases bound <;> simp [hs] at ha ⊢
  | destOpened n _ => exact keep (s.changes_destOpened n)
  | destPaused n _ => exact h.changeDest n _
  | destClosed n _ _ => exact (h.changes (s.traffic_expelQueue n 0 0 _).changes).changeDest n _
  | rerouted i w d xs _ _ => exact keep (s.changes_rerouted i d xs)
  | dropped n fuel _ => exact keep (s.traffic_dropSpent n fuel).changes
  | took n fuel u x e _ hu _ _ =>
    subst hu
    exact keep ((s.traffic_dropSpent n fuel).trans (State.traffic_takeHead _ _ _ _ _)).changes
  | fetches kind tag chain few room => exact job .refl kind tag chain few room
  | confirmed i q e _ _ => exact keep (s.traffic_confirmed i q e).changes
  | cameBack i q e reason _ _ => exact keep (s.traffic_comeBack i q e reason).changes
  | withdrawn i q e _ _ =>
    exact ((h.withdrawEntry hp i q e).changes (State.traffic_settleIfEmpty _ i).changes).changes
      (State.traffic_closeIfDrained _ e.destination).changes
  | cancelled q => exact h.cancelJobs hp q false
  | policy level mode _ => exact rest rfl (fun _ => rfl) rfl rfl rfl

theorem State.Ports.taking {slot : Nat} (h : s.Ports s.part (fun _ => 0) (fun _ => False)) (k : s.Taking slot t) :
    t.Ports t.part (fun _ => 0) (fun _ => False) := by
  rcases k with rfl | ⟨r, u, b, x, hr, he, rfl⟩
  · exact h
  · obtain ⟨hready, hhead, hroom, -⟩ := s.takeable_some hr
    rw [hready] at h
    have hslot : slot < 16 := by
      by_contra hn
      simp [((h.stations slot).slots (not_lt.1 hn)).2] at hhead
    have k := (h.taken hroom hslot).effect hslot he
    cases b with
    | true =>
      have k' := k.fill (by decide) x
      exact k'.part ▸ k'
    | false => exact k.part ▸ k

/-! ## Accesses to the port window -/

theorem Station.Accessed.reserved {st st' : Station} (h : st.Accessed st') : st'.reserved = st.reserved := by
  cases h with
  | started w _ =>
    unfold Station.startRecord
    dsimp only
    split <;> rfl
  | word w =>
    unfold Station.appendWord
    split
    · rfl
    · dsimp only
      split <;> rfl
  | read =>
    unfold Station.readReply
    split
    · rfl
    · split <;> dsimp only <;> split <;> rfl
  | status => rfl
  | acknowledged => rfl

/-- A header write leaves a tidy slot (R169 steps 1 to 5). -/
theorem Station.Tidy.startRecord {n : Nat} (hn : n < 16) {st : Station} (h : st.Tidy n) (w : Word) (room : st.requests.length < 8) :
    (st.startRecord w).Tidy n := by
  unfold Station.startRecord
  dsimp only
  split
  · rename_i hw
    refine ⟨h.replies, by simp [bit]; omega, h.latch, fun r hr => by simp at hr, fun r hr => ?_, fun h16 => absurd hn (not_lt.2 h16)⟩
    rcases List.mem_append.1 hr with hr | hr
    · exact h.records r hr
    · obtain rfl := List.mem_singleton.1 hr
      dsimp only
      split
      · rfl
      · rename_i hb
        simpa [hb, eq_comm] using hw
  · rename_i hw
    simp only [Bool.or_eq_true, decide_eq_true_eq, not_or, Header.badLength] at hw
    refine ⟨h.replies, by simp [bit]; omega, h.latch, fun r hr => ?_, h.records, fun h16 => absurd hn (not_lt.2 h16)⟩
    obtain rfl := Option.some.inj hr
    simp only [List.length_nil]
    omega

/-- A word written leaves a tidy slot: the record completed stays within its header's length (R169). -/
theorem Station.Tidy.appendWord {n : Nat} (hn : n < 16) {st : Station} (h : st.Tidy n) (w : Word) : (st.appendWord w).Tidy n := by
  unfold Station.appendWord
  split
  · exact ⟨h.replies, h.requests, h.latch, h.assembly, h.records, h.slots⟩
  · rename_i r hr
    have ha := h.assembly r hr
    have hq := h.requests
    simp only [hr, Option.isSome_some, bit, if_true] at hq
    dsimp only
    split
    · rename_i hl
      refine ⟨h.replies, by simp [bit]; omega, h.latch, fun r hr => by simp at hr, fun x hx => ?_, fun h16 => absurd hn (not_lt.2 h16)⟩
      rcases List.mem_append.1 hx with hx | hx
      · exact h.records x hx
      · obtain rfl := List.mem_singleton.1 hx
        have : ¬ r.header.badLength = true := by
          simp only [Header.badLength, Bool.or_eq_true, decide_eq_true_eq]
          omega
        rw [if_neg this]
        exact hl
    · rename_i hl
      refine ⟨h.replies, by simp [bit]; omega, h.latch, fun x hx => ?_, h.records, fun h16 => absurd hn (not_lt.2 h16)⟩
      obtain rfl := Option.some.inj hx
      simp only [List.length_append, List.length_singleton] at hl ⊢
      omega

/-- A read of REPLY leaves a tidy slot (R173). -/
theorem Station.Tidy.readReply {n : Nat} {st : Station} (h : st.Tidy n) : st.readReply.2.Tidy n := by
  have done : st.latchDone.Tidy n := by
    refine ⟨fun hn => ?_, h.requests, fun k hk => by simp [Station.latchDone] at hk, h.assembly, h.records, h.slots⟩
    have := h.replies hn
    simp only [Station.latchDone, List.length_tail]
    omega
  unfold Station.readReply
  split
  · exact h
  · rename_i r rest hr
    have latched (k : Nat) (h1 : 1 ≤ k) (hk : k ≤ r.words.length) : ({ st with latch := some k } : Station).Tidy n :=
      ⟨h.replies, h.requests, fun j hj => ⟨r, rest, hr, Option.some.inj hj ▸ ⟨h1, hk⟩⟩, h.assembly, h.records, h.slots⟩
    split
    · dsimp only
      split
      · exact done
      · rename_i hw
        exact latched 1 le_rfl (List.length_pos_iff.2 hw)
    · dsimp only
      split
      · exact done
      · exact latched _ (by omega) (by omega)

theorem Station.Accessed.tidy {n : Nat} (hn : n < 16) {st st' : Station} (h : st.Tidy n) (k : st.Accessed st') : st'.Tidy n := by
  cases k with
  | started w room => exact h.startRecord hn w room
  | word w => exact h.appendWord hn w
  | read => exact h.readReply
  | status => exact ⟨h.replies, h.requests, h.latch, h.assembly, h.records, h.slots⟩
  | acknowledged => exact ⟨h.replies, h.requests, h.latch, h.assembly, h.records, h.slots⟩

/-! ## The recovery scan -/

/-- The engine is empty and no reply is reserved: what a scan brings about by its stage 2. -/
def State.Emptied (s : State) : Prop := s.te.jobs = [] ∧ ∀ n, n < 16 → (s.station n).reserved = 0

theorem State.Change.reserved (h : s.Change t) (n : Nat) : (t.station n).reserved = (s.station n).reserved := by
  cases h with
  | notified h =>
    cases h with
    | post m _ _ =>
      unfold State.appendReply
      rw [State.station_setStation]
      split
      · rename_i e
        rw [e]
      · rfl
    | lost m =>
      unfold State.setNoticeLost
      rw [State.station_setStation]
      split
      · rename_i e
        rw [e]
      · rfl
    | fault => rfl
  | flags m _ _ _ =>
    rw [State.station_setStation]
    split
    · rename_i e
      rw [e]
    · rfl
  | destination _ _ _ => rfl
  | inner _ _ _ _ _ _ => rfl

theorem State.Changes.reserved (h : s.Changes t) (n : Nat) : (t.station n).reserved = (s.station n).reserved := by
  induction h with
  | refl => rfl
  | tail _ k ih => exact (k.reserved n).trans ih

theorem State.Emptied.changes (h : s.Emptied) (k : s.Changes t) : t.Emptied :=
  ⟨by rw [k.te, h.1], fun n hn => by rw [k.reserved, h.2 n hn]⟩

/-- A RECOVERING part with an empty engine and nothing reserved becomes READY (R196). -/
theorem State.Emptied.ready (h : s.Emptied) (k : s.Ports p owed muted) : State.Ports { s with part := .ready } .ready
    (fun _ => 0) (fun _ => False) where
  part := rfl
  stations := k.stations
  reserved _ n hn := by
    have hc : State.claims { s with part := .ready } = [] := congrArg (List.map Job.claim) h.1
    rw [hc]
    exact h.2 n hn
  few := k.few
  slots c hc := ⟨(k.slots c hc).1, False.elim⟩
  bus hp := by cases hp

theorem State.Ports.recovering (k : s.Ports p owed muted) : s.recovering.Ports .recovering (fun _ => 0) (fun _ => False) where
  part := rfl
  stations := k.stations
  reserved hp := absurd rfl hp
  few := k.few
  slots c hc := ⟨(k.slots c hc).1, False.elim⟩
  bus _ := ⟨rfl, rfl⟩

/-- Stage 1 of the scan empties every port. -/
theorem State.Ports.scanStations (h : s.Ports .recovering owed muted) :
    s.scanStations.Ports .recovering owed muted ∧ ∀ n, n < 16 → (s.scanStations.station n).reserved = 0 := by
  have fold (l : List Nat) : ∀ u : State, u.Ports .recovering owed muted →
      (l.foldl (fun s n => s.emptyPort n false) u).Ports .recovering owed muted
        ∧ ∀ n, (n ∈ l ∨ (u.station n).reserved = 0) → ((l.foldl (fun s n => s.emptyPort n false) u).station n).reserved = 0 := by
    induction l with
    | nil => exact fun u hu => ⟨hu, fun n hn => by simpa using hn⟩
    | cons a l ih =>
      intro u hu
      have ha : (u.emptyPort a false).Ports .recovering owed muted := by
        refine hu.setStation ⟨by simp [Station.emptied, bit], by simp [Station.emptied, bit], fun k hk => by simp [Station.emptied] at hk,
          fun r hr => by simp [Station.emptied] at hr, fun r hr => by simp [Station.emptied] at hr,
          fun h16 => ⟨((hu.stations a).slots h16).1, rfl⟩⟩ (fun e => absurd rfl e)
      obtain ⟨h1, h2⟩ := ih _ ha
      refine ⟨h1, fun n hn => h2 n ?_⟩
      by_cases e : n = a
      · subst e
        refine .inr ?_
        unfold State.emptyPort
        rw [State.station_setStation, if_pos rfl]
        rfl
      · rcases hn with hn | hn
        · exact .inl ((List.mem_cons.1 hn).resolve_left e)
        · refine .inr ?_
          unfold State.emptyPort
          rwa [State.station_setStation, if_neg e]
  obtain ⟨h1, h2⟩ := fold allSlots _ (h.changes (s.changes_markReset allSlots))
  have rest (u : State) : u.Changes ((allSlots.foldl State.restoreFlags (u.returnCheckouts (fun _ => true))).markReset []) :=
    ((u.traffic_returnCheckouts _).changes.trans (ReflTransGen.foldl State.restoreFlags (fun s n => s.changes_restoreFlags n) _ _)).trans
      (State.changes_markReset _ _)
  unfold State.scanStations
  refine ⟨h1.changes (rest _), fun n hn => ?_⟩
  dsimp only
  rw [(rest _).reserved]
  exact h2 n (.inl (by simpa [allSlots, Config.slots] using hn))

/-- Stage 2 of the scan empties the engine. -/
theorem State.Ports.scanEngine (h : s.Ports .recovering owed muted) : s.scanEngine.Ports .recovering owed muted where
  part := h.part
  stations := h.stations
  reserved hp := absurd rfl hp
  few := by simp [State.claims, State.scanEngine]
  slots c hc := by simp [State.claims, State.scanEngine] at hc
  bus := h.bus

theorem State.changes_scanReservation (s : State) : s.Changes s.scanReservation := s.changes_bsm _

theorem State.changes_scanStack (s : State) : s.Changes s.scanStack := s.changes_bsm _

theorem State.emptied_scanEngine (h : ∀ n, n < 16 → (s.station n).reserved = 0) : s.scanEngine.Emptied := ⟨rfl, h⟩

/-- Stages 1 and 2. -/
theorem State.Ports.scanEmptied (h : s.Ports .recovering owed muted) :
    s.scanStations.scanEngine.Ports .recovering owed muted ∧ s.scanStations.scanEngine.Emptied :=
  ⟨h.scanStations.1.scanEngine, State.emptied_scanEngine h.scanStations.2⟩

/-- Stages 3 to 6 are changes. -/
theorem State.changes_scanMiddle (s : State) : s.Changes s.scanContexts.scanStack.scanHold :=
  (s.changes_scanContexts.trans (State.changes_scanStack _)).trans (State.changes_scanHold _)

/-- Stage 7 is traffic of a READY part. -/
theorem State.traffic_scanRelease (s : State) : ({ s with part := .ready } : State).Traffic s.scanRelease :=
  (s.traffic_scanFirstPurges _).trans (State.traffic_scanFirstReleases _ _)

theorem State.Ports.scanned (h : s.Ports .recovering owed muted) :
    (s.scanStations.scanEngine.scanContexts.scanStack.scanHold.scanRelease).Ports .ready (fun _ => 0) (fun _ => False) := by
  obtain ⟨h2, e2⟩ := h.scanEmptied
  have c := State.changes_scanMiddle s.scanStations.scanEngine
  exact ((e2.changes c).ready (h2.changes c)).changes (State.traffic_scanRelease _).changes

/-- A scan that is broken off leaves ports of a RECOVERING or a READY part. -/
theorem State.Ports.scanUpTo (h : s.Ports .recovering (fun _ => 0) (fun _ => False)) (x : Config.ScanPoint) :
    ∃ p', (s.scanUpTo x).Ports p' (fun _ => 0) (fun _ => False) := by
  obtain ⟨h2, e2⟩ := h.scanEmptied
  have c := State.changes_scanMiddle s.scanStations.scanEngine
  have ready := (e2.changes c).ready (h2.changes c)
  have middle {u : State} (k : s.scanStations.scanEngine.Changes u) : ∃ p', u.Ports p' (fun _ => 0) (fun _ => False) :=
    ⟨_, h2.changes k⟩
  cases x with
  | notBegun => exact ⟨_, h⟩
  | stations => exact ⟨_, h.scanStations.1⟩
  | engine => exact middle .refl
  | contexts k => exact middle (State.changes_scanFirstContexts _ k)
  | pages => exact middle (State.changes_scanContexts _)
  | reservation => exact middle ((State.changes_scanContexts _).trans (State.changes_scanReservation _))
  | stack => exact middle ((State.changes_scanContexts _).trans (State.changes_scanStack _))
  | hold => exact middle c
  | purges k => exact ⟨_, ready.changes (State.traffic_scanFirstPurges _ k).changes⟩
  | releases k =>
    exact ⟨_, ready.changes ((State.traffic_scanFirstPurges _ _).trans (State.traffic_scanFirstReleases _ k)).changes⟩

/-! ## Every event -/

theorem State.ports_reset : State.reset.Ports .starting (fun _ => 0) (fun _ => False) := by
  have hs (n : Nat) : (State.reset.station n).replies = [] ∧ (State.reset.station n).reserved = 0 ∧ (State.reset.station n).requests = []
      ∧ (State.reset.station n).assembly = none ∧ (State.reset.station n).latch = none
      ∧ (n ≠ 0 → (State.reset.station n).rights.any = false) := by
    by_cases h : n = 0
    · subst h
      exact ⟨rfl, rfl, rfl, rfl, rfl, fun h => absurd rfl h⟩
    · rw [State.station_reset h]
      exact ⟨rfl, rfl, rfl, rfl, rfl, fun _ => rfl⟩
  refine ⟨rfl, fun n => ?_, fun _ n _ => (hs n).2.1, by simp [State.claims, State.reset, Te.powerOn],
    fun c hc => by simp [State.claims, State.reset, Te.powerOn] at hc, fun h => by cases h⟩
  obtain ⟨h1, h2, h3, h4, h5, h6⟩ := hs n
  exact ⟨by simp [h1, h2], by simp [h3, h4, bit], by simp [h5], by simp [h4], by simp [h3], fun hn => ⟨h6 (by omega), h3⟩⟩

theorem State.Ports.burst (h : s.Ports s.part (fun _ => 0) (fun _ => False)) (f : State → Job → Burst → State)
    (hf : s.part ≠ .recovering → ∀ j ∈ s.te.jobs, ∀ b, (f s j b).Ports s.part (fun _ => 0) (fun _ => False)) :
    (s.burstEnd f).Ports s.part (fun _ => 0) (fun _ => False) := by
  by_cases hp : s.part = .recovering
  · have : s.burstEnd f = s := by
      unfold State.burstEnd
      rw [(h.bus hp).2]
    rwa [this]
  · exact h.burstEnd hp f (hf hp)

/-- A slot in use is one of the 16. -/
theorem State.Ports.used (h : s.Ports p owed muted) {n : Nat} (hn : (s.rights n).any = true) : n < 16 := by
  by_contra hlt
  have := ((h.stations n).slots (not_lt.1 hlt)).1
  rw [State.rights] at hn
  simp [this] at hn

theorem State.Ports.answering (h : s.Ports p owed muted) (a : Answer) : (s.answering a).Ports p owed muted :=
  h.other rfl (fun _ => rfl) rfl rfl rfl

theorem State.Ports.event (h : s.Ports s.part (fun _ => 0) (fun _ => False)) (k : s.Event t) :
    ∃ p', t.Ports p' (fun _ => 0) (fun _ => False) := by
  cases k with
  | same => exact ⟨_, h⟩
  | poweredOn => exact ⟨_, State.ports_reset.other rfl (fun _ => rfl) rfl rfl rfl⟩
  | started _ =>
    exact ⟨.ready, rfl, State.ports_reset.stations, fun _ => State.ports_reset.reserved (by decide), State.ports_reset.few,
      State.ports_reset.slots, fun e => by cases e⟩
  | left _ => exact ⟨_, State.Ports.other h.recovering rfl (fun _ => rfl) rfl rfl rfl⟩
  | broken hp =>
    rw [hp] at h
    obtain ⟨p', k⟩ := h.scanUpTo (Config.scanReached s.choice)
    exact ⟨_, (k.changes (State.changes_choiceMade _)).recovering⟩
  | scanned hp =>
    rw [hp] at h
    exact ⟨_, h.scanned⟩
  | ticked => exact ⟨_, h.other rfl (fun _ => rfl) rfl rfl rfl⟩
  | idle n c _ _ => exact ⟨_, h.changes (s.changes_idleEnd n c)⟩
  | holdExpired i q e _ _ =>
    exact ⟨_, h.changes ((s.traffic_sendExpired i q e).trans (State.traffic_comeBack _ i q e 2)).changes⟩
  | released i => exact ⟨_, h.changes (s.traffic_releaseTest i).changes⟩
  | answered a => exact ⟨_, h.answering a⟩
  | accessed slot st a hu hst =>
    have k : (s.setStation slot st).Ports s.part (fun _ => 0) (fun _ => False) :=
      h.setStation (hst.tidy (h.used hu) (h.stations slot)) (fun _ => hst.reserved)
    exact ⟨_, k.answering a⟩
  | reset slot a hready hu =>
    rw [hready] at h
    have k := (h.stationReset (by decide) slot false).owed_eq (owed' := fun _ => 0) (fun m => by simp [bit])
    exact ⟨_, k.answering a⟩
  | granted q hq _ =>
    have hp : s.part ≠ .recovering := fun hp => by simp [(h.bus hp).1] at hq
    exact ⟨_, (h.te hp { s.te with request := none } rfl).grantBurst hp _⟩
  | completed words => exact ⟨_, h.burst _ (fun hp j hj b => h.burstDone hp hj b words)⟩
  | retried =>
    refine ⟨_, h.burst _ (fun hp j hj b => ?_)⟩
    split
    · exact h.endJob hp hj _
    · exact h
  | failed => exact ⟨_, h.burst _ (fun hp j hj b => h.endJob hp hj _)⟩

end Rules

/-- Every step keeps the ports sound. -/
theorem State.PortsSound.step {s t : State} (h : s.PortsSound) (k : step s = .next t) : t.PortsSound := by
  rw [State.portsSound_iff] at h ⊢
  rcases step_cases s k with rfl | ⟨rest, he | ⟨slot, ht⟩⟩
  · exact h
  · have h' : State.Ports { s with pending := rest } s.part (fun _ => 0) (fun _ => False) := h.other rfl (fun _ => rfl) rfl rfl rfl
    obtain ⟨p', k⟩ := h'.event he
    exact k.part ▸ k
  · have h' : State.Ports { s with pending := rest } s.part (fun _ => 0) (fun _ => False) := h.other rfl (fun _ => rfl) rfl rfl rfl
    exact h'.taking ht

end Sys2Proof.Machine
end

-- ==== Proofs: the blocks ====
section
/-!
SUPPORT. The books of the store (R1 to R4, R66): given which pages are open, which page records the documents list and what the
receptions have reserved, every block is in one place, and each operation of the block store moves blocks from one place to
another.
-/

namespace Sys2Proof.Machine

open Relation (ReflTransGen)

/-! ## The free-block stack and the chains -/

theorem Bsm.length_stack (b : Bsm) : b.stack.length = b.free := by simp [Bsm.stack, Bsm.free]

/-- A block pushed joins the stack (R2); that the stack has not all 131,072 blocks already is not needed. -/
theorem Bsm.stack_push (b : Bsm) (n : Block) : (b.push n).stack.Perm (n.val :: b.stack) := by
  unfold Bsm.push
  split
  · rename_i h
    simp only [Bool.and_eq_true, List.isEmpty_iff, decide_eq_true_eq] at h
    obtain ⟨h1, h2⟩ := h
    have hn := n.isLt
    have e : Config.blocks - n.val = Config.blocks - b.fresh + 1 := by
      simp only [Config.blocks]
      omega
    simp only [Bsm.stack, h1, List.map_nil, List.nil_append]
    rw [e, List.range'_succ, h2]
  · simp [Bsm.stack]

theorem Bsm.stack_pushAll (b : Bsm) (ns : List Block) : (b.pushAll ns).stack.Perm (ns.map Fin.val ++ b.stack) := by
  induction ns generalizing b with
  | nil => exact .refl _
  | cons n ns ih =>
    refine (ih (b.push n)).trans ?_
    refine ((b.stack_push n).append_left _).trans ?_
    exact List.perm_middle

/-- Pushing changes neither the links nor the reservations. -/
theorem Bsm.pushAll_rest (b : Bsm) (ns : List Block) : (b.pushAll ns).links = b.links ∧ (b.pushAll ns).reserved = b.reserved := by
  induction ns generalizing b with
  | nil => exact ⟨rfl, rfl⟩
  | cons n ns ih =>
    have h : (b.push n).links = b.links ∧ (b.push n).reserved = b.reserved := by
      unfold Bsm.push
      split <;> exact ⟨rfl, rfl⟩
    exact ⟨(ih _).1.trans h.1, (ih _).2.trans h.2⟩

/-- The block on top leaves the stack (R2). -/
theorem Bsm.stack_pop {b c : Bsm} {n : Block} (h : b.pop = some (n, c)) : b.stack = n.val :: c.stack ∧ c.links = b.links
    ∧ c.reserved = b.reserved := by
  unfold Bsm.pop at h
  split at h
  · rename_i m rest hm
    obtain ⟨rfl, rfl⟩ := Prod.mk.inj (Option.some.inj h)
    exact ⟨by simp [Bsm.stack, hm], rfl, rfl⟩
  · rename_i hm
    split at h
    · rename_i hlt
      obtain ⟨rfl, rfl⟩ := Prod.mk.inj (Option.some.inj h)
      refine ⟨?_, rfl, rfl⟩
      have e : Config.blocks - b.fresh = Config.blocks - (b.fresh + 1) + 1 := by
        simp only [Config.blocks]
        omega
      simp only [Bsm.stack, hm, List.map_nil, List.nil_append]
      rw [e, List.range'_succ]
    · cases h

/-- A chain is read off the links of its own blocks. -/
theorem Bsm.chain_congr {b c : Bsm} (f : Option Block) (k : Nat) (h : ∀ n ∈ b.chain f k, c.link n = b.link n) :
    c.chain f k = b.chain f k := by
  induction k generalizing f with
  | zero => cases f <;> rfl
  | succ k ih =>
    cases f with
    | none => rfl
    | some n =>
      simp only [Bsm.chain, List.mem_cons] at h ⊢
      rw [h n (.inl rfl), ih _ (fun m hm => h m (.inr hm))]

theorem Bsm.chain_links {b c : Bsm} (h : c.links = b.links) (f : Option Block) (k : Nat) : c.chain f k = b.chain f k :=
  Bsm.chain_congr f k (fun n _ => by simp only [Bsm.link, h])

/-- A list is the chain from its own head where each block links to the next. -/
theorem Bsm.chain_eq_self (b : Bsm) (l : List Block) :
    b.chain l.head? l.length = l ↔ l.IsChain (fun m n => b.link m = some n) := by
  induction l with
  | nil => simp [Bsm.chain]
  | cons m l ih =>
    cases l with
    | nil => simp [Bsm.chain]
    | cons n l =>
      rw [List.isChain_cons_cons, ← ih]
      constructor
      · intro h
        have h : b.chain (b.link m) (l.length + 1) = n :: l := by simpa [Bsm.chain] using h
        have hl : b.link m = some n := by
          cases hm : b.link m with
          | none => simp [hm, Bsm.chain] at h
          | some x =>
            rw [hm] at h
            simp only [Bsm.chain, List.cons.injEq] at h
            rw [h.1]
        exact ⟨hl, by rwa [hl] at h⟩
      · rintro ⟨hl, h⟩
        simp only [List.head?_cons, List.length_cons, Bsm.chain, List.cons.injEq, true_and, hl] at h ⊢
        exact h

theorem Bsm.link_setLink (b : Bsm) (n m : Block) (x : Option Block) : (b.setLink n x).link m = if m = n then x else b.link m := by
  unfold Bsm.setLink Bsm.link
  rw [Table.read_write]
  simp only [Fin.ext_iff]

/-- A block is linked behind the last of a chain (R3). -/
theorem Bsm.chain_append {b c : Bsm} {l : List Block} {n : Block} (h : b.chain l.head? l.length = l) (hl : l.Nodup) (hn : n ∉ l)
    (hc : ∀ m ∈ l, c.link m = if l.getLast? = some m then some n else b.link m) :
    c.chain (l ++ [n]).head? (l ++ [n]).length = l ++ [n] := by
  rw [Bsm.chain_eq_self] at h ⊢
  refine List.isChain_append.2 ⟨?_, .singleton n, fun x hx y hy => ?_⟩
  · rcases List.eq_nil_or_concat l with rfl | ⟨l, a, rfl⟩
    · exact .nil
    rw [List.concat_eq_append] at h hc hl ⊢
    rw [List.isChain_append] at h ⊢
    obtain ⟨h1, h2, h3⟩ := h
    have ha : a ∉ l := fun h => (List.nodup_append.1 hl).2.2 a h a (by simp) rfl
    have key : ∀ m ∈ l, c.link m = b.link m := fun m hm => by
      have hne : a ≠ m := fun e => ha (e ▸ hm)
      rw [hc m (by simp [hm])]
      simp [hne]
    refine ⟨?_, .singleton a, fun x hx y hy => ?_⟩
    · have : ∀ (l : List Block), (∀ m ∈ l, c.link m = b.link m) → l.IsChain (fun m n => b.link m = some n) →
          l.IsChain (fun m n => c.link m = some n) := by
        intro l hk hch
        induction hch with
        | nil => exact .nil
        | singleton a => exact .singleton a
        | cons_cons hr _ ih =>
          exact .cons_cons ((hk _ List.mem_cons_self).trans hr) (ih (fun m hm => hk m (List.mem_cons_of_mem _ hm)))
      exact this l key h1
    · rw [key x (List.mem_of_getLast? hx)]
      exact h3 x hx y hy
  · rw [hc x (List.mem_of_getLast? hx)]
    obtain rfl : n = y := by simpa using hy
    rw [Option.mem_def] at hx
    simp [hx]

/-! ## The books -/

/-- The places of the blocks, the open pages being `ps` and the page records listed by documents `qs` (R1). -/
def State.placesOf (s : State) (ps : List OpenPage) (qs : List Nat) : List Nat :=
  s.bsm.stack ++ (ps.flatMap (fun p => p.blocks) ++ qs.flatMap s.pageChain).map Fin.val

/-- The books of the store hold, with the open pages `ps`, the page records `qs` listed by documents, and `k` blocks reserved by
the receptions. -/
structure State.Ledger (s : State) (ps : List OpenPage) (qs : List Nat) (k : Nat) : Prop where
  pages : (ps.map (fun p => p.record) ++ qs).Nodup
  used : ∀ q ∈ ps.map (fun p => p.record) ++ qs, s.page q ≠ none
  chains : ∀ p ∈ ps, s.bsm.chain p.blocks.head? p.blocks.length = p.blocks
  once : (s.placesOf ps qs).Nodup
  all : s.part ≠ .recovering → (s.placesOf ps qs).Perm (List.range 131072)
  reserved : s.part ≠ .recovering → s.bsm.reserved = k ∧ s.bsm.reserved ≤ s.bsm.free

section Rules

variable {s t : State} {p : OpenPage} {ps : List OpenPage} {qs : List Nat} {k : Nat}

/-- The order of the holders does not matter. -/
theorem State.Ledger.perm (h : s.Ledger ps qs k) {ps' : List OpenPage} {qs' : List Nat} (hp : ps'.Perm ps) (hq : qs'.Perm qs) :
    s.Ledger ps' qs' k := by
  have hr : (ps'.map (fun p => p.record) ++ qs').Perm (ps.map (fun p => p.record) ++ qs) := (hp.map _).append hq
  have hb : (s.placesOf ps' qs').Perm (s.placesOf ps qs) :=
    (((hp.flatMap_right _).append (hq.flatMap_right _)).map _).append_left _
  exact ⟨hr.nodup_iff.2 h.pages, fun q hm => h.used q (hr.mem_iff.1 hm), fun p hm => h.chains p (hp.mem_iff.1 hm),
    hb.nodup_iff.2 h.once, fun hn => hb.trans (h.all hn), h.reserved⟩

/-- The books are of the part state, the stack, the links, the page records, and of the reservations. -/
theorem State.Ledger.withReserved (h : s.Ledger ps qs k) (part : t.part = s.part) (stack : t.bsm.stack = s.bsm.stack)
    (links : t.bsm.links = s.bsm.links) (pages : ∀ q ∈ ps.map (fun p => p.record) ++ qs, t.page q = s.page q) {k' : Nat}
    (reserved : t.part ≠ .recovering → t.bsm.reserved = k' ∧ t.bsm.reserved ≤ t.bsm.free) : t.Ledger ps qs k' := by
  have hchain : qs.flatMap t.pageChain = qs.flatMap s.pageChain := by
    refine List.flatMap_congr (fun q hq => ?_)
    simp only [State.pageChain, pages q (List.mem_append_right _ hq)]
    cases s.page q with
    | none => rfl
    | some r => exact Bsm.chain_links links _ _
  have hplaces : t.placesOf ps qs = s.placesOf ps qs := by simp only [State.placesOf, stack, hchain]
  refine ⟨h.pages, fun q hq => by rw [pages q hq]; exact h.used q hq, fun p hp => ?_, by rw [hplaces]; exact h.once,
    fun hn => by rw [hplaces]; exact h.all (part ▸ hn), reserved⟩
  rw [Bsm.chain_links links]
  exact h.chains p hp

theorem State.Ledger.congr (h : s.Ledger ps qs k) (part : t.part = s.part) (stack : t.bsm.stack = s.bsm.stack)
    (links : t.bsm.links = s.bsm.links) (reserved : t.bsm.reserved = s.bsm.reserved) (pages : t.dt.pages = s.dt.pages) :
    t.Ledger ps qs k := by
  refine h.withReserved part stack links (fun q _ => by simp only [State.page, pages]) (fun hn => ?_)
  have := h.reserved (part ▸ hn)
  rw [← Bsm.length_stack] at this ⊢
  rwa [reserved, stack]

theorem State.Ledger.notices (h : s.Ledger ps qs k) (e : s.Notices t) : t.Ledger ps qs k := by
  rw [e.rest]
  exact h.congr rfl rfl rfl rfl rfl

/-- The intake hold test changes a cause and sends notices. -/
theorem State.Ledger.holdTest (h : s.Ledger ps qs k) : s.holdTest.Ledger ps qs k := by
  obtain ⟨b, hb⟩ := s.holdTest_notices
  have h1 : State.Ledger { s with bsm := { s.bsm with storeHold := b } } ps qs k := h.congr rfl rfl rfl rfl rfl
  exact h1.notices hb

/-! ## Reservations -/

theorem State.Ledger.setReserved (h : s.Ledger ps qs k) {k' v : Nat} (hv : s.part ≠ .recovering → v = k' ∧ v ≤ s.bsm.free) :
    State.Ledger { s with bsm := { s.bsm with reserved := v } } ps qs k' :=
  h.withReserved (t := { s with bsm := { s.bsm with reserved := v } }) rfl rfl rfl (fun _ _ => rfl) hv

theorem State.Ledger.reserveBlocks (h : s.Ledger ps qs k) {g : Nat} (hg : g ≤ s.bsm.available) :
    (s.reserveBlocks g).Ledger ps qs (g + k) := by
  refine State.Ledger.holdTest (h.setReserved (fun hn => ?_))
  obtain ⟨h1, h2⟩ := h.reserved hn
  simp only [Bsm.available] at hg
  omega

theorem State.Ledger.releaseReservation {r : Nat} (h : s.Ledger ps qs (r + k)) : (s.releaseReservation r).Ledger ps qs k := by
  refine State.Ledger.holdTest (h.setReserved (fun hn => ?_))
  obtain ⟨h1, h2⟩ := h.reserved hn
  omega

/-! ## Page records and blocks that return -/

theorem State.page_freePages (s : State) (rs : List Nat) (q : Nat) : (s.freePages rs).page q = if q ∈ rs then none else s.page q := by
  unfold State.freePages
  induction rs generalizing s with
  | nil => rfl
  | cons r rs ih =>
    rw [List.foldl_cons, ih, State.page_setPage]
    by_cases h1 : q ∈ rs
    · simp [h1]
    · simp [h1]

theorem State.freePages_rest (s : State) (rs : List Nat) : (s.freePages rs).part = s.part ∧ (s.freePages rs).bsm = s.bsm
    ∧ (s.freePages rs).iu = s.iu ∧ (s.freePages rs).dt.documents = s.dt.documents := by
  unfold State.freePages
  induction rs generalizing s with
  | nil => exact ⟨rfl, rfl, rfl, rfl⟩
  | cons r rs ih => exact ih (s.setPage r none)

/-- Page records with their blocks `bs` leave their holders: the blocks go to the stack and the records to the pool (R10, R35,
R74). -/
theorem State.Ledger.return {ps₀ ps₁ : List OpenPage} {qs₀ qs₁ : List Nat} {bs : List Block} {rs : List Nat}
    (h : s.Ledger (ps₀ ++ ps₁) (qs₀ ++ qs₁) k) (hb : bs = ps₀.flatMap (fun p => p.blocks) ++ qs₀.flatMap s.pageChain)
    (hr : rs = ps₀.map (fun p => p.record) ++ qs₀) (part : t.part = s.part)
    (stack : t.bsm.stack.Perm (bs.map Fin.val ++ s.bsm.stack)) (links : t.bsm.links = s.bsm.links)
    (reserved : t.bsm.reserved = s.bsm.reserved) (page : ∀ q, t.page q = if q ∈ rs then none else s.page q) :
    t.Ledger ps₁ qs₁ k := by
  have hrec : ((ps₀ ++ ps₁).map (fun p => p.record) ++ (qs₀ ++ qs₁)).Perm (rs ++ (ps₁.map (fun p => p.record) ++ qs₁)) := by
    rw [hr, List.map_append, List.perm_iff_count]
    intro a
    simp only [List.count_append]
    omega
  have hnodup := hrec.nodup_iff.1 h.pages
  have hkeep : ∀ q ∈ ps₁.map (fun p => p.record) ++ qs₁, t.page q = s.page q := fun q hq => by
    rw [page, if_neg (fun hm => (List.nodup_append.1 hnodup).2.2 q hm q hq rfl)]
  have hchain : qs₁.flatMap t.pageChain = qs₁.flatMap s.pageChain := by
    refine List.flatMap_congr (fun q hq => ?_)
    simp only [State.pageChain, hkeep q (List.mem_append_right _ hq)]
    cases s.page q with
    | none => rfl
    | some r => exact Bsm.chain_links links _ _
  have hplaces : (t.placesOf ps₁ qs₁).Perm (s.placesOf (ps₀ ++ ps₁) (qs₀ ++ qs₁)) := by
    simp only [State.placesOf, hchain]
    refine (stack.append_right _).trans ?_
    rw [hb, List.perm_iff_count]
    intro a
    simp only [List.flatMap_append, List.map_append, List.count_append]
    omega
  refine ⟨(List.nodup_append.1 hnodup).2.1, fun q hq => ?_, fun p hp => ?_, hplaces.nodup_iff.2 h.once,
    fun hn => hplaces.trans (h.all (part ▸ hn)), fun hn => ?_⟩
  · rw [hkeep q hq]
    exact h.used q (hrec.mem_iff.2 (List.mem_append_right _ hq))
  · rw [Bsm.chain_links links]
    exact h.chains p (List.mem_append_right _ hp)
  · have := h.reserved (part ▸ hn)
    have hl := stack.length_eq
    rw [List.length_append, Bsm.length_stack, Bsm.length_stack] at hl
    rw [reserved]
    omega

/-- What releasing blocks leaves: the blocks on the stack, one cause of the hold and notices. -/
theorem State.releaseBlocks_rest (s : State) (bs : List Block) : (s.releaseBlocks bs).part = s.part
    ∧ (s.releaseBlocks bs).bsm.stack = (s.bsm.pushAll bs).stack ∧ (s.releaseBlocks bs).bsm.links = s.bsm.links
    ∧ (s.releaseBlocks bs).bsm.reserved = s.bsm.reserved ∧ (s.releaseBlocks bs).iu = s.iu ∧ (s.releaseBlocks bs).dt = s.dt := by
  obtain ⟨b, h⟩ := ({ s with bsm := s.bsm.pushAll bs } : State).holdTest_notices
  unfold State.releaseBlocks
  rw [h.rest]
  exact ⟨rfl, rfl, (s.bsm.pushAll_rest bs).1, (s.bsm.pushAll_rest bs).2, rfl, rfl⟩

theorem State.Ledger.discardPage (h : s.Ledger (p :: ps) qs k) : (s.discardPage p).Ledger ps qs k := by
  obtain ⟨h1, h2, h3, h4, -, h6⟩ := s.releaseBlocks_rest p.blocks
  unfold State.discardPage
  refine State.Ledger.return (ps₀ := [p]) (qs₀ := []) h rfl rfl h1 ?_ h3 h4 (fun q => ?_)
  · show (s.releaseBlocks p.blocks).bsm.stack.Perm _
    rw [h2]
    simpa using s.bsm.stack_pushAll p.blocks
  · rw [State.page_setPage]
    simp [State.page, h6]

/-- The open page of a reception is discarded, where there is one. -/
theorem State.Ledger.discardOpenPage {c : Context} (h : s.Ledger (c.openPage.toList ++ ps) qs k) :
    (s.discardOpenPage c).Ledger ps qs k := by
  unfold State.discardOpenPage
  cases hc : c.openPage with
  | none => simpa [hc] using h
  | some p =>
    rw [hc] at h
    exact h.discardPage

/-- The blocks and the page records of a document that goes return (R74). -/
theorem State.Ledger.freePages {d : Document} (h : s.Ledger ps (d.pages ++ qs) k) :
    ((s.releaseBlocks (s.documentBlocks d)).freePages d.pages).Ledger ps qs k := by
  obtain ⟨h1, h2, h3, h4, -, h6⟩ := s.releaseBlocks_rest (s.documentBlocks d)
  obtain ⟨f1, f2, -, -⟩ := State.freePages_rest (s.releaseBlocks (s.documentBlocks d)) d.pages
  refine State.Ledger.return (ps₀ := []) (qs₀ := d.pages) (rs := d.pages) (bs := s.documentBlocks d) h (by simp [State.documentBlocks])
    (by simp) (f1.trans h1) ?_ (by rw [f2]; exact h3) (by rw [f2]; exact h4) (fun q => ?_)
  · rw [f2, h2]
    exact s.bsm.stack_pushAll _
  · rw [State.page_freePages]
    simp [State.page, h6]

/-- A page record returns and its blocks are left unlisted, while the part is RECOVERING (R45). -/
theorem State.Ledger.abandonPage (hp : s.part = .recovering) (h : s.Ledger (p :: ps) qs k) {k' : Nat} :
    (s.setPage p.record none).Ledger ps qs k' := by
  have hkeep : ∀ q ∈ ps.map (fun p => p.record) ++ qs, (s.setPage p.record none).page q = s.page q := fun q hq => by
    rw [State.page_setPage, if_neg]
    rintro rfl
    exact (List.nodup_cons.1 h.pages).1 hq
  have hchain : qs.flatMap (s.setPage p.record none).pageChain = qs.flatMap s.pageChain :=
    List.flatMap_congr (fun q hq => by simp only [State.pageChain, hkeep q (List.mem_append_right _ hq)]; rfl)
  refine ⟨(List.nodup_cons.1 h.pages).2, fun q hq => ?_, fun p' hp' => h.chains p' (List.mem_cons_of_mem _ hp'), ?_,
    fun hn => absurd hp hn, fun hn => absurd hp hn⟩
  · rw [hkeep q hq]
    exact h.used q (List.mem_cons_of_mem _ hq)
  · refine List.Nodup.sublist ?_ h.once
    simp only [State.placesOf, hchain, List.flatMap_cons]
    refine List.Sublist.append_left (List.Sublist.map _ (List.Sublist.append_right ?_ _)) _
    exact List.sublist_append_right _ _

/-! ## Pages that open, and pages committed -/

theorem State.Ledger.openPage (h : s.Ledger ps qs k) {r : Nat} (hr : s.page r = none) :
    (s.setPage r (some PageRecord.opened)).Ledger (OpenPage.fresh r :: ps) qs k := by
  have hnew : r ∉ ps.map (fun p => p.record) ++ qs := fun hm => h.used r hm hr
  have hkeep : ∀ q, q ≠ r → (s.setPage r (some PageRecord.opened)).page q = s.page q := fun q hq => by
    rw [State.page_setPage, if_neg hq]
  have hchain : qs.flatMap (s.setPage r (some PageRecord.opened)).pageChain = qs.flatMap s.pageChain :=
    List.flatMap_congr (fun q hq => by
      have hne : q ≠ r := fun e => hnew (e ▸ List.mem_append_right _ hq)
      simp only [State.pageChain, hkeep q hne]
      rfl)
  have hplaces : (s.setPage r (some PageRecord.opened)).placesOf (OpenPage.fresh r :: ps) qs = s.placesOf ps qs := by
    simp only [State.placesOf, hchain]
    rfl
  refine ⟨List.nodup_cons.2 ⟨hnew, h.pages⟩, fun q hq => ?_, fun p hp => ?_, by rw [hplaces]; exact h.once,
    fun hn => by rw [hplaces]; exact h.all hn, h.reserved⟩
  · by_cases e : q = r
    · rw [e, State.page_setPage_same]
      simp
    · rw [hkeep q e]
      exact h.used q ((List.mem_cons.1 hq).resolve_left e)
  · rcases List.mem_cons.1 hp with rfl | hp
    · rfl
    · exact h.chains p hp

/-- An open page changes, and neither its record nor its blocks. -/
theorem State.Ledger.samePage {p' : OpenPage} (h : s.Ledger (p :: ps) qs k) (hr : p'.record = p.record) (hb : p'.blocks = p.blocks) :
    s.Ledger (p' :: ps) qs k := by
  have hplaces : s.placesOf (p' :: ps) qs = s.placesOf (p :: ps) qs := by simp only [State.placesOf, List.flatMap_cons, hb]
  refine ⟨by simpa [hr] using h.pages, fun q hq => h.used q (by simpa [hr] using hq), fun x hx => ?_, by rw [hplaces]; exact h.once,
    fun hn => by rw [hplaces]; exact h.all hn, h.reserved⟩
  rcases List.mem_cons.1 hx with rfl | hx
  · rw [hb]
    exact h.chains p List.mem_cons_self
  · exact h.chains x (List.mem_cons_of_mem _ hx)

/-- An open page is committed: its record is listed by its document, and its blocks are the chain of the record (R58). -/
theorem State.Ledger.commit (h : s.Ledger (p :: ps) qs k) (number : Nat) (v : Verdict) (flags : PageFlags) :
    (s.setPage p.record (some (p.commitRecord number v flags))).Ledger ps (p.record :: qs) k := by
  have hrec : (ps.map (fun p => p.record) ++ p.record :: qs).Perm ((p :: ps).map (fun p => p.record) ++ qs) := List.perm_middle
  have hnew := (List.nodup_cons.1 h.pages).1
  have hkeep : ∀ q, q ≠ p.record → (s.setPage p.record (some (p.commitRecord number v flags))).page q = s.page q := fun q hq => by
    rw [State.page_setPage, if_neg hq]
  have hown : (s.setPage p.record (some (p.commitRecord number v flags))).pageChain p.record = p.blocks := by
    simp only [State.pageChain, State.page_setPage_same]
    exact h.chains p List.mem_cons_self
  have hchain : qs.flatMap (s.setPage p.record (some (p.commitRecord number v flags))).pageChain = qs.flatMap s.pageChain :=
    List.flatMap_congr (fun q hq => by
      have hne : q ≠ p.record := by
        rintro rfl
        exact hnew (List.mem_append_right _ hq)
      simp only [State.pageChain, hkeep q hne]
      rfl)
  have hplaces : ((s.setPage p.record (some (p.commitRecord number v flags))).placesOf ps (p.record :: qs)).Perm
      (s.placesOf (p :: ps) qs) := by
    simp only [State.placesOf, List.flatMap_cons, hown, hchain]
    refine List.Perm.append_left _ (List.Perm.map _ ?_)
    rw [List.perm_iff_count]
    intro a
    simp only [List.count_append]
    omega
  refine ⟨hrec.nodup_iff.2 h.pages, fun q hq => ?_, fun x hx => h.chains x (List.mem_cons_of_mem _ hx),
    hplaces.nodup_iff.2 h.once, fun hn => hplaces.trans (h.all hn), h.reserved⟩
  by_cases e : q = p.record
  · rw [e, State.page_setPage_same]
    simp
  · rw [hkeep q e]
    exact h.used q (hrec.mem_iff.1 hq)

/-! ## Blocks taken -/

/-- What `Bsm.allocate` gives: the block on top, linked behind the page's last block, from the reservation or from the pool (R3,
R7). -/
theorem Bsm.allocate_some {b c : Bsm} {n : Block} {r r' : Nat} {last : Option Block} (h : b.allocate r last = some (n, r', c)) :
    b.stack = n.val :: c.stack ∧ c.reserved + r = b.reserved - (r - r') + r ∧ r' ≤ r ∧ r ≤ r' + 1
      ∧ (r' = r → b.reserved < b.free)
      ∧ ∀ m, c.link m = if last = some m then some n else if m = n then none else b.link m := by
  unfold Bsm.allocate at h
  split at h
  swap
  · cases h
  rename_i hcond
  split at h
  · cases h
  rename_i a b' hpop
  obtain ⟨h1, h2, h3⟩ := Bsm.stack_pop hpop
  have hlink (x : Bsm) (hx : x = last.elim (b'.setLink a none) (fun m => (b'.setLink a none).setLink m (some a))) :
      x.stack = b'.stack ∧ x.reserved = b'.reserved
        ∧ ∀ m, x.link m = if last = some m then some a else if m = a then none else b.link m := by
    have hb (m : Block) : b'.link m = b.link m := by simp only [Bsm.link, h2]
    subst hx
    cases last with
    | none =>
      refine ⟨rfl, rfl, fun m => ?_⟩
      rw [Option.elim_none, Bsm.link_setLink, hb]
      simp
    | some l =>
      refine ⟨rfl, rfl, fun m => ?_⟩
      rw [Option.elim_some, Bsm.link_setLink, Bsm.link_setLink, hb]
      simp [eq_comm]
  obtain ⟨g1, g2, g3⟩ := hlink _ rfl
  dsimp only at h
  split at h
  · rename_i hr
    simp only [Option.some.injEq, Prod.mk.injEq] at h
    obtain ⟨rfl, rfl, rfl⟩ := h
    refine ⟨by rw [h1]; exact congrArg _ g1.symm, ?_, by omega, by omega, fun e => by omega, g3⟩
    dsimp only
    rw [g2, h3]
    omega
  · rename_i hr
    simp only [Option.some.injEq, Prod.mk.injEq] at h
    obtain ⟨rfl, rfl, rfl⟩ := h
    refine ⟨by rw [h1, g1], by rw [g2, h3]; omega, le_rfl, by omega, fun _ => ?_, g3⟩
    have : b.floor < b.available := hcond.resolve_left hr
    simp only [Bsm.available] at this
    omega

/-- A block is allocated to an open page (R7): it leaves the stack and is linked behind the page's last. -/
theorem State.Ledger.allocate {r r' : Nat} (h : s.Ledger (p :: ps) qs (r + k)) {n : Block} {c : Bsm}
    (ha : s.bsm.allocate r p.blocks.getLast? = some (n, r', c)) {p' : OpenPage} (hr : p'.record = p.record)
    (hb : p'.blocks = p.blocks ++ [n]) : State.Ledger { s with bsm := c } (p' :: ps) qs (r' + k) := by
  obtain ⟨hstack, hres, hle, hge, hpool, hlink⟩ := Bsm.allocate_some ha
  have honce := h.once
  simp only [State.placesOf, hstack, List.flatMap_cons, List.map_append, List.cons_append] at honce
  obtain ⟨hfresh, -⟩ := List.nodup_cons.1 honce
  simp only [List.mem_append, not_or] at hfresh
  obtain ⟨-, ⟨hfp, hfps⟩, hfqs⟩ := hfresh
  have notin {l : List Block} (hl : n.val ∉ l.map Fin.val) : n ∉ l := fun hm => hl (List.mem_map_of_mem hm)
  have hpp : (p.blocks.map Fin.val).Nodup ∧ ∀ x ∈ p.blocks, (∀ q ∈ ps, x ∉ q.blocks) ∧ ∀ q ∈ qs, x ∉ s.pageChain q := by
    have h1 := (List.nodup_append.1 (List.nodup_cons.1 honce).2).2.1
    have h2 : ((p.blocks.map Fin.val) ++ ((ps.flatMap (fun p => p.blocks)).map Fin.val ++ (qs.flatMap s.pageChain).map Fin.val)).Nodup := by
      rwa [List.append_assoc] at h1
    obtain ⟨h3, -, h4⟩ := List.nodup_append.1 h2
    refine ⟨h3, fun x hx => ⟨fun q hq hm => ?_, fun q hq hm => ?_⟩⟩
    · exact h4 _ (List.mem_map_of_mem hx) _
        (List.mem_append_left _ (List.mem_map_of_mem (List.mem_flatMap.2 ⟨q, hq, hm⟩))) rfl
    · exact h4 _ (List.mem_map_of_mem hx) _
        (List.mem_append_right _ (List.mem_map_of_mem (List.mem_flatMap.2 ⟨q, hq, hm⟩))) rfl
  have hnp := notin hfp
  -- blocks of others keep their links
  have hother : ∀ m, m ∉ p.blocks → m ≠ n → c.link m = s.bsm.link m := fun m hm hne => by
    rw [hlink, if_neg (fun e => hm (List.mem_of_getLast? e)), if_neg hne]
  have hchain : qs.flatMap (State.pageChain { s with bsm := c }) = qs.flatMap s.pageChain := by
    refine List.flatMap_congr (fun q hq => ?_)
    have hq' : ∀ m ∈ s.pageChain q, c.link m = s.bsm.link m := fun m hm => by
      refine hother m (fun hp => (hpp.2 m hp).2 q hq hm) (fun e => ?_)
      exact notin hfqs (List.mem_flatMap.2 ⟨q, hq, e ▸ hm⟩)
    have hpage : State.page { s with bsm := c } q = s.page q := rfl
    simp only [State.pageChain] at hq' ⊢
    rw [hpage]
    cases hs : s.page q with
    | none => rfl
    | some rec =>
      rw [hs] at hq'
      exact Bsm.chain_congr _ _ hq'
  have hplaces : (State.placesOf { s with bsm := c } (p' :: ps) qs).Perm (s.placesOf (p :: ps) qs) := by
    simp only [State.placesOf, hchain, hstack, List.flatMap_cons, hb, List.map_append, List.map_cons, List.map_nil]
    rw [List.perm_iff_count]
    intro a
    simp only [List.count_append, List.count_cons, List.count_nil]
    omega
  refine ⟨by simpa [hr] using h.pages, fun q hq => h.used q (by simpa [hr] using hq), fun x hx => ?_,
    hplaces.nodup_iff.2 h.once, fun hn => hplaces.trans (h.all hn), fun hn => ?_⟩
  · rcases List.mem_cons.1 hx with rfl | hx
    · rw [hb]
      refine Bsm.chain_append (h.chains p List.mem_cons_self) (List.Nodup.of_map _ hpp.1) hnp (fun m hm => ?_)
      have hne : m ≠ n := by
        rintro rfl
        exact hnp hm
      rw [hlink, if_neg hne]
    · have hk := h.chains x (List.mem_cons_of_mem _ hx)
      have : c.chain x.blocks.head? x.blocks.length = s.bsm.chain x.blocks.head? x.blocks.length := by
        refine Bsm.chain_congr _ _ (fun m hm => ?_)
        rw [hk] at hm
        refine hother m (fun hp => (hpp.2 m hp).1 x hx hm) (fun e => ?_)
        exact notin hfps (List.mem_flatMap.2 ⟨x, hx, e ▸ hm⟩)
      exact this.trans hk
  · obtain ⟨h1, h2⟩ := h.reserved hn
    have hl := congrArg List.length hstack
    rw [List.length_cons, Bsm.length_stack, Bsm.length_stack] at hl
    show c.reserved = r' + k ∧ c.reserved ≤ c.free
    rcases Nat.lt_or_ge r' r with hlt | hge'
    · omega
    · have := hpool (by omega)
      omega

/-- Bytes written to the store leave the books alone. -/
theorem Bsm.writeChain_rest (chain : List Block) (b : Bsm) (off : Nat) (vs : List Byte) :
    (Bsm.writeChain chain b off vs).stack = b.stack ∧ (Bsm.writeChain chain b off vs).links = b.links
      ∧ (Bsm.writeChain chain b off vs).reserved = b.reserved := by
  induction vs generalizing b off with
  | nil => exact ⟨rfl, rfl, rfl⟩
  | cons v vs ih =>
    have h := ih ((chainAddress chain off).elim b (fun a => b.writeByte a v)) (off + 1)
    have h1 : ((chainAddress chain off).elim b (fun a => b.writeByte a v)).stack = b.stack
        ∧ ((chainAddress chain off).elim b (fun a => b.writeByte a v)).links = b.links
        ∧ ((chainAddress chain off).elim b (fun a => b.writeByte a v)).reserved = b.reserved := by
      cases chainAddress chain off <;> exact ⟨rfl, rfl, rfl⟩
    exact ⟨h.1.trans h1.1, h.2.1.trans h1.2.1, h.2.2.trans h1.2.2⟩

theorem State.Ledger.writeChain (h : s.Ledger ps qs k) (chain : List Block) (off : Nat) (vs : List Byte) :
    State.Ledger { s with bsm := Bsm.writeChain chain s.bsm off vs } ps qs k := by
  obtain ⟨h1, h2, h3⟩ := Bsm.writeChain_rest chain s.bsm off vs
  exact h.congr rfl h1 h2 h3 rfl

end Rules

end Sys2Proof.Machine
end

-- ==== Proofs: the holders of blocks ====
section
/-!
SUPPORT. The store of a state is sound where the books of the block store hold with the pages its contexts have open, the page
records its documents list and the reservations its contexts have. A change of one context and one document is a change of what
these two hold, the rest being as it was.
-/

namespace Sys2Proof.Machine

open Relation (ReflTransGen)

/-- The open page of a context, where it is in use and has one. -/
def openPageOf (x : Option Context) : List OpenPage := (x.bind (fun c => c.openPage)).toList

/-- The reservation of a context. -/
def reservationOf (x : Option Context) : Nat := x.elim 0 (fun c => c.reservation)

/-- The store is sound, and the tables of its holders are canonical. -/
structure State.Stored (s : State) : Prop where
  contexts : s.iu.contexts.WF none
  documents : s.dt.documents.WF Document.free
  numbers : ∀ n, s.context n ≠ none → n < 64
  between : ∀ n c, s.context n = some c → c.state = .betweenPages → c.openPage = none
  free : ∀ i, (s.document i).state = .free → (s.document i).pages = []
  books : s.Ledger s.openPages s.pagesOfDocuments s.reservations

theorem State.stored_iff {s : State} (h : s.Canonical) : s.StoreSound ↔ s.Stored := by
  obtain ⟨-, -, -, hc, hd, -⟩ := h
  have numbers : (∀ c ∈ s.iu.contexts.cells, c.1 < 64) ↔ ∀ n, s.context n ≠ none → n < 64 := by
    refine ⟨fun h n hn => ?_, fun h c hm => ?_⟩
    · exact h _ (hc.mem_iff.2 ⟨rfl, hn⟩)
    · obtain ⟨e, hne⟩ := hc.mem_iff.1 hm
      exact h c.1 (by rw [State.context, e]; exact hne)
  constructor
  · rintro ⟨h1, h2, h3, h4, h5, h6, h7, h8, h9⟩
    exact ⟨hc, hd, numbers.1 h1, h2, h3, h4, h5, h6, h7, h8, h9⟩
  · rintro ⟨-, -, h1, h2, h3, h4, h5, h6, h7, h8, h9⟩
    exact ⟨numbers.2 h1, h2, h3, h4, h5, h6, h7, h8, h9⟩

theorem State.openPages_eq (s : State) : s.openPages = s.iu.contexts.cells.flatMap (fun c => openPageOf c.2) :=
  List.filterMap_eq_flatMap_toList _ _

/-- Beside context `n` and document `i` two states have the same contexts and documents. -/
structure State.Elsewhere (n i : Nat) (s t : State) : Prop where
  contexts : s.iu.contexts.WF none → t.iu.contexts.WF none ∧ t.iu.contexts.others n = s.iu.contexts.others n
  documents : s.dt.documents.WF Document.free →
    t.dt.documents.WF Document.free ∧ t.dt.documents.others i = s.dt.documents.others i

section Rules

variable {s t u : State} {n i : Nat}

theorem State.Elsewhere.of_eq (h : t.iu = s.iu) (k : t.dt.documents = s.dt.documents) : State.Elsewhere n i s t :=
  ⟨fun hw => by rw [h]; exact ⟨hw, rfl⟩, fun hw => by rw [k]; exact ⟨hw, rfl⟩⟩

theorem State.Elsewhere.setContext (h : State.Elsewhere n i s t) (x : Option Context) : State.Elsewhere n i s (t.setContext n x) :=
  ⟨fun hw => ⟨Table.write_wf _ _ _ _ (h.contexts hw).1, (Table.others_write _ _ _ _).trans (h.contexts hw).2⟩, h.documents⟩

theorem State.Elsewhere.setDocument (h : State.Elsewhere n i s t) (d : Document) : State.Elsewhere n i s (t.setDocument i d) :=
  ⟨h.contexts, fun hw => ⟨Table.write_wf _ _ _ _ (h.documents hw).1, (Table.others_write _ _ _ _).trans (h.documents hw).2⟩⟩

/-- Reading beside the number of one cell. -/
theorem Table.WF.read_of_others {α : Type} {d : α} {a b : Table α} (ha : a.WF d) (hb : b.WF d) {i j : Nat}
    (h : b.others i = a.others i) (hj : j ≠ i) : b.read d j = a.read d j := by
  have key (v : α) : (j, v) ∈ b.cells ↔ (j, v) ∈ a.cells := by
    have hv : (j, v) ∈ b.others i ↔ (j, v) ∈ a.others i := by rw [h]
    simpa only [Table.mem_others, ne_eq, hj, not_false_eq_true, and_true] using hv
  by_cases hbv : b.read d j = d
  · by_contra hne
    have : (j, a.read d j) ∈ a.cells := ha.mem_iff.2 ⟨rfl, fun e => hne (hbv.trans e.symm)⟩
    exact hne (hb.mem_iff.1 ((key _).2 this)).1
  · exact (ha.mem_iff.1 ((key _).1 (hb.mem_iff.2 ⟨rfl, hbv⟩))).1.symm

theorem State.Stored.aside (h : s.Stored) (part : t.part = s.part) (stack : t.bsm.stack = s.bsm.stack)
    (links : t.bsm.links = s.bsm.links) (reserved : t.bsm.reserved = s.bsm.reserved) (iu : t.iu = s.iu)
    (documents : t.dt.documents = s.dt.documents) (pages : t.dt.pages = s.dt.pages) : t.Stored where
  contexts := by rw [iu]; exact h.contexts
  documents := by rw [documents]; exact h.documents
  numbers n hn := h.numbers n (by simpa only [State.context, iu] using hn)
  between n c hc := h.between n c (by simpa only [State.context, iu] using hc)
  free i hi := by
    have e : t.document i = s.document i := by simp only [State.document, documents]
    rw [e] at hi ⊢
    exact h.free i hi
  books := by
    have e1 : t.openPages = s.openPages := by simp only [State.openPages, iu]
    have e2 : t.pagesOfDocuments = s.pagesOfDocuments := by simp only [State.pagesOfDocuments, documents]
    have e3 : t.reservations = s.reservations := by simp only [State.reservations, iu]
    rw [e1, e2, e3]
    exact h.books.congr part stack links reserved pages

/-- The books opened at context `n` and document `i`: what the others hold stays, and the store is sound again once the books hold
with what these two then have. -/
theorem State.Stored.focus (h : s.Stored) (n i : Nat) : ∃ ps qs k,
    s.Ledger (openPageOf (s.context n) ++ ps) ((s.document i).pages ++ qs) (reservationOf (s.context n) + k)
    ∧ ∀ t, State.Elsewhere n i s t → (t.context n ≠ none → n < 64)
      → (∀ c, t.context n = some c → c.state = .betweenPages → c.openPage = none)
      → ((t.document i).state = .free → (t.document i).pages = [])
      → t.Ledger (openPageOf (t.context n) ++ ps) ((t.document i).pages ++ qs) (reservationOf (t.context n) + k) → t.Stored := by
  have opens {u : State} (hw : u.iu.contexts.WF none) : u.openPages.Perm
      (openPageOf (u.context n) ++ (u.iu.contexts.others n).flatMap (fun c => openPageOf c.2)) := by
    rw [u.openPages_eq]
    exact hw.flatMap_perm openPageOf rfl n
  have listed {u : State} (hw : u.dt.documents.WF Document.free) : u.pagesOfDocuments.Perm
      ((u.document i).pages ++ (u.dt.documents.others i).flatMap (fun c => c.2.pages)) :=
    hw.flatMap_perm (fun d => d.pages) rfl i
  have total {u : State} (hw : u.iu.contexts.WF none) : u.reservations
      = reservationOf (u.context n) + ((u.iu.contexts.others n).map (fun c => reservationOf c.2)).sum :=
    hw.sum_eq reservationOf rfl n
  refine ⟨_, _, _, total h.contexts ▸ h.books.perm (opens h.contexts).symm (listed h.documents).symm, fun t ht hn hb hf hl => ?_⟩
  obtain ⟨hc, hco⟩ := ht.contexts h.contexts
  obtain ⟨hd, hdo⟩ := ht.documents h.documents
  have context (m : Nat) (hm : m ≠ n) : t.context m = s.context m := Table.WF.read_of_others h.contexts hc hco hm
  have document (m : Nat) (hm : m ≠ i) : t.document m = s.document m := Table.WF.read_of_others h.documents hd hdo hm
  refine ⟨hc, hd, fun m hm => ?_, fun m c hm hs => ?_, fun m hm => ?_, ?_⟩
  · by_cases e : m = n
    · subst e
      exact hn hm
    · exact h.numbers m (by rwa [← context m e])
  · by_cases e : m = n
    · subst e
      exact hb c hm hs
    · exact h.between m c (by rwa [← context m e]) hs
  · by_cases e : m = i
    · subst e
      exact hf hm
    · rw [document m e] at hm ⊢
      exact h.free m hm
  · rw [total hc, hco]
    refine hl.perm ?_ ?_
    · rw [← hco]
      exact opens hc
    · rw [← hdo]
      exact listed hd

/-! ## Documents -/

theorem State.Stored.notices (h : s.Stored) (k : s.Notices t) : t.Stored := by
  rw [k.rest]
  exact h.aside rfl rfl rfl rfl rfl rfl rfl

theorem State.Stored.holdTest (h : s.Stored) : s.holdTest.Stored := by
  obtain ⟨b, hb⟩ := s.holdTest_notices
  have k : State.Stored { s with bsm := { s.bsm with storeHold := b } } := h.aside rfl rfl rfl rfl rfl rfl rfl
  exact k.notices hb

/-- A document changes, and not its pages. -/
theorem State.Stored.setDocument (h : s.Stored) (i : Nat) (d : Document) (hp : d.pages = (s.document i).pages)
    (hf : d.state = .free → (s.document i).state = .free) : (s.setDocument i d).Stored := by
  obtain ⟨ps, qs, k, hl, close⟩ := h.focus 0 i
  refine close _ ((State.Elsewhere.of_eq rfl rfl).setDocument d) (fun _ => by decide) (h.between 0) ?_ ?_
  · rw [State.document_setDocument_same]
    exact fun hs => hp.trans (h.free i (hf hs))
  · rw [State.document_setDocument_same, hp]
    exact hl.congr rfl rfl rfl rfl rfl

/-- A document is freed with its blocks and page records (R74). -/
theorem State.Stored.freeDocument (h : s.Stored) (i : Nat) : (s.freeDocument i).Stored := by
  obtain ⟨ps, qs, k, hl, close⟩ := h.focus 0 i
  obtain ⟨-, -, -, -, r5, r6⟩ := s.releaseBlocks_rest (s.documentBlocks (s.document i))
  obtain ⟨-, -, f3, f4⟩ := State.freePages_rest (s.releaseBlocks (s.documentBlocks (s.document i))) (s.document i).pages
  have hiu : (s.freeDocument i).iu = s.iu := f3.trans r5
  have hdoc : (s.freeDocument i).document i = (s.document i).freed := State.document_setDocument_same _ _ _
  refine close _ ?_ (fun _ => by decide) (fun c hc => h.between 0 c (by simpa only [State.context, hiu] using hc))
    (fun _ => by rw [hdoc]; rfl) ?_
  · exact (State.Elsewhere.of_eq (f3.trans r5) (f4.trans (congrArg Dt.documents r6))).setDocument _
  · have hctx : (s.freeDocument i).context 0 = s.context 0 := by simp only [State.context, hiu]
    rw [hdoc, hctx]
    exact State.Ledger.congr (hl.freePages) rfl rfl rfl rfl rfl

theorem State.Stored.move (h : s.Stored) (k : s.Move t) : t.Stored := by
  cases k with
  | notified k => exact h.notices (.single k)
  | hold b => exact h.aside rfl rfl rfl rfl rfl rfl rfl
  | work n => exact h.aside rfl rfl rfl rfl rfl rfl rfl
  | destination n x _ => exact h.aside rfl rfl rfl rfl rfl rfl rfl
  | document i d hp hf => exact h.setDocument i d hp hf
  | free i => exact h.freeDocument i

theorem State.Stored.traffic (h : s.Stored) (k : s.Traffic t) : t.Stored := by
  induction k with
  | refl => exact h
  | tail _ k ih => exact ih.move k

/-! ## Receptions -/

theorem State.Stored.unnumbered (h : s.Stored) {c : Context} (hc : s.context n = some c) : n < 64 := h.numbers n (by rw [hc]; simp)

/-- A context changes, and neither the record and the blocks of its page nor its reservation. -/
theorem State.Stored.setContext (h : s.Stored) {c c' : Context} (hc : s.context n = some c)
    (hb : c'.state = .betweenPages → c'.openPage = none)
    (hp : c'.openPage.map (fun p => (p.record, p.blocks)) = c.openPage.map (fun p => (p.record, p.blocks)))
    (hr : c'.reservation = c.reservation) : (s.setContext n (some c')).Stored := by
  obtain ⟨ps, qs, k, hl, close⟩ := h.focus n 0
  refine close _ ((State.Elsewhere.of_eq rfl rfl).setContext _)
    (fun _ => h.unnumbered hc) ?_ (h.free 0) ?_
  · rw [State.context_setContext_same]
    rintro x ⟨⟩
    exact hb
  · rw [State.context_setContext_same]
    rw [hc] at hl
    refine State.Ledger.congr (s := s) ?_ rfl rfl rfl rfl rfl
    simp only [openPageOf, reservationOf, Option.bind_some, Option.elim_some, hr] at hl ⊢
    cases ho : c.openPage with
    | none =>
      rw [ho] at hp hl
      rw [Option.map_none, Option.map_eq_none_iff] at hp
      rw [hp]
      exact hl
    | some p =>
      rw [ho] at hp hl
      obtain ⟨p', hp', e⟩ := Option.map_eq_some_iff.1 hp
      obtain ⟨e1, e2⟩ := Prod.mk.inj e
      rw [hp']
      exact hl.samePage e1 e2

/-- The engine keeps the store. -/
theorem State.Stored.engineMove (h : s.Stored) (k : s.EngineMove t) : t.Stored := by
  cases k with
  | notified k => exact h.notices (.single k)
  | te x _ _ => exact h.aside rfl rfl rfl rfl rfl rfl rfl
  | fill n r => exact h.aside rfl rfl rfl rfl rfl rfl rfl
  | context n c c' hc _ hp hr hs => exact h.setContext hc (fun e => absurd e hs) (by rw [hp]) hr
  | deadline i p e t _ => exact h.setDocument i _ rfl id
  | free i _ => exact h.freeDocument i

theorem State.Stored.engine (h : s.Stored) (k : s.Engine t) : t.Stored := by
  induction k with
  | refl => exact h
  | tail _ k ih => exact ih.engineMove k

/-- Discarding a page leaves contexts and documents alone. -/
theorem State.discardPage_rest (s : State) (p : OpenPage) : (s.discardPage p).iu = s.iu
    ∧ (s.discardPage p).dt.documents = s.dt.documents := by
  obtain ⟨-, -, -, -, r5, r6⟩ := s.releaseBlocks_rest p.blocks
  have h : (s.releaseBlocks p.blocks).dt.documents = s.dt.documents := congrArg Dt.documents r6
  exact ⟨r5, h⟩

/-- A reception ends: its open page is discarded, its reservation released and its context freed (R35, R39). -/
theorem State.Stored.closeContext (h : s.Stored) {c c' : Context} (hc : s.context n = some c') (hp : c.openPage = c'.openPage)
    (hr : c.reservation = c'.reservation) :
    (((s.discardOpenPage c).releaseReservation c.reservation).setContext n none).Stored := by
  obtain ⟨ps, qs, k, hl, close⟩ := h.focus n 0
  rw [hc] at hl
  simp only [openPageOf, reservationOf, Option.bind_some, Option.elim_some, ← hp, ← hr] at hl
  have hl := hl.discardOpenPage.releaseReservation
  have rest1 : (s.discardOpenPage c).iu = s.iu ∧ (s.discardOpenPage c).dt.documents = s.dt.documents := by
    unfold State.discardOpenPage
    cases c.openPage with
    | none => exact ⟨rfl, rfl⟩
    | some p =>
      exact s.discardPage_rest p
  have rest2 (u : State) (r : Nat) : (u.releaseReservation r).iu = u.iu ∧ (u.releaseReservation r).dt = u.dt := by
    obtain ⟨b, hb⟩ := ({ u with bsm := { u.bsm with reserved := u.bsm.reserved - r } } : State).holdTest_notices
    unfold State.releaseReservation
    rw [hb.rest]
    exact ⟨rfl, rfl⟩
  generalize s.discardOpenPage c = u at hl rest1 ⊢
  obtain ⟨e1, e2⟩ := rest2 u c.reservation
  generalize u.releaseReservation c.reservation = v at hl e1 e2 ⊢
  have hdoc : v.document 0 = s.document 0 := by simp only [State.document, e2, rest1.2]
  refine close _ ((State.Elsewhere.of_eq (e1.trans rest1.1) ((congrArg Dt.documents e2).trans rest1.2)).setContext none)
    (fun hn => ?_) (fun c hc => ?_) (fun hs => ?_) ?_
  · simp at hn
  · simp at hc
  · rw [State.document_setContext, hdoc] at hs ⊢
    exact h.free 0 hs
  · rw [State.context_setContext_same, State.document_setContext, hdoc]
    refine State.Ledger.congr (s := v) ?_ rfl rfl rfl rfl rfl
    simpa [openPageOf, reservationOf] using hl

theorem State.Stored.finishDocument (h : s.Stored) (i : Nat) (b : Bool) : (s.finishDocument i b).Stored :=
  h.traffic (s.traffic_finishDocument i b)

theorem State.Stored.endReception (h : s.Stored) {c : Context} (hc : s.context n = some c) (b : Bool) :
    (s.endReception n c b).Stored := (h.closeContext hc rfl rfl).finishDocument _ _

theorem State.Stored.interrupt (h : s.Stored) (l : List Nat) : (l.foldl State.interruptReception s).Stored := by
  induction l generalizing s with
  | nil => exact h
  | cons n l ih =>
    refine ih ?_
    unfold State.interruptReception
    split
    · exact h
    · rename_i c hc
      exact h.endReception hc true

theorem State.Stored.abortReception (h : s.Stored) {c : Context} (hc : s.context n = some c) : (s.abortReception n c).Stored := by
  have k := s.engine_cancelJobs (fun j => j.feeds n) true false
  obtain ⟨c', hc', -, hp, hr⟩ := k.carries hc
  unfold State.abortReception
  exact ((h.engine k).closeContext hc' hp.symm hr.symm).freeDocument _

/-- A reception opens: a FREE record, a FREE context, and a grant of what is available (R6, R23 to R25). -/
theorem State.Stored.receptionOpened (h : s.Stored) (slot lineId profile : Nat) (digits caller : List Byte) {i : Nat}
    (hn : s.context n = none) (hlt : n < 64) (hi : (s.document i).state = .free) :
    (s.receptionOpened slot lineId profile digits caller n i).Stored := by
  unfold State.receptionOpened
  dsimp only
  have h1 : (s.setDocument i ((s.document i).opened slot lineId digits caller s.tb.clock (s.resolve digits))).Stored :=
    h.setDocument i _ (h.free i hi).symm (fun e => by simp [Document.opened] at e)
  have hn1 : (s.setDocument i ((s.document i).opened slot lineId digits caller s.tb.clock (s.resolve digits))).context n = none := hn
  have hg : s.bsm.grant ≤ s.bsm.available := by
    simp only [Bsm.grant]
    omega
  have hb : (s.setDocument i ((s.document i).opened slot lineId digits caller s.tb.clock (s.resolve digits))).bsm = s.bsm := rfl
  generalize s.setDocument i ((s.document i).opened slot lineId digits caller s.tb.clock (s.resolve digits)) = u at h1 hn1 hb ⊢
  obtain ⟨ps, qs, k, hl, close⟩ := h1.focus n 0
  rw [hn1] at hl
  set x := some (Context.opened (u.handleOf i) slot lineId profile s.bsm.grant (s.idleFrom profile)) with hx
  have hl2 : (u.setContext n x).Ledger ps ((u.document 0).pages ++ qs) k := by
    refine State.Ledger.congr (s := u) ?_ rfl rfl rfl rfl rfl
    simpa [openPageOf, reservationOf] using hl
  obtain ⟨b, hb'⟩ := ({ u.setContext n x with bsm := { (u.setContext n x).bsm with
    reserved := (u.setContext n x).bsm.reserved + s.bsm.grant } } : State).holdTest_notices
  have rest : ((u.setContext n x).reserveBlocks s.bsm.grant).iu = (u.setContext n x).iu
      ∧ ((u.setContext n x).reserveBlocks s.bsm.grant).dt = u.dt := by
    unfold State.reserveBlocks
    rw [hb'.rest]
    exact ⟨rfl, rfl⟩
  have hl3 := hl2.reserveBlocks (g := s.bsm.grant) (by show s.bsm.grant ≤ u.bsm.available; rwa [hb])
  generalize (u.setContext n x).reserveBlocks s.bsm.grant = v at hl3 rest ⊢
  have hctx : v.context n = x := by
    simp only [State.context, rest.1]
    exact State.context_setContext_same u n x
  have hdoc : v.document 0 = u.document 0 := by simp only [State.document, rest.2]
  refine close v ?_ (fun _ => hlt) ?_ (by rw [hdoc]; exact h1.free 0) ?_
  · refine ⟨fun hw => ?_, fun hw => ?_⟩
    · rw [rest.1]
      exact ⟨Table.write_wf _ _ _ _ hw, Table.others_write _ _ _ _⟩
    · rw [rest.2]
      exact ⟨hw, rfl⟩
  · rw [hctx, hx]
    rintro c ⟨⟩ -
    rfl
  · rw [hctx, hdoc]
    exact hl3

/-! ## Pages -/

/-- A page opens in a reception that has none open (R30). -/
theorem State.Stored.openPage (h : s.Stored) {c c' : Context} (hc : s.context n = some c) (hb : c.openPage = none) {p : Nat}
    (hp : s.page p = none) (ho : c'.openPage = some (OpenPage.fresh p)) (hr : c'.reservation = c.reservation)
    (hs : c'.state ≠ .betweenPages) :
    ((s.setPage p (some PageRecord.opened)).setContext n (some c')).Stored := by
  obtain ⟨ps, qs, k, hl, close⟩ := h.focus n 0
  rw [hc] at hl
  refine close _ ((State.Elsewhere.of_eq (s := s) (t := s.setPage p (some PageRecord.opened)) rfl rfl).setContext _)
    (fun _ => h.unnumbered hc) ?_ (h.free 0) ?_
  · rw [State.context_setContext_same]
    rintro x ⟨⟩ e
    exact absurd e hs
  · rw [State.context_setContext_same]
    have hl' := State.Ledger.openPage (r := p) (by simpa [openPageOf, reservationOf, hb] using hl) hp
    refine State.Ledger.congr (s := s.setPage p (some PageRecord.opened)) ?_ rfl rfl rfl rfl rfl
    simpa [openPageOf, reservationOf, ho, hr] using hl'

theorem State.Stored.commitPage (h : s.Stored) {c c' : Context} (hc : s.context n = some c) {p0 p : OpenPage}
    (hp : c.openPage = some p0) (hrec : p.record = p0.record) (hblk : p.blocks = p0.blocks) (ho : c'.openPage = none)
    (hr : c'.reservation = c.reservation) {i : Nat} (hi : (s.document i).state = .receiving) (v : Verdict) (flags : PageFlags) :
    ((s.commitPage i p v flags).setContext n (some c')).Stored := by
  obtain ⟨ps, qs, k, hl, close⟩ := h.focus n i
  rw [hc] at hl
  refine close _ (((State.Elsewhere.of_eq (s := s) (t := s.setPage p.record
    (some (p.commitRecord ((s.document i).pages.length + 1) v flags)))
    rfl rfl).setDocument _).setContext _) (fun _ => h.unnumbered hc) ?_ ?_ ?_
  · rw [State.context_setContext_same]
    rintro x ⟨⟩ -
    exact ho
  · rw [State.document_setContext]
    unfold State.commitPage
    dsimp only
    rw [State.document_setDocument_same]
    intro e
    simp [hi] at e
  · rw [State.context_setContext_same, State.document_setContext]
    unfold State.commitPage
    dsimp only
    rw [State.document_setDocument_same]
    have hl' : s.Ledger (p :: ps) ((s.document i).pages ++ qs) (c.reservation + k) := by
      have : s.Ledger (p0 :: ps) ((s.document i).pages ++ qs) (c.reservation + k) := by
        simpa [openPageOf, reservationOf, hp] using hl
      exact this.samePage hrec hblk
    have hl'' := hl'.commit ((s.document i).pages.length + 1) v flags
    refine State.Ledger.congr (s := s.setPage p.record (some (p.commitRecord ((s.document i).pages.length + 1) v flags)))
      ?_ rfl rfl rfl rfl rfl
    simp only [openPageOf, reservationOf, Option.bind_some, Option.elim_some, ho, hr, Option.toList_none, List.nil_append]
    refine hl''.perm (.refl _) ?_
    rw [List.append_assoc, List.singleton_append]
    exact List.perm_middle

theorem State.Stored.discardPage (h : s.Stored) {c c' : Context} (hc : s.context n = some c) {p0 p : OpenPage}
    (hp : c.openPage = some p0) (hrec : p.record = p0.record) (hblk : p.blocks = p0.blocks) (ho : c'.openPage = none)
    (hr : c'.reservation = c.reservation) : ((s.discardPage p).setContext n (some c')).Stored := by
  obtain ⟨ps, qs, k, hl, close⟩ := h.focus n 0
  obtain ⟨r5, r6⟩ := s.discardPage_rest p
  rw [hc] at hl
  have hl' : s.Ledger (p :: ps) ((s.document 0).pages ++ qs) (c.reservation + k) := by
    have : s.Ledger (p0 :: ps) ((s.document 0).pages ++ qs) (c.reservation + k) := by
      simpa [openPageOf, reservationOf, hp] using hl
    exact this.samePage hrec hblk
  have hdoc : (s.discardPage p).document 0 = s.document 0 :=
    congrArg (fun d => d.read Document.free 0) r6
  refine close _ ((State.Elsewhere.of_eq r5 r6).setContext _) (fun _ => h.unnumbered hc) ?_
    (by rw [State.document_setContext, hdoc]; exact h.free 0) ?_
  · rw [State.context_setContext_same]
    rintro x ⟨⟩ -
    exact ho
  · rw [State.context_setContext_same, State.document_setContext, hdoc]
    refine State.Ledger.congr (s := s.discardPage p) ?_ rfl rfl rfl rfl rfl
    simpa [openPageOf, reservationOf, ho, hr] using hl'.discardPage

/-! ## The parser -/

/-- A record is stored in the open page of a context (R48 to R50). -/
theorem State.Stored.storeRecord (h : s.Stored) {c : Context} (hc : s.context n = some c) {p : OpenPage}
    (hp : c.openPage = some p) (ws : List Word) : (s.storeRecord n c p ws).1.Stored := by
  have hst : c.state ≠ .betweenPages := fun e => by simp [h.between n c hc e] at hp
  have stop (f : PageFlags → PageFlags) : (s.setContext n (some (c.stopWith f))).Stored :=
    h.setContext hc (fun e => absurd e hst) (by simp [Context.stopWith, hp]) rfl
  unfold State.storeRecord
  split
  · exact stop _
  split
  · dsimp only
    obtain ⟨w1, w2, w3⟩ := Bsm.writeChain_rest p.blocks s.bsm p.storedBytes (bytesOf ws)
    have k : State.Stored { s with bsm := Bsm.writeChain p.blocks s.bsm p.storedBytes (bytesOf ws) } :=
      h.aside rfl w1 w2 w3 rfl rfl rfl
    exact k.setContext (n := n) (c := c) hc (fun e => absurd e hst) (by simp [hp, OpenPage.withRecord]) rfl
  split
  · exact stop _
  split
  · exact stop _
  · rename_i b r bsm ha
    dsimp only
    refine State.Stored.holdTest ?_
    obtain ⟨ps, qs, k, hl, close⟩ := h.focus n 0
    rw [hc] at hl
    refine close _ ((State.Elsewhere.of_eq
      (s := s) (t := { s with bsm := Bsm.writeChain (p.blocks ++ [b]) bsm p.storedBytes (bytesOf ws) }) rfl rfl).setContext _)
      (fun _ => h.unnumbered hc) ?_ (h.free 0) ?_
    · rw [State.context_setContext_same]
      rintro x ⟨⟩ e
      exact absurd e hst
    · rw [State.context_setContext_same]
      have hl' : s.Ledger (p :: ps) ((s.document 0).pages ++ qs) (c.reservation + k) := by
        simpa [openPageOf, reservationOf, hp] using hl
      have hl'' := hl'.allocate ha (p' := p.withRecord (p.blocks ++ [b]) ws) rfl rfl
      exact State.Ledger.congr (hl''.writeChain (p.blocks ++ [b]) p.storedBytes (bytesOf ws)) rfl rfl rfl rfl rfl

theorem State.Stored.parseWord (h : s.Stored) (n : Nat) (w : Word) : (s.parseWord n w).1.Stored := by
  unfold State.parseWord
  split
  · exact h
  rename_i c hc
  split
  · exact h
  rename_i p hp
  have hst : c.state ≠ .betweenPages := fun e => by simp [h.between n c hc e] at hp
  have assemble (x : Parser) : (s.setContext n (some { c with parser := x })).Stored :=
    h.setContext hc (fun e => absurd e hst) rfl rfl
  split
  · exact h
  · split
    · exact h.setContext hc (fun e => absurd e hst) (by simp [Context.stopWith, hp]) rfl
    split
    · exact h.storeRecord hc hp _
    · exact assemble _
  · split
    · exact h.storeRecord hc hp _
    · exact assemble _

theorem State.Stored.parseWords (h : s.Stored) (n : Nat) (ws : List Word) : (s.parseWords n ws).state.Stored := by
  induction ws generalizing s with
  | nil => exact h
  | cons w ws ih =>
    have hw := h.parseWord n w
    unfold State.parseWords
    generalize s.parseWord n w = x at hw ⊢
    obtain ⟨s', full⟩ := x
    cases full
    · exact ih hw
    · exact hw

theorem State.Stored.burstEnd (h : s.Stored) (f : State → Job → Burst → State)
    (hf : ∀ (s : State) j b, ∃ n vs, (s.parseWords n vs).state.Engine (f s j b)) : (s.burstEnd f).Stored := by
  obtain ⟨n, vs, k⟩ := s.engine_burstEnd f (hf s)
  exact (h.parseWords n vs).engine k

end Rules

end Sys2Proof.Machine
end

-- ==== Proofs: the store through every step ====
section
/-!
SUPPORT. Each effect of a command and each event keeps the store sound. The recovery scan frees every context, lists again the page
records of the documents and rebuilds the free-block stack from every block that no document has (R18).
-/

namespace Sys2Proof.Machine

open Relation (ReflTransGen)

/-- What one operation keeps, a fold of it keeps. -/
theorem List.foldl_keeps {α β : Type} {P : β → Prop} (f : β → α → β) (h : ∀ b a, P b → P (f b a)) (l : List α) {b : β} (hb : P b) :
    P (l.foldl f b) := by
  induction l generalizing b with
  | nil => exact hb
  | cons a l ih => exact ih (h b a hb)

section Rules

variable {s t u : State} {n i : Nat}

/-- The store sees neither the port unit, the routes, the destinations nor the engine. -/
theorem State.Stored.outside (h : s.Stored) (part : t.part = s.part) (bsm : t.bsm = s.bsm) (iu : t.iu = s.iu) (dt : t.dt = s.dt) :
    t.Stored :=
  h.aside part (by rw [bsm]) (by rw [bsm]) (by rw [bsm]) iu (by rw [dt]) (by rw [dt])

theorem State.Stored.restoreFlags (h : s.Stored) (n : Nat) : (s.restoreFlags n).Stored := by
  unfold State.restoreFlags
  dsimp only
  split <;> exact h.outside rfl rfl rfl rfl

theorem State.Stored.markReset (h : s.Stored) (ns : List Nat) : (s.markReset ns).Stored := h.outside rfl rfl rfl rfl

theorem State.Stored.emptyPort (h : s.Stored) (n : Nat) (keep : Bool) : (s.emptyPort n keep).Stored := h.outside rfl rfl rfl rfl

theorem State.Stored.answering (h : s.Stored) (a : Answer) : (s.answering a).Stored := h.outside rfl rfl rfl rfl

theorem State.Stored.choiceMade (h : s.Stored) : s.choiceMade.Stored := h.outside rfl rfl rfl rfl

theorem State.Stored.stationReset (h : s.Stored) (n : Nat) (keep : Bool) : (s.stationReset n keep).Stored := by
  have h1 := (h.markReset [n]).engine ((s.markReset [n]).engine_cancelJobs (fun j => decide (j.slot = n)) true true)
  unfold State.stationReset
  dsimp only
  generalize (s.markReset [n]).cancelJobs (fun j => decide (j.slot = n)) true true = u at h1 ⊢
  have h2 : ((u.emptyPort n keep).endReceptionsOf n).Stored := ((h1.emptyPort n keep).interrupt _).choiceMade
  exact ((h2.traffic (State.traffic_returnCheckouts _ (fun m => decide (m = n)))).restoreFlags n).markReset []

theorem State.Stored.announceHeld (h : s.Stored) (was : Bool) : (s.announceHeld was).Stored := h.notices (s.notices_announceHeld was)

/-! ## Commands -/

theorem State.Stored.configuring (h : s.Stored) (n : Nat) (rights : Rights) (start stop : Nat) (base mask : BitVec 16)
    (enables : Enables) : (s.configuring n rights start stop base mask enables).Stored := by
  have k : (s.setStation n ((s.station n).configured rights start stop base mask enables)).Stored := h.outside rfl rfl rfl rfl
  unfold State.configuring State.unbindIfRemoved
  split
  · exact List.foldl_keeps State.unbind (fun u d hu => State.Stored.outside hu rfl rfl rfl rfl) _ k
  · exact k

theorem State.Stored.changeDest (h : s.Stored) (n : Nat) (st : DestState) : (s.changeDest n st).Stored := by
  have k : (s.setDestination n { s.destination n with state := st }).Stored := h.outside rfl rfl rfl rfl
  unfold State.changeDest
  dsimp only
  split
  · exact k
  · exact k.notices (State.notices_send _ _ _ _)

theorem State.Stored.signalWork (h : s.Stored) (n : Nat) : (s.signalWork n).Stored := h.traffic (s.traffic_signalWork n)

theorem State.Stored.withdrawEntry (h : s.Stored) (i p : Nat) (e : Entry) : (s.withdrawEntry i p e).Stored := by
  unfold State.withdrawEntry
  split
  · exact (h.traffic (s.traffic_leaveQueue _ _ _)).traffic (State.traffic_settleEntry _ _ _ _ _)
  · exact ((h.traffic (s.traffic_leaveCheckouts e.destination i p)).traffic
      (State.traffic_settleEntry _ i p e .withdrawn)).engine (State.engine_cancelJobs _ _ _ _)
  all_goals exact h.traffic (s.traffic_settleEntry _ _ _ _)

/-- A placement changes a document's entries alone. -/
theorem Document.place_rest {d d' : Document} {target : Word} {dest : Nat} {original : Option Nat} {x : Placement}
    (h : d.place target dest original = some (d', x)) : d' = { d with entries := d'.entries } := by
  unfold Document.place at h
  split at h
  · split at h
    · cases h
      rfl
    · cases h
      rfl
  · split at h
    · cases h
    · cases h
      rfl

theorem Document.placeAll_rest {target : Word} {original : Nat → Option Nat} {ds : List Nat} {d d' : Document}
    {xs : List (Nat × Placement)} (h : d.placeAll target original ds = some (d', xs)) : d' = { d with entries := d'.entries } := by
  induction ds generalizing d xs with
  | nil =>
    cases h
    rfl
  | cons dest ds ih =>
    unfold Document.placeAll at h
    split at h
    · cases h
    · rename_i d1 x hx
      split at h
      · cases h
      · rename_i d2 xs' hxs
        cases h
        rw [ih hxs, Document.place_rest hx]

theorem State.Stored.effect (h : s.Stored) {slot : Nat} {b : Bool} (k : s.Effect slot b t) : t.Stored := by
  have out {u : State} (h1 : u.part = s.part) (h2 : u.bsm = s.bsm) (h3 : u.iu = s.iu) (h4 : u.dt = s.dt) : u.Stored :=
    h.outside h1 h2 h3 h4
  cases k with
  | same => exact h
  | config n rights start stop base mask enables _ _ _ _ _ => exact h.configuring n rights start stop base mask enables
  | unused n rights start stop base mask enables _ _ _ _ _ _ =>
    exact (h.configuring n rights start stop base mask enables).stationReset n false
  | unusedOwn rights start stop base mask enables _ _ _ _ _ =>
    exact (h.configuring slot rights start stop base mask enables).stationReset slot false
  | reset n _ => exact h.stationReset n _
  | faultCleared ns =>
    have k : (s.clearNoticeLost ns).Stored :=
      List.foldl_keeps (P := State.Stored) (fun s n => s.setStation n { s.station n with noticeLost := false })
        (fun u n hu => State.Stored.outside hu rfl rfl rfl rfl) ns h
    have k' (u : State) (hu : u.Stored) : u.clearFault.Stored :=
      State.Stored.announceHeld (s := { u with spu := { u.spu with fault := false } }) (hu.outside rfl rfl rfl rfl) _
    exact k' _ k
  | marks low release floor reserve =>
    exact State.Stored.holdTest (h.aside (t := { s with bsm := s.bsm.withMarks low release floor reserve }) rfl rfl rfl rfl rfl rfl rfl)
  | adminHold v =>
    exact State.Stored.announceHeld (h.aside (t := { s with bsm := { s.bsm with adminHold := v } }) rfl rfl rfl rfl rfl rfl rfl) _
  | clock c _ => exact out rfl rfl rfl rfl
  | opened lineId profile digits caller n i hn hi =>
    obtain ⟨h1, -, h3, -⟩ := firstFrom_some hn
    obtain ⟨g1, -⟩ := firstFrom_some hi
    exact h.receptionOpened slot lineId profile digits caller (by simpa using h1) (by simpa [Config.contexts] using h3) (by simpa using g1)
  | sender n c c' i cs hc _ hp hr hs =>
    have k := h.setDocument i { s.document i with sender := cs } rfl id
    refine k.setContext hc (fun e => ?_) (by rw [hp]) hr
    rw [hp]
    exact h.between n c hc (hs.symm.trans e)
  | pageGoesOn n c tag chain hc _ _ =>
    have k : (s.setContext n (some c.intaking)).Stored :=
      h.setContext hc (fun e => by simp [Context.intaking] at e) rfl rfl
    exact k.engine (State.engine_queueJob _ _)
  | pageOpens n c p tag chain hc hb hp _ _ =>
    refine State.Stored.engine ?_ (State.engine_queueJob _ _)
    have e : (s.openPageIn n c p).1.setContext n (some (s.openPageIn n c p).2.intaking)
        = (s.setPage p (some PageRecord.opened)).setContext n (some (s.openPageIn n c p).2.intaking) := by
      simp [State.openPageIn, State.setContext]
    rw [e]
    exact h.openPage hc (h.between n c hc hb) hp rfl rfl (fun e => by simp [Context.intaking] at e)
  | pageCommitted n c p0 p v flags drops deadline hc hi hp hrec hblk =>
    exact h.commitPage (c' := c.pageEnded drops deadline) hc hp hrec hblk rfl rfl hi v flags
  | pageDiscarded n c p0 p drops deadline hc hp hrec hblk => exact h.discardPage (c' := c.pageEnded drops deadline) hc hp hrec hblk rfl rfl
  | ended n c i hc => exact h.endReception hc i
  | aborted n c hc => exact h.abortReception hc
  | profile n p _ => exact out rfl rfl rfl rfl
  | attributes i d hp hs _ _ _ => exact h.setDocument i d hp (fun e => hs.symm.trans e)
  | attributesTested i d hp hs _ _ _ =>
    exact (h.setDocument i d hp (fun e => hs.symm.trans e)).traffic (State.traffic_releaseTest _ i)
  | purged i _ =>
    unfold State.purgeDocument
    exact ((h.traffic (s.traffic_purgeEntries i)).engine (State.engine_cancelJobs _ _ _ _)).traffic (State.traffic_purgeFinish _ i)
  | retention c m _ => exact h.aside rfl rfl rfl rfl rfl rfl rfl
  | route i e _ _ _ => exact out rfl rfl rfl rfl
  | routeCleared i => exact out rfl rfl rfl rfl
  | defaultRoute r _ => exact out rfl rfl rfl rfl
  | fallback f _ _ => exact out rfl rfl rfl rfl
  | destConfig n bound hold attempts checkouts label _ _ =>
    have k : (s.setDestination n ((s.destination n).configured bound hold attempts checkouts label)).Stored := out rfl rfl rfl rfl
    unfold State.bindDestination
    dsimp only
    split
    · exact k.signalWork n
    · exact k
  | destOpened n _ =>
    have k := h.changeDest n .opened
    unfold State.destOpened
    dsimp only
    split
    · exact k
    · exact k.signalWork n
  | destPaused n _ => exact h.changeDest n _
  | destClosed n _ _ => exact (h.traffic (s.traffic_expelQueue n 0 0 _)).changeDest n _
  | rerouted i w d xs _ hx =>
    have e := Document.placeAll_rest hx
    exact h.traffic (s.traffic_rerouted i d xs (by rw [e]))
  | dropped n fuel _ => exact h.traffic (s.traffic_dropSpent n fuel)
  | took n fuel u x e _ hu _ _ =>
    subst hu
    exact h.traffic ((s.traffic_dropSpent n fuel).trans (State.traffic_takeHead _ _ _ _ _))
  | fetches kind tag chain _ _ => exact h.engine (s.engine_queueJob _)
  | confirmed i p e _ _ => exact h.traffic (s.traffic_confirmed i p e)
  | cameBack i p e reason _ _ => exact h.traffic (s.traffic_comeBack i p e reason)
  | withdrawn i p e _ _ =>
    exact ((h.withdrawEntry i p e).traffic (State.traffic_settleIfEmpty _ i)).traffic (State.traffic_closeIfDrained _ e.destination)
  | cancelled p => exact h.engine (s.engine_cancelJobs p _ _)
  | policy level mode _ => exact out rfl rfl rfl rfl

theorem State.Stored.taking (h : s.Stored) {slot : Nat} (k : s.Taking slot t) : t.Stored := by
  rcases k with rfl | ⟨r, u, b, x, -, he, rfl⟩
  · exact h
  · have hu := State.Stored.effect (s := s.taken slot) (h.outside rfl rfl rfl rfl) he
    split
    · exact hu.outside rfl rfl rfl rfl
    · exact hu

/-! ## The recovery scan -/

/-- While the part is RECOVERING the books promise less. -/
theorem State.Stored.toRecovering (h : s.Stored) (part : t.part = .recovering) (stack : t.bsm.stack = s.bsm.stack)
    (links : t.bsm.links = s.bsm.links) (iu : t.iu = s.iu) (dt : t.dt = s.dt) : t.Stored := by
  have k : State.Stored { s with part := .recovering } :=
    ⟨h.contexts, h.documents, h.numbers, h.between, h.free, h.books.pages, h.books.used, h.books.chains, h.books.once,
      fun e => absurd rfl e, fun e => absurd rfl e⟩
  have hl : t.Ledger s.openPages s.pagesOfDocuments s.reservations :=
    k.books.withReserved part stack links (fun q _ => by simp only [State.page, dt]) (fun e => absurd part e)
  obtain ⟨h1, h2, h3, h4, h5, -⟩ := h
  refine ⟨by rw [iu]; exact h1, by rw [dt]; exact h2, ?_, ?_, ?_, ?_⟩
  · simpa only [State.context, iu] using h3
  · simpa only [State.context, iu] using h4
  · simpa only [State.document, dt] using h5
  · simpa only [State.openPages, State.pagesOfDocuments, State.reservations, iu, dt] using hl

/-- A part that is being scanned: RECOVERING, its store sound. -/
structure State.Scanned (s : State) : Prop where
  part : s.part = .recovering
  stored : s.Stored

theorem State.Scanned.traffic (h : s.Scanned) (k : s.Traffic t) : t.Scanned := ⟨k.changes.part.trans h.part, h.stored.traffic k⟩

theorem State.Scanned.outside (h : s.Scanned) (part : t.part = s.part) (bsm : t.bsm = s.bsm) (iu : t.iu = s.iu) (dt : t.dt = s.dt) :
    t.Scanned := ⟨part.trans h.part, h.stored.outside part bsm iu dt⟩

theorem State.Scanned.markReset (h : s.Scanned) (ns : List Nat) : (s.markReset ns).Scanned := ⟨h.part, h.stored.markReset ns⟩

theorem State.Scanned.emptyPort (h : s.Scanned) (n : Nat) : (s.emptyPort n false).Scanned := ⟨h.part, h.stored.emptyPort n false⟩

theorem State.Scanned.restoreFlags (h : s.Scanned) (n : Nat) : (s.restoreFlags n).Scanned :=
  ⟨(s.changes_restoreFlags n).part.trans h.part, h.stored.restoreFlags n⟩

/-- Stage 1. -/
theorem State.Scanned.scanStations (h : s.Scanned) : s.scanStations.Scanned := by
  have h1 : (allSlots.foldl (fun s n => s.emptyPort n false) (s.markReset allSlots)).Scanned :=
    List.foldl_keeps (P := State.Scanned) (fun (s : State) n => s.emptyPort n false) (fun _ n hu => hu.emptyPort n) _ (h.markReset allSlots)
  have h2 := List.foldl_keeps (P := State.Scanned) State.restoreFlags (fun _ n hu => State.Scanned.restoreFlags hu n) allSlots
    (h1.traffic (State.traffic_returnCheckouts _ (fun _ => true)))
  unfold State.scanStations
  dsimp only
  exact h2.markReset []

theorem State.Scanned.scanEngine (h : s.Scanned) : s.scanEngine.Scanned := h.outside rfl rfl rfl rfl

/-- Stage 3 for one context. -/
theorem State.Scanned.scanContext (h : s.Scanned) (n : Nat) : (s.scanContext n).Scanned := by
  unfold State.scanContext
  split
  · exact h
  rename_i c hc
  refine State.Scanned.traffic ?_ (State.traffic_finishDocument _ _ _)
  obtain ⟨ps, qs, k, hl, close⟩ := h.stored.focus n 0
  rw [hc] at hl
  have hpart : (c.openPage.elim s (fun p => s.setPage p.record none)).part = .recovering := by
    cases c.openPage <;> exact h.part
  have hiu : (c.openPage.elim s (fun p => s.setPage p.record none)).iu = s.iu := by cases c.openPage <;> rfl
  have hdoc : (c.openPage.elim s (fun p => s.setPage p.record none)).dt.documents = s.dt.documents := by cases c.openPage <;> rfl
  have hl' : (c.openPage.elim s (fun p => s.setPage p.record none)).Ledger ps ((s.document 0).pages ++ qs) k := by
    simp only [openPageOf, reservationOf, Option.bind_some, Option.elim_some] at hl
    cases ho : c.openPage with
    | none =>
      rw [ho] at hl
      exact hl.withReserved (k' := k) rfl rfl rfl (fun _ _ => rfl) (fun e => absurd h.part e)
    | some p =>
      rw [ho] at hl
      exact State.Ledger.abandonPage h.part hl
  generalize c.openPage.elim s (fun p => s.setPage p.record none) = u at hpart hiu hdoc hl' ⊢
  have e0 : u.document 0 = s.document 0 := by simp only [State.document, hdoc]
  refine ⟨hpart, close _ ((State.Elsewhere.of_eq hiu hdoc).setContext none) (fun hn => ?_) (fun c hc => ?_) ?_ ?_⟩
  · simp at hn
  · simp at hc
  · rw [State.document_setContext, e0]
    exact h.stored.free 0
  · rw [State.context_setContext_same, State.document_setContext, e0]
    refine State.Ledger.congr (s := u) ?_ rfl rfl rfl rfl rfl
    simpa [openPageOf, reservationOf] using hl'

theorem State.Scanned.scanFirstContexts (h : s.Scanned) (k : Nat) : (s.scanFirstContexts k).Scanned :=
  List.foldl_keeps (P := State.Scanned) State.scanContext (fun _ n hu => State.Scanned.scanContext hu n) _ h

theorem mem_orderByKey (key : Nat → Nat) (m : Nat) (l : List Nat) : m ∈ orderByKey key l ↔ m ∈ l := by
  have insert (a : Nat) (l : List Nat) : m ∈ insertByKey key a l ↔ m = a ∨ m ∈ l := by
    induction l with
    | nil => simp [insertByKey]
    | cons b l ih =>
      unfold insertByKey
      split
      · simp
      · rw [List.mem_cons, ih, List.mem_cons]
        tauto
  induction l with
  | nil => exact .rfl
  | cons a l ih => rw [orderByKey, insert, List.mem_cons, or_congr_right ih]

/-- Stage 3 frees a context and leaves the others. -/
theorem State.context_scanContext (s : State) (n m : Nat) : (s.scanContext n).context m = if m = n then none else s.context m := by
  unfold State.scanContext
  split
  · rename_i hc
    split
    · rename_i e
      rw [e, hc]
    · rfl
  · rename_i c hc
    have h := (State.traffic_finishDocument ((c.openPage.elim s (fun p => s.setPage p.record none)).setContext n none)
      c.handle.index true).iu
    have hiu : (c.openPage.elim s (fun p => s.setPage p.record none)).context m = s.context m := by cases c.openPage <;> rfl
    simp only [State.context, h]
    rw [← State.context, State.context_setContext, hiu]
    rfl

/-- After stage 3 every context is free (R45). -/
theorem State.Scanned.contexts_scanned (h : s.Scanned) : ∀ m,
    (s.scanFirstContexts (s.receptionsWhere (fun _ => true)).length).context m = none := by
  have fold (l : List Nat) (u : State) (m : Nat) : (l.foldl State.scanContext u).context m
      = if m ∈ l then none else u.context m := by
    induction l generalizing u with
    | nil => simp
    | cons a l ih =>
      rw [List.foldl_cons, ih, State.context_scanContext]
      by_cases h1 : m ∈ l
      · simp [h1]
      · simp [h1]
  intro m
  unfold State.scanFirstContexts
  rw [List.take_length, fold]
  split
  · rfl
  · rename_i hm
    by_contra hn
    refine hm ((mem_orderByKey _ _ _).2 (List.mem_filter.2 ⟨?_, ?_⟩))
    · exact List.mem_range.2 (h.stored.numbers m hn)
    · simpa [Option.isSome_iff_ne_none] using hn

/-- The pages of documents that are not FREE are the pages of documents. -/
theorem State.Stored.listedPages (h : s.Stored) : s.listedPages = s.pagesOfDocuments := by
  have key : ∀ l : List (Nat × Document), (∀ c ∈ l, c.2.state = .free → c.2.pages = []) →
      (l.filter (fun c => decide (c.2.state ≠ .free))).flatMap (fun c => c.2.pages) = l.flatMap (fun c => c.2.pages) := by
    intro l hl
    induction l with
    | nil => rfl
    | cons c l ih =>
      have ih := ih (fun c hc => hl c (List.mem_cons_of_mem _ hc))
      by_cases hs : c.2.state = .free
      · rw [List.filter_cons_of_neg (by simpa using hs), List.flatMap_cons, hl c List.mem_cons_self hs, ih, List.nil_append]
      · rw [List.filter_cons_of_pos (by simpa using hs), List.flatMap_cons, List.flatMap_cons, ih]
  refine key _ (fun c hc hs => ?_)
  have e : s.document c.1 = c.2 := h.documents.read_of_mem hc
  rw [← e] at hs ⊢
  exact h.free c.1 hs

/-- A table keeps what it reads at the numbers a filter leaves. -/
theorem readCells_filter {α : Type} (d : α) (q : Nat × α → Bool) (i : Nat) (cells : List (Nat × α)) (h : ∀ v, q (i, v) = true) :
    readCells d (cells.filter q) i = readCells d cells i := by
  induction cells with
  | nil => rfl
  | cons c cells ih =>
    obtain ⟨k, v⟩ := c
    by_cases hq : q (k, v) = true
    · rw [List.filter_cons_of_pos hq]
      unfold readCells
      split
      · rfl
      · exact ih
    · rw [List.filter_cons_of_neg hq, ih]
      have hne : i ≠ k := by
        rintro rfl
        exact hq (h v)
      conv_rhs => unfold readCells
      simp [hne]

/-- Stages 1 to 3 leave a sound store without receptions. -/
structure State.Cleared (s : State) : Prop where
  scanned : s.Scanned
  contexts : s.iu.contexts.cells = []

theorem State.Scanned.scanContexts (h : s.Scanned) : s.scanContexts.Cleared := by
  have h1 := h.scanFirstContexts (s.receptionsWhere (fun _ => true)).length
  have h2 := h.contexts_scanned
  unfold State.scanContexts
  generalize s.scanFirstContexts (s.receptionsWhere (fun _ => true)).length = u at h1 h2 ⊢
  have h3 : u.choiceMade.Scanned := h1.outside rfl rfl rfl rfl
  have h4 : u.choiceMade.iu.contexts.cells = [] := by
    refine List.eq_nil_iff_forall_not_mem.2 (fun c hc => ?_)
    exact (h1.stored.contexts.mem_iff.1 hc).2 ((h1.stored.contexts.mem_iff.1 hc).1.symm.trans (h2 c.1))
  generalize u.choiceMade = v at h3 h4 ⊢
  have hpage : ∀ q ∈ v.pagesOfDocuments, v.scanPages.page q = v.page q := by
    intro q hq
    refine readCells_filter none _ q v.dt.pages.cells (fun x => ?_)
    rw [h3.stored.listedPages]
    simpa using hq
  have hopen : v.openPages = [] := by simp [State.openPages, h4]
  have hl : v.scanPages.Ledger v.openPages v.pagesOfDocuments v.reservations :=
    h3.stored.books.withReserved (t := v.scanPages) rfl rfl rfl (fun q hq => hpage q (by simpa [hopen] using hq))
      (fun e => absurd h3.part e)
  exact ⟨⟨h3.part, h3.stored.contexts, h3.stored.documents, h3.stored.numbers, h3.stored.between, h3.stored.free, hl⟩, h4⟩

/-- The stack rebuilt has every block not in use, ascending (R18). -/
theorem Bsm.stack_rebuild (b : Bsm) (l : List Block) :
    (b.rebuild l).stack = (List.range 131072).filter (fun n => decide (n ∉ l.map Fin.val)) := by
  have maxle (l : List Block) (k : Nat) : k ≤ (l.map (fun x => x.val + 1)).foldl max k
      ∧ (∀ x ∈ l, x.val + 1 ≤ (l.map (fun x => x.val + 1)).foldl max k)
      ∧ (k ≤ 131072 → (l.map (fun x => x.val + 1)).foldl max k ≤ 131072) := by
    induction l generalizing k with
    | nil => simp
    | cons a l ih =>
      obtain ⟨h1, h2, h3⟩ := ih (max k (a.val + 1))
      have ha := a.isLt
      refine ⟨by simp only [List.map_cons, List.foldl_cons]; omega, fun x hx => ?_, fun hk => h3 (by omega)⟩
      rcases List.mem_cons.1 hx with rfl | hx
      · simp only [List.map_cons, List.foldl_cons]
        omega
      · exact h2 x hx
  obtain ⟨-, hlt, hle⟩ := maxle l 0
  have hle := hle (by omega)
  unfold Bsm.rebuild Bsm.stack
  dsimp only
  generalize (l.map (fun x => x.val + 1)).foldl max 0 = m at hlt hle ⊢
  have hsplit : List.range 131072 = List.range m ++ List.range' m (131072 - m) := by
    have := List.range'_append (s := 0) (m := m) (n := 131072 - m) (step := 1)
    rw [Nat.one_mul, Nat.zero_add, Nat.add_sub_cancel' hle] at this
    rw [List.range_eq_range', List.range_eq_range', this]
  have hlow : ∀ k, k ≤ 131072 → ((List.range k).filterMap (fun n => if h : n < 131072 then
      (if l.contains (⟨n, h⟩ : Block) then none else some (⟨n, h⟩ : Block)) else none)).map Fin.val
        = (List.range k).filter (fun n => decide (n ∉ l.map Fin.val)) := by
    intro k hk
    rw [List.map_filterMap, ← List.filterMap_eq_filter]
    refine List.filterMap_congr (fun n hn => ?_)
    have hn : n < 131072 := lt_of_lt_of_le (List.mem_range.1 hn) hk
    have hmem : (⟨n, hn⟩ : Block) ∈ l ↔ n ∈ l.map Fin.val := by
      constructor
      · exact fun hm => List.mem_map.2 ⟨_, hm, rfl⟩
      · intro hm
        obtain ⟨x, hx, rfl⟩ := List.mem_map.1 hm
        exact hx
    by_cases hc : n ∈ l.map Fin.val
    · simp [hn, hmem.2 hc, hc, Option.guard]
    · have : (⟨n, hn⟩ : Block) ∉ l := fun h => hc (hmem.1 h)
      simp [hn, this, hc, Option.guard]
  have hhigh : (List.range' m (131072 - m)).filter (fun n => decide (n ∉ l.map Fin.val)) = List.range' m (131072 - m) := by
    refine List.filter_eq_self.2 (fun n hn => ?_)
    have hn := (List.mem_range'_1.1 hn).1
    simp only [decide_eq_true_eq]
    intro hm
    obtain ⟨x, hx, rfl⟩ := List.mem_map.1 hm
    have := hlt x hx
    omega
  rw [hsplit, List.filter_append, hhigh, hlow m hle]
  rfl

/-- Stages 4 and 5 restore all promises of the store (R18). -/
theorem State.Cleared.scanStack (h : s.Cleared) : State.Stored { s.scanStack with part := .ready } := by
  obtain ⟨⟨-, h⟩, hc⟩ := h
  have hopen : s.openPages = [] := by simp [State.openPages, hc]
  have hres : s.reservations = 0 := by simp [State.reservations, hc]
  have hblocks : s.committedBlocks = s.pagesOfDocuments.flatMap s.pageChain := by rw [State.committedBlocks, h.listedPages]
  set t : State := { s.scanStack with part := .ready } with ht
  have hchain : t.pageChain = s.pageChain := by
    funext q
    simp only [State.pageChain]
    have : t.page q = s.page q := rfl
    rw [this]
    cases s.page q with
    | none => rfl
    | some r => exact Bsm.chain_links (b := s.bsm) (c := t.bsm) rfl _ _
  have hplaces : t.placesOf s.openPages s.pagesOfDocuments
      = (List.range 131072).filter (fun n => decide (n ∉ s.committedBlocks.map Fin.val)) ++ s.committedBlocks.map Fin.val := by
    have : t.bsm.stack = (List.range 131072).filter (fun n => decide (n ∉ s.committedBlocks.map Fin.val)) := Bsm.stack_rebuild _ _
    simp only [State.placesOf, hopen, List.flatMap_nil, List.nil_append]
    rw [this, hchain, hblocks]
  have honce : (s.committedBlocks.map Fin.val).Nodup := by
    have := h.books.once
    simp only [State.placesOf, hopen, List.flatMap_nil, List.nil_append] at this
    rw [hblocks]
    exact (List.nodup_append.1 this).2.1
  have hnodup : ((List.range 131072).filter (fun n => decide (n ∉ s.committedBlocks.map Fin.val))
      ++ s.committedBlocks.map Fin.val).Nodup := by
    refine List.nodup_append.2 ⟨List.nodup_range.filter _, honce, fun a ha b hb e => ?_⟩
    subst e
    have := (List.mem_filter.1 ha).2
    simp only [decide_eq_true_eq] at this
    exact this hb
  refine ⟨h.contexts, h.documents, h.numbers, h.between, h.free, h.books.pages, h.books.used, ?_, ?_, fun _ => ?_, fun _ => ?_⟩
  · intro p hp
    have : p ∈ s.openPages := hp
    simp [hopen] at this
  · show (t.placesOf s.openPages s.pagesOfDocuments).Nodup
    rw [hplaces]
    exact hnodup
  · show (t.placesOf s.openPages s.pagesOfDocuments).Perm _
    rw [hplaces]
    refine (List.perm_ext_iff_of_nodup hnodup List.nodup_range).2 (fun a => ?_)
    rw [List.mem_append, List.mem_filter, decide_eq_true_eq]
    by_cases ha : a ∈ s.committedBlocks.map Fin.val
    · obtain ⟨x, -, rfl⟩ := List.mem_map.1 ha
      simp [ha]
    · simp only [ha, not_false_eq_true, and_true, or_false]
  · show (0 : Nat) = s.reservations ∧ 0 ≤ t.bsm.free
    rw [hres]
    exact ⟨rfl, Nat.zero_le _⟩

/-- Stage 6 changes a hold cause and sends notices. -/
theorem State.Stored.scanHold (h : State.Stored { s with part := .ready }) : State.Stored { s.scanHold with part := .ready } := by
  have k := (State.notices_announceHeld { s with bsm := { s.bsm with storeHold := s.bsm.storeTest } } s.heldAtLeave).rest
  have e : s.scanHold = _ := k
  rw [e]
  exact h.aside rfl rfl rfl rfl rfl rfl rfl

theorem State.Scanned.scanReservation (h : s.Scanned) : s.scanReservation.Stored := h.stored.toRecovering h.part rfl rfl rfl rfl

theorem State.Scanned.cleared (h : s.Scanned) : s.scanStations.scanEngine.scanContexts.Cleared := h.scanStations.scanEngine.scanContexts

theorem State.Scanned.whole (h : s.Scanned) :
    State.Stored { s.scanStations.scanEngine.scanContexts.scanStack.scanHold with part := .ready } := h.cleared.scanStack.scanHold

/-- The state of a scan that is broken off is sound once the part is RECOVERING again (R197). -/
theorem State.Scanned.scanUpTo (h : s.Scanned) (x : Config.ScanPoint) : (s.scanUpTo x).Stored ∨
    State.Stored { s.scanUpTo x with part := .ready } := by
  cases x with
  | notBegun => exact .inl h.stored
  | stations => exact .inl h.scanStations.stored
  | engine => exact .inl h.scanStations.scanEngine.stored
  | contexts k => exact .inl (h.scanStations.scanEngine.scanFirstContexts k).stored
  | pages => exact .inl h.cleared.scanned.stored
  | reservation => exact .inl h.cleared.scanned.scanReservation
  | stack => exact .inr h.cleared.scanStack
  | hold => exact .inr h.whole
  | purges k => exact .inl (h.whole.traffic (State.traffic_scanFirstPurges _ k))
  | releases k =>
    exact .inl (h.whole.traffic ((State.traffic_scanFirstPurges _ _).trans (State.traffic_scanFirstReleases _ k)))

theorem State.stored_reset : State.reset.Stored := by
  have hstack : State.reset.bsm.stack = List.range 131072 := by
    rw [List.range_eq_range']
    rfl
  have hplaces : State.reset.placesOf [] [] = List.range 131072 := by
    simp only [State.placesOf, hstack, List.flatMap_nil, List.map_nil, List.append_nil]
  have hperm : (State.reset.placesOf [] []).Perm (List.range 131072) := .of_eq hplaces
  have hnodup : (State.reset.placesOf [] []).Nodup := hperm.nodup_iff.2 List.nodup_range
  exact ⟨Table.empty_wf _, Table.empty_wf _, fun n hn => absurd rfl hn, fun n c hc => (by cases hc), fun _ _ => rfl,
    List.nodup_nil, fun q hq => (List.not_mem_nil hq).elim, fun p hp => (List.not_mem_nil hp).elim, hnodup, fun _ => hperm,
    fun _ => ⟨rfl, Nat.zero_le _⟩⟩

/-! ## Every event -/

theorem State.Stored.event (h : s.Stored) (k : s.Event t) : t.Stored := by
  have reset {u : State} (part : u.part ≠ .recovering) (bsm : u.bsm = State.reset.bsm) (iu : u.iu = State.reset.iu)
      (dt : u.dt = State.reset.dt) : u.Stored := by
    have k : State.Stored { State.reset with part := u.part } :=
      ⟨State.stored_reset.contexts, State.stored_reset.documents, State.stored_reset.numbers, State.stored_reset.between,
        State.stored_reset.free, State.stored_reset.books.pages, State.stored_reset.books.used, State.stored_reset.books.chains,
        State.stored_reset.books.once, fun _ => State.stored_reset.books.all (by decide),
        fun _ => State.stored_reset.books.reserved (by decide)⟩
    exact k.outside rfl bsm iu dt
  cases k with
  | same => exact h
  | poweredOn => exact reset (fun e => by cases e) rfl rfl rfl
  | started _ => exact reset (fun e => by cases e) rfl rfl rfl
  | left _ => exact h.toRecovering rfl rfl rfl rfl rfl
  | broken hp =>
    unfold State.scanBroken
    rcases State.Scanned.scanUpTo ⟨hp, h⟩ (Config.scanReached s.choice) with k | k
    · exact k.toRecovering rfl rfl rfl rfl rfl
    · exact k.toRecovering rfl rfl rfl rfl rfl
  | scanned hp => exact (State.Scanned.whole ⟨hp, h⟩).traffic (State.traffic_scanRelease _)
  | ticked => exact h.outside rfl rfl rfl rfl
  | idle n c _ hc => exact (h.endReception hc true).notices (State.notices_send _ _ _ _)
  | holdExpired i p e _ _ => exact h.traffic ((s.traffic_sendExpired i p e).trans (State.traffic_comeBack _ i p e 2))
  | released i => exact h.traffic (s.traffic_releaseTest i)
  | answered a => exact h.outside rfl rfl rfl rfl
  | accessed slot st a _ _ => exact h.outside rfl rfl rfl rfl
  | reset slot a _ _ => exact (h.stationReset slot false).answering a
  | granted q _ _ =>
    exact State.Stored.engine (s := { s with te := { s.te with request := none } }) (h.outside rfl rfl rfl rfl)
      (State.engine_grantBurst _ _)
  | completed words => exact h.burstEnd _ (fun s j b => s.engine_burstDone j b words)
  | retried => exact h.burstEnd _ (fun s j _ => ⟨0, [], .ite _ (s.engine_endJob _ _) .refl⟩)
  | failed => exact h.burstEnd _ (fun s j _ => ⟨0, [], s.engine_endJob _ _⟩)

end Rules

/-- Every step keeps the store sound. -/
theorem State.Stored.step {s t : State} (h : s.Stored) (k : step s = .next t) : t.Stored := by
  rcases step_cases s k with rfl | ⟨rest, he | ⟨slot, ht⟩⟩
  · exact h
  · exact State.Stored.event (s := { s with pending := rest }) (h.outside rfl rfl rfl rfl) he
  · exact State.Stored.taking (s := { s with pending := rest }) (h.outside rfl rfl rfl rfl) ht

end Sys2Proof.Machine
end

-- ==== Proofs: the queues ====
section
/-!
SUPPORT. The queues in the middle of an operation: an entry taken out of its list is in hand until it joins another or settles, the
states the entries may have are those the operation has brought about so far, and a DRAINING destination whose checkout list has
just become empty is not closed yet. One rule per state operation, with what it does to these.
-/

namespace Sys2Proof.Machine

open Relation (ReflTransGen)

/-- An entry in this state is in a list: QUEUED or CHECKED_OUT (R111, R125). -/
def EntryState.Listed (st : EntryState) : Prop := st = .queued ∨ st = .checkedOut

/-- The queue of one class (R111). -/
def Destination.ofClass (d : Destination) : Priority → List QueueItem
  | .urgent => d.urgent
  | .normal => d.normal

theorem Destination.mem_queue {d : Destination} {x : QueueItem} : x ∈ d.queue ↔ ∃ c, x ∈ d.ofClass c := by
  rw [Destination.queue, List.mem_append]
  constructor
  · rintro (h | h)
    · exact ⟨.urgent, h⟩
    · exact ⟨.normal, h⟩
  · rintro ⟨c, h⟩
    cases c with
    | urgent => exact .inl h
    | normal => exact .inr h

theorem Destination.ofClass_congr {d x : Destination} (hu : x.urgent = d.urgent) (hn : x.normal = d.normal) (c : Priority) :
    x.ofClass c = d.ofClass c := by
  cases c with
  | urgent => exact hu
  | normal => exact hn

theorem Destination.mem_ofClass {d x : Destination} {c : Priority} {y : QueueItem} (hu : x.urgent = d.urgent)
    (hn : x.normal = d.normal) : y ∈ x.ofClass c ↔ y ∈ d.ofClass c := by rw [Destination.ofClass_congr hu hn]

/-- What an entry's state may be: of document `i` at position `p`, in a document of a state. -/
abbrev Allowed := Nat → Nat → EntryState → DocState → Prop

/-- The states `QueuesSound` allows. -/
def plain : Allowed := fun _ _ st ds => st.allowedIn ds

/-- The queues are sound but for what an operation has in hand: the positions `hand` are in no list, the entries' states are those
`ok` allows, and destination `drained` may be DRAINING without a checkout. -/
structure State.Queues (s : State) (hand : List (Nat × Nat)) (ok : Allowed) (drained : Option Nat) : Prop where
  receptions : ∀ n c, s.context n = some c →
    (s.document c.handle.index).state = .receiving ∧ (s.document c.handle.index).generation = c.handle.generation
  apart : ∀ n m c c', s.context n = some c → s.context m = some c' → c.handle.index = c'.handle.index → n = m
  numbered : ∀ i p e, (s.document i).entry p = some e → 1 ≤ p ∧ p ≤ 8
  states : ∀ i p e, (s.document i).entry p = some e → ok i p e.state (s.document i).state
  distinct : ∀ i p q e f, (s.document i).entry p = some e → (s.document i).entry q = some f → e.destination = f.destination →
    p = q
  queued : ∀ c d i g p, ⟨⟨i, g⟩, p⟩ ∈ (s.destination d).ofClass c ↔
    (i, p) ∉ hand ∧ (s.document i).priority = c ∧ s.HasEntry d i g p (fun e => e.state = .queued)
  once : ∀ d, (s.destination d).queue.Nodup
  checkouts : ∀ d i g p k, (∃ slot, ⟨⟨i, g⟩, p, slot, k⟩ ∈ (s.destination d).checkouts) ↔
    (i, p) ∉ hand ∧ s.HasEntry d i g p (fun e => e.state = .checkedOut ∧ e.ticket = k)
  checkedOutOnce : ∀ d, ((s.destination d).checkouts.map (fun x => (x.handle, x.position))).Nodup
  closed : ∀ d, (s.destination d).state = .closed → (s.destination d).queue = [] ∧ (s.destination d).checkouts = []
  draining : ∀ d, (s.destination d).state = .draining →
    (s.destination d).queue = [] ∧ ((s.destination d).checkouts ≠ [] ∨ drained = some d)

theorem State.queuesSound_iff (s : State) : s.QueuesSound ↔ s.Queues [] plain none := by
  constructor
  · rintro ⟨h1, h2, h3, h4, h5, h6, h7, h8, h9, h10, h11⟩
    refine ⟨h1, h2, fun i p e he => ⟨(h3 i p e he).1, (h3 i p e he).2.1⟩, fun i p e he => (h3 i p e he).2.2, h4, fun c d i g p => ?_, h7,
      fun d i g p k => ?_, h9, h10, fun d hd => ⟨(h11 d hd).1, .inl (h11 d hd).2⟩⟩
    · cases c with
      | urgent => simpa [Destination.ofClass] using h5 d i g p
      | normal => simpa [Destination.ofClass] using h6 d i g p
    · simpa using h8 d i g p k
  · rintro ⟨h1, h2, h3, h4, h5, h6, h7, h8, h9, h10, h11⟩
    refine ⟨h1, h2, fun i p e he => ⟨(h3 i p e he).1, (h3 i p e he).2, h4 i p e he⟩, h5, fun d i g p => ?_, fun d i g p => ?_, h7,
      fun d i g p k => ?_, h9, h10, fun d hd => ⟨(h11 d hd).1, (h11 d hd).2.resolve_right (by simp)⟩⟩
    · simpa [Destination.ofClass] using h6 .urgent d i g p
    · simpa [Destination.ofClass] using h6 .normal d i g p
    · simpa using h8 d i g p k

section Rules

variable {s t : State} {hand : List (Nat × Nat)} {ok : Allowed} {drained : Option Nat} {i p : Nat} {e : Entry}

/-- The queues are the contexts, the documents and the destinations. -/
theorem State.Queues.congr (h : s.Queues hand ok drained) (hc : ∀ n, t.context n = s.context n)
    (hd : ∀ i, t.document i = s.document i) (hx : ∀ d, t.destination d = s.destination d) : t.Queues hand ok drained := by
  obtain ⟨h1, h2, h3, h4, h5, h6, h7, h8, h9, h10, h11⟩ := h
  have hh (d i g p : Nat) (test : Entry → Prop) : t.HasEntry d i g p test ↔ s.HasEntry d i g p test := by
    simp only [State.HasEntry, hd]
  refine ⟨?_, ?_, ?_, ?_, ?_, ?_, ?_, ?_, ?_, ?_, ?_⟩
  · simpa only [hc, hd] using h1
  · simpa only [hc] using h2
  · simpa only [hd] using h3
  · simpa only [hd] using h4
  · simpa only [hd] using h5
  · simpa only [hx, hd, hh] using h6
  · simpa only [hx] using h7
  · simpa only [hx, hh] using h8
  · simpa only [hx] using h9
  · simpa only [hx] using h10
  · simpa only [hx] using h11

/-- What is outside contexts, documents and destinations. -/
theorem State.Queues.outside (h : s.Queues hand ok drained) (iu : t.iu = s.iu) (dt : t.dt.documents = s.dt.documents)
    (dqu : t.dqu = s.dqu) : t.Queues hand ok drained :=
  h.congr (fun _ => by simp only [State.context, iu]) (fun _ => by simp only [State.document, dt])
    (fun _ => by simp only [State.destination, dqu])

theorem State.Queues.notices (h : s.Queues hand ok drained) (k : s.Notices t) : t.Queues hand ok drained := by
  rw [k.rest]
  exact h.outside rfl rfl rfl

theorem State.Queues.send (h : s.Queues hand ok drained) (kind : Status) (ws : List Word) (ns : List Nat) :
    (s.send kind ws ns).Queues hand ok drained := h.notices (s.notices_send kind ws ns)

theorem State.Queues.allow (h : s.Queues hand ok drained) {ok' : Allowed}
    (ho : ∀ i p e, (s.document i).entry p = some e → ok i p e.state (s.document i).state → ok' i p e.state (s.document i).state) :
    s.Queues hand ok' drained :=
  ⟨h.receptions, h.apart, h.numbered, fun i p e he => ho i p e he (h.states i p e he), h.distinct, h.queued, h.once, h.checkouts,
    h.checkedOutOnce, h.closed, h.draining⟩

/-- The hand may differ where the entries are in no list. -/
theorem State.Queues.rehand (h : s.Queues hand ok drained) {hand' : List (Nat × Nat)}
    (hh : ∀ i p e, (s.document i).entry p = some e → e.state.Listed → ((i, p) ∈ hand' ↔ (i, p) ∈ hand)) :
    s.Queues hand' ok drained := by
  refine ⟨h.receptions, h.apart, h.numbered, h.states, h.distinct, fun c d i g p => ?_, h.once, fun d i g p k => ?_,
    h.checkedOutOnce, h.closed, h.draining⟩
  · rw [h.queued]
    constructor
    · rintro ⟨h1, h2, hg, e, he, hd, hs⟩
      exact ⟨fun hm => h1 ((hh i p e he (.inl hs)).1 hm), h2, hg, e, he, hd, hs⟩
    · rintro ⟨h1, h2, hg, e, he, hd, hs⟩
      exact ⟨fun hm => h1 ((hh i p e he (.inl hs)).2 hm), h2, hg, e, he, hd, hs⟩
  · rw [h.checkouts]
    constructor
    · rintro ⟨h1, hg, e, he, hd, hs⟩
      exact ⟨fun hm => h1 ((hh i p e he (.inr hs.1)).1 hm), hg, e, he, hd, hs⟩
    · rintro ⟨h1, hg, e, he, hd, hs⟩
      exact ⟨fun hm => h1 ((hh i p e he (.inr hs.1)).2 hm), hg, e, he, hd, hs⟩

/-- An entry in no list is taken in hand. -/
theorem State.Queues.hide (h : s.Queues hand ok drained) (i p : Nat)
    (hl : ∀ e, (s.document i).entry p = some e → ¬ e.state.Listed) : s.Queues ((i, p) :: hand) ok drained := by
  refine h.rehand (fun j q e he hs => ?_)
  rw [List.mem_cons, or_iff_right]
  intro hjq
  obtain ⟨rfl, rfl⟩ := Prod.mk.inj hjq
  exact hl e he hs

/-- An entry that belongs in no list is out of hand. -/
theorem State.Queues.drop (h : s.Queues ((i, p) :: hand) ok drained)
    (hl : ∀ e, (s.document i).entry p = some e → ¬ e.state.Listed) : s.Queues hand ok drained := by
  refine h.rehand (fun j q e he hs => ?_)
  rw [List.mem_cons, or_iff_right]
  intro hjq
  obtain ⟨rfl, rfl⟩ := Prod.mk.inj hjq
  exact hl e he hs

/-! ## What the lists tell -/

theorem State.Queues.of_mem_queue (h : s.Queues hand ok drained) {d : Nat} {x : QueueItem} (hx : x ∈ (s.destination d).queue) :
    (x.handle.index, x.position) ∉ hand ∧ x.handle.generation = (s.document x.handle.index).generation
      ∧ ∃ e, (s.document x.handle.index).entry x.position = some e ∧ e.destination = d ∧ e.state = .queued := by
  obtain ⟨c, hc⟩ := Destination.mem_queue.1 hx
  obtain ⟨h1, -, hg, he⟩ := (h.queued c d x.handle.index x.handle.generation x.position).1 hc
  exact ⟨h1, hg, he⟩

theorem State.Queues.of_mem_checkouts (h : s.Queues hand ok drained) {d : Nat} {x : Checkout}
    (hx : x ∈ (s.destination d).checkouts) : (x.handle.index, x.position) ∉ hand
      ∧ x.handle.generation = (s.document x.handle.index).generation
      ∧ ∃ e, (s.document x.handle.index).entry x.position = some e ∧ e.destination = d ∧ e.state = .checkedOut ∧ e.ticket = x.ticket := by
  obtain ⟨h1, hg, he⟩ := (h.checkouts d x.handle.index x.handle.generation x.position x.ticket).1 ⟨x.takingSlot, hx⟩
  exact ⟨h1, hg, he⟩

/-! ## One destination is written -/

/-- A destination is written with lists that fit the entries, the hand changing at most where this destination's entries are. -/
theorem State.Queues.setDestination (h : s.Queues hand ok drained) {n : Nat} {x : Destination} {hand' : List (Nat × Nat)}
    {drained' : Option Nat}
    (queued : ∀ c i g p, ⟨⟨i, g⟩, p⟩ ∈ x.ofClass c ↔
      (i, p) ∉ hand' ∧ (s.document i).priority = c ∧ s.HasEntry n i g p (fun e => e.state = .queued))
    (checkouts : ∀ i g p k, (∃ slot, ⟨⟨i, g⟩, p, slot, k⟩ ∈ x.checkouts) ↔
      (i, p) ∉ hand' ∧ s.HasEntry n i g p (fun e => e.state = .checkedOut ∧ e.ticket = k))
    (others : ∀ i p e, (s.document i).entry p = some e → e.destination ≠ n → e.state.Listed → ((i, p) ∈ hand' ↔ (i, p) ∈ hand))
    (once : x.queue.Nodup) (checkedOutOnce : (x.checkouts.map (fun x => (x.handle, x.position))).Nodup)
    (closed : x.state = .closed → x.queue = [] ∧ x.checkouts = [])
    (draining : x.state = .draining → x.queue = [] ∧ (x.checkouts ≠ [] ∨ drained' = some n))
    (stays : ∀ d, d ≠ n → drained = some d → drained' = some d) :
    (s.setDestination n x).Queues hand' ok drained' := by
  have hx (d : Nat) : (s.setDestination n x).destination d = if d = n then x else s.destination d := s.destination_setDestination n d x
  refine ⟨h.receptions, h.apart, h.numbered, h.states, h.distinct, fun c d i g p => ?_, fun d => ?_, fun d i g p k => ?_, fun d => ?_,
    fun d => ?_, fun d => ?_⟩
  · rw [hx]
    split
    · rename_i hd
      subst hd
      exact queued c i g p
    · rename_i hd
      rw [h.queued]
      constructor
      · rintro ⟨h1, h2, hg, e, he, hed, hs⟩
        exact ⟨fun hm => h1 ((others i p e he (hed ▸ hd) (.inl hs)).1 hm), h2, hg, e, he, hed, hs⟩
      · rintro ⟨h1, h2, hg, e, he, hed, hs⟩
        exact ⟨fun hm => h1 ((others i p e he (hed ▸ hd) (.inl hs)).2 hm), h2, hg, e, he, hed, hs⟩
  · rw [hx]
    split
    · exact once
    · exact h.once d
  · rw [hx]
    split
    · rename_i hd
      subst hd
      exact checkouts i g p k
    · rename_i hd
      rw [h.checkouts]
      constructor
      · rintro ⟨h1, hg, e, he, hed, hs⟩
        exact ⟨fun hm => h1 ((others i p e he (hed ▸ hd) (.inr hs.1)).1 hm), hg, e, he, hed, hs⟩
      · rintro ⟨h1, hg, e, he, hed, hs⟩
        exact ⟨fun hm => h1 ((others i p e he (hed ▸ hd) (.inr hs.1)).2 hm), hg, e, he, hed, hs⟩
  · rw [hx]
    split
    · exact checkedOutOnce
    · exact h.checkedOutOnce d
  · rw [hx]
    split
    · exact closed
    · exact h.closed d
  · rw [hx]
    split
    · rename_i hd
      subst hd
      exact draining
    · rename_i hd
      exact fun hs => ⟨(h.draining d hs).1, (h.draining d hs).2.imp_right (stays d hd)⟩

/-- A destination changes, and neither its lists nor whether it accepts new work; or it accepts from now on. -/
theorem State.Queues.sameLists (h : s.Queues hand ok drained) {n : Nat} {x : Destination} (hu : x.urgent = (s.destination n).urgent)
    (hn : x.normal = (s.destination n).normal) (hk : x.checkouts = (s.destination n).checkouts)
    (hs : x.accepting = true ∨ x.state = (s.destination n).state) : (s.setDestination n x).Queues hand ok drained := by
  have hq : x.queue = (s.destination n).queue := by simp only [Destination.queue, hu, hn]
  have hc (c : Priority) : x.ofClass c = (s.destination n).ofClass c := Destination.ofClass_congr hu hn c
  have st (q : DestState) (hne : q ≠ .opened ∧ q ≠ .paused) (hx : x.state = q) : (s.destination n).state = q := by
    rcases hs with ha | ha
    · rw [Destination.accepting, hx] at ha
      cases q <;> simp at ha hne
    · exact ha.symm.trans hx
  refine h.setDestination (fun c i g p => by rw [hc]; exact h.queued c n i g p) (fun i g p k => by rw [hk]; exact h.checkouts n i g p k)
    (fun _ _ _ _ _ _ => .rfl) (by rw [hq]; exact h.once n) (by rw [hk]; exact h.checkedOutOnce n)
    (fun hx => ?_) (fun hx => ?_) (fun _ _ => id)
  · rw [hq, hk]
    exact h.closed n (st _ (by simp) hx)
  · rw [hq, hk]
    exact h.draining n (st _ (by simp) hx)

theorem State.Queues.changeDest (h : s.Queues hand ok drained) {n : Nat} {st : DestState} (hs : st = .opened ∨ st = .paused) :
    (s.changeDest n st).Queues hand ok drained := by
  have k : (s.setDestination n { s.destination n with state := st }).Queues hand ok drained := by
    refine h.sameLists rfl rfl rfl (.inl ?_)
    rcases hs with rfl | rfl <;> rfl
  unfold State.changeDest
  dsimp only
  split
  · exact k
  · exact k.send _ _ _

theorem State.Queues.signalWork (h : s.Queues hand ok drained) (n : Nat) : (s.signalWork n).Queues hand ok drained := by
  unfold State.signalWork
  dsimp only
  repeat' first | exact h | exact h.outside rfl rfl rfl | split

/-! ## Lists left and joined -/

theorem Destination.ofClass_filter (d : Destination) (q : QueueItem → Bool) (c : Priority) :
    ({ d with urgent := d.urgent.filter q, normal := d.normal.filter q } : Destination).ofClass c = (d.ofClass c).filter q := by
  cases c <;> rfl

/-- A QUEUED entry leaves its queue and is in hand (R112). -/
theorem State.Queues.leaveQueue (h : s.Queues hand ok drained) (he : (s.document i).entry p = some e) (hs : e.state = .queued) :
    (s.leaveQueue e.destination i p).Queues ((i, p) :: hand) ok drained := by
  unfold State.leaveQueue
  dsimp only
  have keep (j q : Nat) : (decide (¬ (j = i ∧ q = p)) = true) ↔ (j, q) ≠ (i, p) := by simp [imp_iff_not_or]
  have hempty : (s.destination e.destination).queue = [] → ({ s.destination e.destination with
      urgent := (s.destination e.destination).urgent.filter (fun x => decide (¬ (x.handle.index = i ∧ x.position = p)))
      normal := (s.destination e.destination).normal.filter (fun x => decide (¬ (x.handle.index = i ∧ x.position = p))) }
        : Destination).queue = [] := by
    intro hq
    obtain ⟨h1, h2⟩ := List.append_eq_nil_iff.1 hq
    simp [Destination.queue, h1, h2]
  refine h.setDestination (fun c j g q => ?_) (fun j g q k => ?_) (fun j q f hf hne hl => ?_) ?_ (h.checkedOutOnce _)
    (fun hc => ⟨hempty (h.closed _ hc).1, (h.closed _ hc).2⟩) (fun hc => ⟨hempty (h.draining _ hc).1, (h.draining _ hc).2⟩)
    (fun _ _ => id)
  · rw [Destination.ofClass_filter, List.mem_filter, h.queued, keep, List.mem_cons, not_or]
    tauto
  · rw [h.checkouts, List.mem_cons, not_or]
    constructor
    · rintro ⟨h1, hg, f, hf, hd, hc, hk⟩
      refine ⟨⟨fun hjq => ?_, h1⟩, hg, f, hf, hd, hc, hk⟩
      obtain ⟨rfl, rfl⟩ := Prod.mk.inj hjq
      obtain rfl := Option.some.inj (he.symm.trans hf)
      simp [hs] at hc
    · rintro ⟨⟨-, h1⟩, h2⟩
      exact ⟨h1, h2⟩
  · rw [List.mem_cons, or_iff_right]
    intro hjq
    obtain ⟨rfl, rfl⟩ := Prod.mk.inj hjq
    obtain rfl := Option.some.inj (he.symm.trans hf)
    exact hne rfl
  · have := h.once e.destination
    rw [Destination.queue, ← List.filter_append]
    exact this.filter _

/-- A CHECKED_OUT entry leaves its checkout list and is in hand (R125). -/
theorem State.Queues.leaveCheckouts (h : s.Queues hand ok none) (he : (s.document i).entry p = some e)
    (hs : e.state = .checkedOut) : (s.leaveCheckouts e.destination i p).Queues ((i, p) :: hand) ok (some e.destination) := by
  unfold State.leaveCheckouts
  dsimp only
  have keep (j q : Nat) : (decide (¬ (j = i ∧ q = p)) = true) ↔ (j, q) ≠ (i, p) := by simp [imp_iff_not_or]
  refine h.setDestination (fun c j g q => ?_) (fun j g q k => ?_) (fun j q f hf hne hl => ?_) (h.once _) ?_
    (fun hc => ⟨(h.closed _ hc).1, by simp [(h.closed _ hc).2]⟩) (fun hc => ⟨(h.draining _ hc).1, .inr rfl⟩)
    (fun _ _ hn => by simp at hn)
  · refine Iff.trans (Destination.mem_ofClass (d := s.destination e.destination) rfl rfl) ?_
    rw [h.queued, List.mem_cons, not_or]
    constructor
    · rintro ⟨h1, h2, hg, f, hf, hd, hq⟩
      refine ⟨⟨fun hjq => ?_, h1⟩, h2, hg, f, hf, hd, hq⟩
      obtain ⟨rfl, rfl⟩ := Prod.mk.inj hjq
      obtain rfl := Option.some.inj (he.symm.trans hf)
      simp [hs] at hq
    · rintro ⟨⟨-, h1⟩, h2⟩
      exact ⟨h1, h2⟩
  · have := h.checkouts e.destination j g q k
    simp only [List.mem_filter, keep, exists_and_right, this, List.mem_cons, not_or]
    tauto
  · rw [List.mem_cons, or_iff_right]
    intro hjq
    obtain ⟨rfl, rfl⟩ := Prod.mk.inj hjq
    obtain rfl := Option.some.inj (he.symm.trans hf)
    exact hne rfl
  · exact (h.checkedOutOnce e.destination).sublist ((List.filter_sublist).map _)

/-- A destination takes an item into its queue, at the end or at the head of a class. -/
structure Destination.Joins (d : Destination) (c : Priority) (x : QueueItem) (d' : Destination) : Prop where
  same : (d'.ofClass c).Perm (x :: d.ofClass c)
  others : ∀ c', c' ≠ c → d'.ofClass c' = d.ofClass c'
  queue : d'.queue.Perm (x :: d.queue)
  checkouts : d'.checkouts = d.checkouts
  state : d'.state = d.state

theorem Destination.joins_tail (d : Destination) (c : Priority) (x : QueueItem) : d.Joins c x (d.joinTail c x) := by
  have one (l : List QueueItem) : (l ++ [x]).Perm (x :: l) := (List.perm_append_comm).trans (by simp)
  cases c with
  | urgent =>
    refine ⟨one _, fun c' hc => ?_, (one d.urgent).append_right d.normal, rfl, rfl⟩
    cases c' with
    | urgent => exact absurd rfl hc
    | normal => rfl
  | normal =>
    refine ⟨one _, fun c' hc => ?_, ((one d.normal).append_left d.urgent).trans List.perm_middle, rfl, rfl⟩
    cases c' with
    | urgent => rfl
    | normal => exact absurd rfl hc

theorem Destination.joins_head (d : Destination) (c : Priority) (x : QueueItem) : d.Joins c x (d.joinHead c x) := by
  cases c with
  | urgent =>
    refine ⟨.refl _, fun c' hc => ?_, .refl _, rfl, rfl⟩
    cases c' with
    | urgent => exact absurd rfl hc
    | normal => rfl
  | normal =>
    refine ⟨.refl _, fun c' hc => ?_, List.perm_middle, rfl, rfl⟩
    cases c' with
    | urgent => rfl
    | normal => exact absurd rfl hc

/-- A QUEUED entry in hand joins the queue of its destination, which accepts it (R112). -/
theorem State.Queues.joined (h : s.Queues ((i, p) :: hand) ok drained) (hp : (i, p) ∉ hand) (he : (s.document i).entry p = some e)
    (hs : e.state = .queued) (ha : (s.destination e.destination).accepting = true) {d' : Destination}
    (hj : (s.destination e.destination).Joins (s.document i).priority ⟨s.handleOf i, p⟩ d') :
    (s.joined e.destination d').Queues hand ok drained := by
  have hnot : ∀ q, (s.destination e.destination).state = q → q ≠ .closed ∧ q ≠ .draining := by
    intro q hq
    rw [Destination.accepting, hq] at ha
    cases q <;> simp at ha ⊢
  have k : (s.setDestination e.destination d').Queues hand ok drained := by
    refine h.setDestination (fun c j g q => ?_) (fun j g q k => ?_) (fun j q f hf hne hl => ?_) ?_ ?_ (fun hc => ?_) (fun hc => ?_)
      (fun _ _ => id)
    · have hmem : (⟨⟨j, g⟩, q⟩ : QueueItem) ∈ d'.ofClass c ↔
          (c = (s.document i).priority ∧ (⟨⟨j, g⟩, q⟩ : QueueItem) = ⟨s.handleOf i, p⟩) ∨ (⟨⟨j, g⟩, q⟩ : QueueItem)
            ∈ (s.destination e.destination).ofClass c := by
        by_cases hc : c = (s.document i).priority
        · subst hc
          rw [hj.same.mem_iff, List.mem_cons]
          simp
        · rw [hj.others c hc]
          simp [hc]
      rw [hmem, h.queued, List.mem_cons, not_or]
      simp only [State.handleOf, QueueItem.mk.injEq, Handle.mk.injEq]
      constructor
      · rintro (⟨rfl, ⟨rfl, rfl⟩, rfl⟩ | ⟨⟨h1, h2⟩, h3⟩)
        · exact ⟨hp, rfl, rfl, e, he, rfl, hs⟩
        · exact ⟨h2, h3⟩
      · rintro ⟨h1, h2, hg, f, hf, hd, hq⟩
        by_cases hjq : (j, q) = (i, p)
        · obtain ⟨rfl, rfl⟩ := Prod.mk.inj hjq
          exact .inl ⟨h2.symm, ⟨rfl, hg⟩, rfl⟩
        · exact .inr ⟨⟨hjq, h1⟩, h2, hg, f, hf, hd, hq⟩
    · rw [hj.checkouts, h.checkouts, List.mem_cons, not_or]
      constructor
      · rintro ⟨⟨-, h1⟩, h2⟩
        exact ⟨h1, h2⟩
      · rintro ⟨h1, hg, f, hf, hd, hc, hk⟩
        refine ⟨⟨fun hjq => ?_, h1⟩, hg, f, hf, hd, hc, hk⟩
        obtain ⟨rfl, rfl⟩ := Prod.mk.inj hjq
        obtain rfl := Option.some.inj (he.symm.trans hf)
        simp [hs] at hc
    · rw [List.mem_cons]
      constructor
      · exact .inr
      · rintro (hjq | hm)
        · obtain ⟨rfl, rfl⟩ := Prod.mk.inj hjq
          obtain rfl := Option.some.inj (he.symm.trans hf)
          exact absurd rfl hne
        · exact hm
    · rw [hj.queue.nodup_iff, List.nodup_cons]
      refine ⟨fun hm => ?_, h.once _⟩
      exact (h.of_mem_queue hm).1 List.mem_cons_self
    · rw [hj.checkouts]
      exact h.checkedOutOnce _
    · exact absurd rfl (hnot _ (hj.state.symm.trans hc)).1
    · exact absurd rfl (hnot _ (hj.state.symm.trans hc)).2
  unfold State.joined
  dsimp only
  split
  · exact k.signalWork _
  · exact k

theorem State.Queues.joinTail (h : s.Queues ((i, p) :: hand) ok drained) (hp : (i, p) ∉ hand) (he : (s.document i).entry p = some e)
    (hs : e.state = .queued) (ha : (s.destination e.destination).accepting = true) :
    (s.joinTail e.destination i p).Queues hand ok drained := h.joined hp he hs ha (Destination.joins_tail _ _ _)

theorem State.Queues.joinHead (h : s.Queues ((i, p) :: hand) ok drained) (hp : (i, p) ∉ hand) (he : (s.document i).entry p = some e)
    (hs : e.state = .queued) (ha : (s.destination e.destination).accepting = true) :
    (s.joinHead e.destination i p).Queues hand ok drained := h.joined hp he hs ha (Destination.joins_head _ _ _)

/-- A CHECKED_OUT entry in hand joins the checkout list of its destination (R125). -/
theorem State.Queues.joinCheckouts (h : s.Queues ((i, p) :: hand) ok drained) (hp : (i, p) ∉ hand)
    (he : (s.document i).entry p = some e) (hs : e.state = .checkedOut)
    (hst : (s.destination e.destination).state ≠ .closed ∧ (s.destination e.destination).state ≠ .draining)
    (slot : Nat) : (s.joinCheckouts e.destination ⟨s.handleOf i, p, slot, e.ticket⟩).Queues hand ok drained := by
  have hnew : ∀ x ∈ (s.destination e.destination).checkouts, (x.handle, x.position) ≠ (s.handleOf i, p) := by
    intro x hx hxe
    obtain ⟨h1, h2⟩ := Prod.mk.inj hxe
    refine (h.of_mem_checkouts hx).1 ?_
    rw [h1, h2]
    exact List.mem_cons_self
  unfold State.joinCheckouts
  refine h.setDestination (fun c j g q => ?_) (fun j g q k => ?_) (fun j q f hf hne hl => ?_) (h.once _) ?_
    (fun hc => absurd hc hst.1) (fun hc => absurd hc hst.2) (fun _ _ => id)
  · refine Iff.trans (Destination.mem_ofClass (d := s.destination e.destination) rfl rfl) ?_
    rw [h.queued, List.mem_cons, not_or]
    constructor
    · rintro ⟨⟨-, h1⟩, h2⟩
      exact ⟨h1, h2⟩
    · rintro ⟨h1, h2, hg, f, hf, hd, hq⟩
      refine ⟨⟨fun hjq => ?_, h1⟩, h2, hg, f, hf, hd, hq⟩
      obtain ⟨rfl, rfl⟩ := Prod.mk.inj hjq
      obtain rfl := Option.some.inj (he.symm.trans hf)
      simp [hs] at hq
  · simp only [List.mem_append, exists_or, h.checkouts, List.mem_cons, not_or, List.not_mem_nil, or_false]
    simp only [State.handleOf, Checkout.mk.injEq, Handle.mk.injEq]
    constructor
    · rintro (⟨⟨-, h1⟩, h2⟩ | ⟨x, ⟨rfl, rfl⟩, rfl, rfl, rfl⟩)
      · exact ⟨h1, h2⟩
      · exact ⟨hp, rfl, e, he, rfl, hs, rfl⟩
    · rintro ⟨h1, hg, f, hf, hd, hc, hk⟩
      by_cases hjq : (j, q) = (i, p)
      · obtain ⟨rfl, rfl⟩ := Prod.mk.inj hjq
        obtain rfl := Option.some.inj (he.symm.trans hf)
        exact .inr ⟨slot, ⟨rfl, hg⟩, rfl, rfl, hk.symm⟩
      · exact .inl ⟨⟨hjq, h1⟩, hg, f, hf, hd, hc, hk⟩
  · rw [List.mem_cons]
    constructor
    · exact .inr
    · rintro (hjq | hm)
      · obtain ⟨rfl, rfl⟩ := Prod.mk.inj hjq
        obtain rfl := Option.some.inj (he.symm.trans hf)
        exact absurd rfl hne
      · exact hm
  · dsimp only
    rw [List.map_append, List.nodup_append]
    refine ⟨h.checkedOutOnce _, List.nodup_singleton _, fun a ha b hb hab => ?_⟩
    obtain ⟨x, hx, rfl⟩ := List.mem_map.1 ha
    obtain rfl := List.mem_singleton.1 hb
    exact hnew x hx hab

/-- A DRAINING destination whose checkout list is empty becomes CLOSED (R121). -/
theorem State.Queues.closeIfDrained (h : s.Queues hand ok drained) (n : Nat) (hn : ∀ d, drained = some d → d = n) :
    (s.closeIfDrained n).Queues hand ok none := by
  unfold State.closeIfDrained
  dsimp only
  split
  · rename_i hc
    obtain ⟨h1, h2⟩ := hc
    have k : (s.setDestination n { s.destination n with state := .closed }).Queues hand ok none := by
      refine h.setDestination (fun c i g p => ?_) (h.checkouts n) (fun _ _ _ _ _ _ => .rfl) (h.once n) (h.checkedOutOnce n)
        (fun _ => ⟨(h.draining n h1).1, h2⟩) (fun hc => by cases hc) (fun d hd hs => absurd (hn d hs) hd)
      exact Iff.trans (Destination.mem_ofClass (d := s.destination n) rfl rfl) (h.queued c n i g p)
    unfold State.changeDest
    dsimp only
    split
    · exact k
    · exact k.send _ _ _
  · rename_i hc
    refine ⟨h.receptions, h.apart, h.numbered, h.states, h.distinct, h.queued, h.once, h.checkouts, h.checkedOutOnce, h.closed,
      fun d hd => ⟨(h.draining d hd).1, .inl ?_⟩⟩
    rcases (h.draining d hd).2 with h2 | h2
    · exact h2
    · obtain rfl := hn d h2
      exact fun he => hc ⟨hd, he⟩

/-! ## One document is written -/

/-- A document changes, and neither its generation, its priority nor its entries. -/
theorem State.Queues.setDocument (h : s.Queues hand ok drained) (i : Nat) (d : Document) (hg : d.generation = (s.document i).generation)
    (hp : d.priority = (s.document i).priority) (he : d.entries = (s.document i).entries) {ok' : Allowed}
    (states : ∀ p e, d.entry p = some e → ok' i p e.state d.state)
    (others : ∀ j, j ≠ i → ∀ p st, ok j p st (s.document j).state → ok' j p st (s.document j).state)
    (hr : d.state = .receiving ∨ ∀ n c, s.context n = some c → c.handle.index ≠ i) :
    (s.setDocument i d).Queues hand ok' drained := by
  have hd (j : Nat) : (s.setDocument i d).document j = if j = i then d else s.document j := s.document_setDocument i j d
  have hent (j p : Nat) : ((s.setDocument i d).document j).entry p = (s.document j).entry p := by
    rw [hd]
    split
    · rename_i e
      rw [e, Document.entry, he, ← Document.entry]
    · rfl
  have hgen (j : Nat) : ((s.setDocument i d).document j).generation = (s.document j).generation := by
    rw [hd]
    split
    · rename_i e
      rw [e, hg]
    · rfl
  have hpri (j : Nat) : ((s.setDocument i d).document j).priority = (s.document j).priority := by
    rw [hd]
    split
    · rename_i e
      rw [e, hp]
    · rfl
  have hh (n j g p : Nat) (test : Entry → Prop) : (s.setDocument i d).HasEntry n j g p test ↔ s.HasEntry n j g p test := by
    simp only [State.HasEntry, hgen, hent]
  refine ⟨fun n c hc => ?_, h.apart, fun j p e hje => h.numbered j p e (by rwa [hent] at hje), fun j p e hje => ?_, ?_, ?_, h.once, ?_,
    h.checkedOutOnce, h.closed, h.draining⟩
  · obtain ⟨h1, h2⟩ := h.receptions n c hc
    rw [hgen]
    refine ⟨?_, h2⟩
    rw [hd]
    split
    · rename_i e
      exact hr.resolve_right (fun hr => hr n c hc e)
    · exact h1
  · rw [hd] at hje ⊢
    split at hje
    · rename_i e'
      subst e'
      rw [if_pos rfl]
      exact states p e hje
    · rename_i e'
      rw [if_neg e']
      exact others j e' p _ (h.states j p e hje)
  · simpa only [hent] using h.distinct
  · intro c n j g q
    rw [hpri, hh]
    exact h.queued c n j g q
  · intro n j g q k
    rw [hh]
    exact h.checkouts n j g q k

/-- An entry in hand is rewritten. -/
theorem State.Queues.setEntry (h : s.Queues hand ok drained) (hm : (i, p) ∈ hand) {e' : Entry} (h1 : 1 ≤ p) (h8 : p ≤ 8)
    (hd : ∀ q f, q ≠ p → (s.document i).entry q = some f → f.destination ≠ e'.destination) {ok' : Allowed}
    (ho : ok' i p e'.state (s.document i).state)
    (others : ∀ j q st ds, (j, q) ≠ (i, p) → ok j q st ds → ok' j q st ds) : (s.setEntry i p e').Queues hand ok' drained := by
  have hdoc (j : Nat) : (s.setEntry i p e').document j = if j = i then (s.document i).setEntry p (some e') else s.document j :=
    s.document_setDocument i j _
  have hent (j q : Nat) : ((s.setEntry i p e').document j).entry q = if j = i ∧ q = p then some e' else (s.document j).entry q := by
    rw [hdoc]
    by_cases e : j = i
    · subst e
      rw [if_pos rfl, Document.entry_setEntry]
      simp
    · simp [e]
  have hrest (j : Nat) : ((s.setEntry i p e').document j).state = (s.document j).state
      ∧ ((s.setEntry i p e').document j).generation = (s.document j).generation
      ∧ ((s.setEntry i p e').document j).priority = (s.document j).priority := by
    rw [hdoc]
    split
    · rename_i e
      rw [e]
      exact ⟨rfl, rfl, rfl⟩
    · exact ⟨rfl, rfl, rfl⟩
  have hh (n j g q : Nat) (test : Entry → Prop) (hne : (j, q) ≠ (i, p)) :
      (s.setEntry i p e').HasEntry n j g q test ↔ s.HasEntry n j g q test := by
    have : ¬ (j = i ∧ q = p) := fun hc => hne (by rw [hc.1, hc.2])
    simp only [State.HasEntry, hent, (hrest j).2.1, if_neg this]
  have hnot {j q : Nat} (hc : (j, q) ∉ hand) : (j, q) ≠ (i, p) := fun e => hc (e ▸ hm)
  refine ⟨fun n c hc => ?_, h.apart, fun j q f hf => ?_, fun j q f hf => ?_, fun j q r f g hf hg hfg => ?_, fun c n j g q => ?_, h.once,
    fun n j g q k => ?_, h.checkedOutOnce, h.closed, h.draining⟩
  · rw [(hrest _).1, (hrest _).2.1]
    exact h.receptions n c hc
  · rw [hent] at hf
    split at hf
    · rename_i e
      rw [e.2]
      exact ⟨h1, h8⟩
    · exact h.numbered j q f hf
  · rw [hent] at hf
    rw [(hrest j).1]
    split at hf
    · rename_i e
      rw [e.1, e.2, ← Option.some.inj hf]
      exact ho
    · rename_i e
      exact others j q _ _ (fun hjq => e (Prod.mk.inj hjq)) (h.states j q f hf)
  · rw [hent] at hf hg
    split at hf
    · rename_i e
      split at hg
      · rename_i e2
        rw [e.2, e2.2]
      · rename_i e2
        rw [e.1] at hg e2
        have hne : r ≠ p := fun hr => e2 ⟨rfl, hr⟩
        exact absurd (by rw [← hfg, Option.some.inj hf]) (hd r g hne hg)
    · rename_i e
      split at hg
      · rename_i e2
        rw [e2.1] at hf e
        have hne : q ≠ p := fun hr => e ⟨rfl, hr⟩
        exact absurd (by rw [hfg, Option.some.inj hg]) (hd q f hne hf)
      · exact h.distinct j q r f g hf hg hfg
  · rw [show (s.setEntry i p e').destination n = s.destination n from rfl, h.queued, (hrest j).2.2]
    constructor
    · rintro ⟨a, b, c⟩
      exact ⟨a, b, (hh _ _ _ _ _ (hnot a)).2 c⟩
    · rintro ⟨a, b, c⟩
      exact ⟨a, b, (hh _ _ _ _ _ (hnot a)).1 c⟩
  · rw [show (s.setEntry i p e').destination n = s.destination n from rfl, h.checkouts]
    constructor
    · rintro ⟨a, b⟩
      exact ⟨a, (hh _ _ _ _ _ (hnot a)).2 b⟩
    · rintro ⟨a, b⟩
      exact ⟨a, (hh _ _ _ _ _ (hnot a)).1 b⟩

/-- A document none of whose entries is in a list is freed, or a FREE record is set up; no reception carries it. -/
theorem State.Queues.replaceDocument (h : s.Queues hand ok drained) {d : Document}
    (hl : ∀ p e, (s.document i).entry p = some e → ¬ e.state.Listed) (hl' : ∀ p e, d.entry p = some e → ¬ e.state.Listed)
    (hc : ∀ n c, s.context n = some c → c.handle.index ≠ i) (positions : ∀ p e, d.entry p = some e → 1 ≤ p ∧ p ≤ 8)
    (states : ∀ p e, d.entry p = some e → ok i p e.state d.state)
    (distinct : ∀ p q e f, d.entry p = some e → d.entry q = some f → e.destination = f.destination → p = q) :
    (s.setDocument i d).Queues hand ok drained := by
  have hd (j : Nat) : (s.setDocument i d).document j = if j = i then d else s.document j := s.document_setDocument i j d
  have hh (n j g p : Nat) (test : Entry → Prop) (ht : ∀ e, test e → e.state.Listed) :
      (s.setDocument i d).HasEntry n j g p test ↔ s.HasEntry n j g p test := by
    by_cases e : j = i
    · subst e
      simp only [State.HasEntry, hd, if_true]
      constructor
      · rintro ⟨-, f, hf, -, hft⟩
        exact absurd (ht f hft) (hl' p f hf)
      · rintro ⟨-, f, hf, -, hft⟩
        exact absurd (ht f hft) (hl p f hf)
    · simp only [State.HasEntry, hd, if_neg e]
  refine ⟨fun n c hn => ?_, h.apart, fun j p e he => ?_, fun j p e he => ?_, fun j p q e f he hf hef => ?_, fun c n j g p => ?_, h.once,
    fun n j g p k => ?_, h.checkedOutOnce, h.closed, h.draining⟩
  · rw [hd, if_neg (hc n c hn)]
    exact h.receptions n c hn
  · rw [hd] at he
    split at he
    · exact positions p e he
    · exact h.numbered j p e he
  · rw [hd] at he ⊢
    split at he
    · rename_i e'
      subst e'
      rw [if_pos rfl]
      exact states p e he
    · rename_i e'
      rw [if_neg e']
      exact h.states j p e he
  · rw [hd] at he hf
    split at he
    · rename_i e'
      rw [if_pos e'] at hf
      exact distinct p q e f he hf hef
    · rename_i e'
      rw [if_neg e'] at hf
      exact h.distinct j p q e f he hf hef
  · rw [show (s.setDocument i d).destination n = s.destination n from rfl, h.queued, hh n j g p _ (fun _ => .inl)]
    by_cases e : j = i
    · subst e
      constructor
      · rintro ⟨-, -, -, f, hf, -, hq⟩
        exact absurd (.inl hq) (hl p f hf)
      · rintro ⟨-, -, -, f, hf, -, hq⟩
        exact absurd (.inl hq) (hl p f hf)
    · rw [hd, if_neg e]
  · rw [show (s.setDocument i d).destination n = s.destination n from rfl, h.checkouts, hh n j g p _ (fun _ hk => .inr hk.1)]

/-- A document none of whose entries is in a list is freed (R74). -/
theorem State.Queues.freeDocument (h : s.Queues hand ok drained) (hl : ∀ p e, (s.document i).entry p = some e → ¬ e.state.Listed)
    (hc : ∀ n c, s.context n = some c → c.handle.index ≠ i) : (s.freeDocument i).Queues hand ok drained := by
  have hnone (d : Document) (p : Nat) (e : Entry) : d.freed.entry p ≠ some e := fun he => by
    simp [Document.freed, Document.free, Document.entry, Table.read, readCells] at he
  have k : (s.setDocument i (s.document i).freed).Queues hand ok drained :=
    h.replaceDocument hl (fun p e he => absurd he (hnone _ p e)) hc (fun p e he => absurd he (hnone _ p e))
      (fun p e he => absurd he (hnone _ p e)) (fun p q e f he => absurd he (hnone _ p e))
  obtain ⟨-, -, -, -, r5, r6⟩ := s.releaseBlocks_rest (s.documentBlocks (s.document i))
  obtain ⟨-, -, f3, f4⟩ := State.freePages_rest (s.releaseBlocks (s.documentBlocks (s.document i))) (s.document i).pages
  refine k.outside (f3.trans r5) ?_ (s.freeDocument_dqu i)
  exact congrArg (fun x : Table Document => x.write Document.free i (s.document i).freed) (f4.trans (congrArg Dt.documents r6))

/-! ## One context is written -/

/-- A context keeps the reception it carries. -/
theorem State.Queues.setContext (h : s.Queues hand ok drained) {n : Nat} {c c' : Context} (hc : s.context n = some c)
    (hh : c'.handle = c.handle) : (s.setContext n (some c')).Queues hand ok drained := by
  have hx (m : Nat) (x : Context) (hm : (s.setContext n (some c')).context m = some x) :
      ∃ y, s.context m = some y ∧ y.handle = x.handle := by
    rw [State.context_setContext] at hm
    split at hm
    · rename_i e
      cases hm
      exact ⟨c, e ▸ hc, hh.symm⟩
    · exact ⟨x, hm, rfl⟩
  refine ⟨fun m x hm => ?_, fun m l x y hm hl e => ?_, h.numbered, h.states, h.distinct, h.queued, h.once, h.checkouts,
    h.checkedOutOnce, h.closed, h.draining⟩
  · obtain ⟨y, hy, e⟩ := hx m x hm
    rw [← e]
    exact h.receptions m y hy
  · obtain ⟨x', hx', ex⟩ := hx m x hm
    obtain ⟨y', hy', ey⟩ := hx l y hl
    exact h.apart m l x' y' hx' hy' (by rw [ex, ey, e])

/-- A context is freed, and no other carries its document. -/
theorem State.Queues.closeContext (h : s.Queues hand ok drained) {n : Nat} {c : Context} (hc : s.context n = some c) :
    (s.setContext n none).Queues hand ok drained
      ∧ ∀ m c', (s.setContext n none).context m = some c' → c'.handle.index ≠ c.handle.index := by
  have hx (m : Nat) (x : Context) (hm : (s.setContext n none).context m = some x) : m ≠ n ∧ s.context m = some x := by
    rw [State.context_setContext] at hm
    split at hm
    · cases hm
    · rename_i e
      exact ⟨e, hm⟩
  refine ⟨⟨fun m x hm => h.receptions m x (hx m x hm).2, fun m l x y hm hl => h.apart m l x y (hx m x hm).2 (hx l y hl).2, h.numbered,
    h.states, h.distinct, h.queued, h.once, h.checkouts, h.checkedOutOnce, h.closed, h.draining⟩, fun m x hm e => ?_⟩
  exact (hx m x hm).1 (h.apart m n x c (hx m x hm).2 hc e)

/-- A FREE context takes up a reception of its own. -/
theorem State.Queues.openContext (h : s.Queues hand ok drained) {n : Nat} {c : Context}
    (hr : (s.document c.handle.index).state = .receiving ∧ (s.document c.handle.index).generation = c.handle.generation)
    (hc : ∀ m c', s.context m = some c' → c'.handle.index ≠ c.handle.index) :
    (s.setContext n (some c)).Queues hand ok drained := by
  refine ⟨fun m x hm => ?_, fun m l x y hm hl e => ?_, h.numbered, h.states, h.distinct, h.queued, h.once, h.checkouts,
    h.checkedOutOnce, h.closed, h.draining⟩
  · rw [State.context_setContext] at hm
    split at hm
    · cases hm
      exact hr
    · exact h.receptions m x hm
  · rw [State.context_setContext] at hm hl
    split at hm <;> split at hl
    · simp_all
    · cases hm
      exact absurd e.symm (hc l y hl)
    · cases hl
      exact absurd e (hc m x hm)
    · exact h.apart m l x y hm hl e

end Rules

end Sys2Proof.Machine
end

-- ==== Proofs: the queues in the shared operations ====
section
/-!
SUPPORT. The operations on queues, entries and documents, each composed of the rules: what is taken in hand is given back, and the
document in work ends in a state that allows its entries.
-/

namespace Sys2Proof.Machine

open Relation (ReflTransGen)

/-! ## Entries and their states -/

theorem Document.mem_entryList {d : Document} {p : Nat} {e : Entry} (h : d.entry p = some e) (h1 : 1 ≤ p) (h8 : p ≤ 8) :
    (p, e) ∈ d.entryList := by
  refine List.mem_filterMap.2 ⟨p, ?_, by rw [h]; rfl⟩
  simp only [positions, List.mem_cons, List.not_mem_nil, or_false]
  omega

theorem plain_of_queued {i p : Nat} {st : EntryState} {ds : DocState} (h : ds = .queued) (hs : st ≠ .waiting) : plain i p st ds := by
  subst h
  exact hs

/-- An entry that has settled: DELIVERED, UNDELIVERABLE or WITHDRAWN (R67). -/
def EntryState.Settled (st : EntryState) : Prop := st = .delivered ∨ st = .undeliverable ∨ st = .withdrawn

theorem EntryState.Settled.not_listed {st : EntryState} (h : st.Settled) : ¬ st.Listed := by
  rcases h with rfl | rfl | rfl <;> simp [EntryState.Listed]

/-- An entry in a list belongs to a QUEUED document. -/
theorem EntryState.Listed.queued {st : EntryState} (h : st.Listed) {ds : DocState} (ha : st.allowedIn ds) : ds = .queued := by
  cases ds with
  | queued => rfl
  | free => exact ha.elim
  | receiving => rcases h with rfl | rfl <;> simp [EntryState.allowedIn] at ha
  | unrouted => rcases h with rfl | rfl <;> simp [EntryState.allowedIn] at ha
  | done => rcases h with rfl | rfl <;> simp [EntryState.allowedIn] at ha
  | purgePending => rcases h with rfl | rfl <;> simp [EntryState.allowedIn] at ha

theorem Entry.settled_of_not_outstanding {e : Entry} (h : e.outstanding = false) : e.state.Settled := by
  unfold Entry.outstanding at h
  cases hs : e.state <;> simp [hs, EntryState.Settled] at h ⊢

section Rules

variable {s t : State} {hand : List (Nat × Nat)} {ok ok' : Allowed} {drained : Option Nat} {i p : Nat} {e : Entry}

/-! ## Entries that settle or move -/

theorem State.Queues.differs (h : s.Queues hand ok drained) (he : (s.document i).entry p = some e) :
    ∀ q f, q ≠ p → (s.document i).entry q = some f → f.destination ≠ e.destination :=
  fun q f hq hf hd => hq (h.distinct i q p f e hf he hd)

/-- An entry in hand settles (R67). -/
theorem State.Queues.settleEntry (h : s.Queues ((i, p) :: hand) ok drained) (he : (s.document i).entry p = some e)
    {st : EntryState} (hs : st.Settled) (ho : ok' i p st (s.document i).state)
    (others : ∀ j q st ds, (j, q) ≠ (i, p) → ok j q st ds → ok' j q st ds) : (s.settleEntry i p e st).Queues hand ok' drained := by
  obtain ⟨h1, h8⟩ := h.numbered i p e he
  have k := h.setEntry List.mem_cons_self (e' := e.settledAs st s.tb.uptime) h1 h8
    (fun q f hne hf => h.differs he q f hne hf) ho others
  refine State.Queues.drop (i := i) (p := p) k (fun f hf => ?_)
  have : f = e.settledAs st s.tb.uptime := by
    simpa [State.settleEntry, State.setEntry, eq_comm] using hf
  rw [this]
  exact hs.not_listed

theorem State.Queues.makeUndeliverable (h : s.Queues ((i, p) :: hand) ok drained) (he : (s.document i).entry p = some e)
    (ho : ok i p .undeliverable (s.document i).state) (reason : Nat) : (s.makeUndeliverable i p e reason).Queues hand ok drained :=
  (h.settleEntry he (.inr (.inl rfl)) ho (fun _ _ _ _ _ => id)).send _ _ _

theorem State.usableFallback_accepting {f : Nat} (h : s.usableFallback = some f) :
    s.rtu.fallback = some f ∧ (s.destination f).accepting = true := by
  unfold State.usableFallback at h
  split at h
  · cases h
  · rename_i g hg
    split at h
    · rename_i ha
      cases h
      exact ⟨hg, ha⟩
    · cases h

/-- An entry is QUEUED at a destination that accepts it and no other entry of its document is for, and joins the tail of its class. -/
theorem State.Queues.requeue (h : s.Queues ((i, p) :: hand) ok drained) (hp : (i, p) ∉ hand) (h1 : 1 ≤ p) (h8 : p ≤ 8) {e' : Entry}
    (hs : e'.state = .queued) (ha : (s.destination e'.destination).accepting = true)
    (hd : ∀ q f, q ≠ p → (s.document i).entry q = some f → f.destination ≠ e'.destination)
    (ho : ok' i p .queued (s.document i).state) (others : ∀ j q st ds, (j, q) ≠ (i, p) → ok j q st ds → ok' j q st ds) :
    ((s.setEntry i p e').joinTail e'.destination i p).Queues hand ok' drained := by
  have k := h.setEntry List.mem_cons_self (e' := e') h1 h8 hd (hs ▸ ho) others
  refine State.Queues.joinTail k hp ?_ hs ha
  simp [State.setEntry]

/-- An entry in hand is moved to the fallback or withdrawn (R113, R120). -/
theorem State.Queues.moveEntry (h : s.Queues ((i, p) :: hand) ok drained) (hp : (i, p) ∉ hand)
    (he : (s.document i).entry p = some e) (hq : ok' i p .queued (s.document i).state)
    (hw : ok' i p .withdrawn (s.document i).state) (others : ∀ j q st ds, (j, q) ≠ (i, p) → ok j q st ds → ok' j q st ds) :
    (s.moveEntry i p e).Queues hand ok' drained := by
  obtain ⟨h1, h8⟩ := h.numbered i p e he
  unfold State.moveEntry
  split
  · rename_i f hf
    unfold State.moveCase at hf
    split at hf
    · cases hf
    · rename_i g hg
      split at hf
      · cases hf
      · rename_i hno
        cases hf
        refine State.Queues.requeue (e' := e.substituted f) h hp h1 h8 rfl (State.usableFallback_accepting hg).2 (fun q x _ hx hd => ?_) hq
          others
        obtain ⟨hx1, hx8⟩ := h.numbered i q x hx
        refine hno (List.any_eq_true.2 ⟨_, Document.mem_entryList hx hx1 hx8, ?_⟩)
        simpa [Entry.substituted] using hd
  · exact h.settleEntry he (.inr (.inr rfl)) hw others

/-! ## Documents that settle or go -/

/-- Only entries of QUEUED documents are in lists. -/
theorem State.Queues.not_listed (h : s.Queues hand plain drained) (hq : (s.document i).state ≠ .queued) :
    ∀ p e, (s.document i).entry p = some e → ¬ e.state.Listed :=
  fun p e he hl => hq (hl.queued (h.states i p e he))

/-- Receptions carry RECEIVING documents alone. -/
theorem State.Queues.not_received (h : s.Queues hand ok drained) (hq : (s.document i).state ≠ .receiving) :
    ∀ n c, s.context n = some c → c.handle.index ≠ i := by
  rintro n c hc rfl
  exact hq (h.receptions n c hc).1

theorem State.Queues.releaseTest (h : s.Queues hand plain drained) (i : Nat) : (s.releaseTest i).Queues hand plain drained := by
  unfold State.releaseTest
  split
  · rename_i hr
    simp only [State.releasable, Bool.and_eq_true, decide_eq_true_eq] at hr
    have hs : (s.document i).state = .done := hr.1.1.1.1
    exact h.freeDocument (h.not_listed (by simp [hs])) (h.not_received (by simp [hs]))
  · exact h

/-- A QUEUED document with nothing outstanding settles (R70). -/
theorem State.Queues.settleIfEmpty (h : s.Queues hand plain drained) (i : Nat) : (s.settleIfEmpty i).Queues hand plain drained := by
  unfold State.settleIfEmpty
  dsimp only
  split
  swap
  · exact h
  rename_i hc
  obtain ⟨hq, ho⟩ := hc
  have hset : ∀ p e, (s.document i).entry p = some e → e.state.Settled := by
    intro p e he
    obtain ⟨h1, h8⟩ := h.numbered i p e he
    refine Entry.settled_of_not_outstanding (Bool.eq_false_iff.2 (fun hout => ?_))
    have : e.destination ∈ (s.document i).outstandingSet :=
      List.mem_map.2 ⟨(p, e), List.mem_filter.2 ⟨Document.mem_entryList he h1 h8, hout⟩, rfl⟩
    rw [ho] at this
    simp at this
  have hctx := h.not_received (i := i) (by simp [hq])
  unfold State.settle
  dsimp only
  split
  · refine State.Queues.send ?_ _ _ _
    exact h.setDocument i { s.document i with state := .unrouted, settleTime := some s.tb.uptime, retentionDeadline := none }
      rfl rfl rfl (fun p e he => hset p e he) (fun _ _ _ _ => id) (.inr hctx)
  · refine State.Queues.releaseTest ?_ i
    exact h.setDocument i { s.document i with
      state := .done, settleTime := some s.tb.uptime
      retentionDeadline := some (s.deadlineFor s.tb.uptime (s.document i).retentionClass) }
      rfl rfl rfl (fun p e he => hset p e he) (fun _ _ _ _ => id) (.inr hctx)

/-! ## Checkouts that come back -/

theorem State.Queues.queued_of_checkedOut (h : s.Queues hand plain drained) (he : (s.document i).entry p = some e)
    (hs : e.state.Listed) : (s.document i).state = .queued := hs.queued (h.states i p e he)

/-- A checkout comes back by RETURN or by hold expiry (R136). -/
theorem State.Queues.comeBack (h : s.Queues [] plain none) (he : (s.document i).entry p = some e) (hs : e.state = .checkedOut)
    (reason : Nat) : (s.comeBack i p e reason).Queues [] plain none := by
  have hq := h.queued_of_checkedOut he (.inr hs)
  obtain ⟨h1, h8⟩ := h.numbered i p e he
  have k := h.leaveCheckouts he hs
  have hacc : ((s.leaveCheckouts e.destination i p).destination e.destination).accepting = (s.destination e.destination).accepting := by
    unfold State.leaveCheckouts
    rw [State.destination_setDestination_same]
    rfl
  unfold State.comeBack State.comeBackCase
  dsimp only
  refine State.Queues.closeIfDrained ?_ _ (fun d hd => (Option.some.inj hd).symm) (drained := some e.destination)
  refine State.Queues.settleIfEmpty ?_ i
  split
  · exact k.makeUndeliverable he (plain_of_queued hq (by simp)) reason
  · rename_i hc
    split at hc
    · cases hc
    split at hc
    · rename_i ha
      exact k.requeue (e' := e.requeued) (List.not_mem_nil) h1 h8 rfl (hacc.trans ha)
        (fun q f hne hf => h.differs he q f hne hf)
        (plain_of_queued hq (by simp))
        (fun _ _ _ _ _ => id)
    · cases hc
  · exact k.moveEntry (List.not_mem_nil) he
      (plain_of_queued hq (by simp))
      (plain_of_queued hq (by simp))
      (fun _ _ _ _ _ => id)

/-- A checkout is returned by a station reset (R143). -/
theorem State.Queues.resetReturn (h : s.Queues [] plain none) (he : (s.document i).entry p = some e) (hs : e.state = .checkedOut) :
    (s.resetReturn i p e).Queues [] plain none := by
  have hq := h.queued_of_checkedOut he (.inr hs)
  obtain ⟨h1, h8⟩ := h.numbered i p e he
  have k := h.leaveCheckouts he hs
  have hacc : ((s.leaveCheckouts e.destination i p).destination e.destination).accepting = (s.destination e.destination).accepting := by
    unfold State.leaveCheckouts
    rw [State.destination_setDestination_same]
    rfl
  unfold State.resetReturn
  dsimp only
  refine State.Queues.closeIfDrained ?_ _ (fun d hd => (Option.some.inj hd).symm) (drained := some e.destination)
  refine State.Queues.settleIfEmpty ?_ i
  split
  · rename_i ha
    have k1 := k.setEntry List.mem_cons_self (e' := e.requeued) (ok' := plain) h1 h8 (fun q f hne hf => h.differs he q f hne hf)
      (plain_of_queued hq (by simp [Entry.requeued])) (fun _ _ _ _ _ => id)
    exact State.Queues.joinHead (e := e.requeued) k1 List.not_mem_nil (by simp [State.setEntry]) rfl (hacc.trans ha)
  · exact k.moveEntry List.not_mem_nil he (plain_of_queued hq (by simp)) (plain_of_queued hq (by simp)) (fun _ _ _ _ _ => id)

/-! ## Checkout lists -/

/-- The checkout lists are the same. -/
def State.SameCheckouts (s t : State) : Prop := ∀ d, (t.destination d).checkouts = (s.destination d).checkouts

theorem State.SameCheckouts.of_dqu (h : t.dqu = s.dqu) : s.SameCheckouts t := fun _ => by simp only [State.destination, h]

theorem State.SameCheckouts.trans {u : State} (h : s.SameCheckouts t) (k : t.SameCheckouts u) : s.SameCheckouts u :=
  fun d => (k d).trans (h d)

theorem State.SameCheckouts.setDestination (n : Nat) (x : Destination) (hx : x.checkouts = (s.destination n).checkouts) :
    s.SameCheckouts (s.setDestination n x) := fun d => by
  rw [State.destination_setDestination]
  split
  · rename_i e
    rw [e, hx]
  · rfl

theorem State.dqu_send (s : State) (kind : Status) (ws : List Word) (ns : List Nat) : (s.send kind ws ns).dqu = s.dqu := by
  rw [(s.notices_send kind ws ns).rest]

theorem State.dqu_signalWork (s : State) (n : Nat) : (s.signalWork n).dqu = s.dqu := by
  unfold State.signalWork
  dsimp only
  repeat' first | rfl | split

theorem State.sameCheckouts_joined (s : State) (n : Nat) (d : Destination) (hd : d.checkouts = (s.destination n).checkouts) :
    s.SameCheckouts (s.joined n d) := by
  have k := State.SameCheckouts.setDestination n d hd
  unfold State.joined
  dsimp only
  split
  · exact k.trans (.of_dqu (State.dqu_signalWork _ _))
  · exact k

theorem State.sameCheckouts_moveEntry (s : State) (i p : Nat) (e : Entry) : s.SameCheckouts (s.moveEntry i p e) := by
  unfold State.moveEntry
  split
  · exact State.SameCheckouts.trans (t := s.setEntry i p _) (.of_dqu rfl)
      (State.sameCheckouts_joined _ _ _ (Destination.joins_tail _ _ _).checkouts)
  · exact .of_dqu rfl

theorem State.dqu_releaseTest (s : State) (i : Nat) : (s.releaseTest i).dqu = s.dqu := by
  unfold State.releaseTest
  split
  · exact s.freeDocument_dqu i
  · rfl

theorem State.dqu_settleIfEmpty (s : State) (i : Nat) : (s.settleIfEmpty i).dqu = s.dqu := by
  unfold State.settleIfEmpty State.settle
  dsimp only
  split
  · split
    · exact State.dqu_send _ _ _ _
    · exact State.dqu_releaseTest _ _
  · rfl

theorem State.sameCheckouts_closeIfDrained (s : State) (n : Nat) : s.SameCheckouts (s.closeIfDrained n) := by
  unfold State.closeIfDrained State.changeDest
  dsimp only
  split
  · have k := State.SameCheckouts.setDestination (s := s) n { s.destination n with state := .closed } rfl
    split
    · exact k
    · exact k.trans (.of_dqu (State.dqu_send _ _ _ _))
  · exact .of_dqu rfl

/-- The return of a checkout takes it off its list, and no other. -/
theorem State.checkouts_resetReturn (s : State) (i p : Nat) (e : Entry) :
    ((s.resetReturn i p e).destination e.destination).checkouts
      = (s.destination e.destination).checkouts.filter (fun x => decide (¬ (x.handle.index = i ∧ x.position = p))) := by
  have h1 : ((s.leaveCheckouts e.destination i p).destination e.destination).checkouts
      = (s.destination e.destination).checkouts.filter (fun x => decide (¬ (x.handle.index = i ∧ x.position = p))) := by
    unfold State.leaveCheckouts
    rw [State.destination_setDestination_same]
  have h2 : (s.leaveCheckouts e.destination i p).SameCheckouts (s.resetReturn i p e) := by
    unfold State.resetReturn
    dsimp only
    refine State.SameCheckouts.trans ?_ (State.sameCheckouts_closeIfDrained _ _)
    refine State.SameCheckouts.trans ?_ (.of_dqu (State.dqu_settleIfEmpty _ _))
    split
    · exact State.SameCheckouts.trans (t := (s.leaveCheckouts e.destination i p).setEntry i p e.requeued) (.of_dqu rfl)
        (State.sameCheckouts_joined _ _ _ (Destination.joins_head _ _ _).checkouts)
    · exact State.sameCheckouts_moveEntry _ _ _ _
  rw [h2, h1]

/-- Checkouts of one destination are returned, one after another. -/
theorem State.Queues.returnItems (h : s.Queues [] plain none) (d : Nat) (l : List Checkout)
    (hl : ∀ x ∈ l, x ∈ (s.destination d).checkouts) (hn : (l.map (fun x => (x.handle, x.position))).Nodup) :
    (l.foldl State.returnCheckoutItem s).Queues [] plain none := by
  induction l generalizing s with
  | nil => exact h
  | cons x l ih =>
    obtain ⟨-, hg, e, he, rfl, hs, -⟩ := h.of_mem_checkouts (hl x List.mem_cons_self)
    have hx : s.returnCheckoutItem x = s.resetReturn x.handle.index x.position e := by
      unfold State.returnCheckoutItem
      rw [he]
    obtain ⟨hnew, hn⟩ := List.nodup_cons.1 hn
    rw [List.foldl_cons, hx]
    refine ih (h.resetReturn he hs) (fun y hy => ?_) hn
    rw [State.checkouts_resetReturn]
    refine List.mem_filter.2 ⟨hl y (List.mem_cons_of_mem _ hy), ?_⟩
    rw [decide_eq_true_eq]
    rintro ⟨h1, h2⟩
    refine hnew (List.mem_map.2 ⟨y, hy, ?_⟩)
    have hgy := (h.of_mem_checkouts (hl y (List.mem_cons_of_mem _ hy))).2.1
    have hh : y.handle = x.handle := by
      cases hyh : y.handle
      cases hxh : x.handle
      simp only [hyh, hxh] at h1 hg hgy
      subst h1
      rw [hgy, hg]
    rw [hh, h2]

/-- The checkouts of a slot come back (R143). -/
theorem State.Queues.returnCheckouts (h : s.Queues [] plain none) (who : Nat → Bool) :
    (s.returnCheckouts who).Queues [] plain none := by
  refine List.foldl_keeps (P := fun s : State => s.Queues [] plain none) (fun s d => s.returnCheckoutsAt who d) (fun s d hs => ?_) _ h
  refine hs.returnItems d _ (fun x hx => ?_) ?_
  · exact List.mem_reverse.1 (List.mem_filter.1 hx).1
  · refine List.Nodup.sublist ((List.filter_sublist).map _) ?_
    rw [List.map_reverse]
    exact List.nodup_reverse.2 (hs.checkedOutOnce d)

/-! ## The end of a reception -/

/-- What the block store does is not seen by the queues. -/
theorem State.Queues.holdTest (h : s.Queues hand ok drained) : s.holdTest.Queues hand ok drained := by
  obtain ⟨b, hb⟩ := s.holdTest_notices
  have k : State.Queues { s with bsm := { s.bsm with storeHold := b } } hand ok drained := h.outside rfl rfl rfl
  exact k.notices hb

theorem State.Queues.withBsm (h : s.Queues hand ok drained) (b : Bsm) : State.Queues { s with bsm := b } hand ok drained :=
  h.outside rfl rfl rfl

theorem State.Queues.setPage (h : s.Queues hand ok drained) (p : Nat) (r : Option PageRecord) : (s.setPage p r).Queues hand ok drained :=
  h.outside rfl rfl rfl

theorem State.Queues.discardPage (h : s.Queues hand ok drained) (p : OpenPage) : (s.discardPage p).Queues hand ok drained :=
  (State.Queues.holdTest (h.withBsm _)).setPage _ _

theorem State.Queues.discardOpenPage (h : s.Queues hand ok drained) (c : Context) : (s.discardOpenPage c).Queues hand ok drained := by
  unfold State.discardOpenPage
  cases c.openPage with
  | none => exact h
  | some p => exact h.discardPage p

theorem State.Queues.releaseReservation (h : s.Queues hand ok drained) (k : Nat) : (s.releaseReservation k).Queues hand ok drained :=
  State.Queues.holdTest (h.withBsm _)

/-- While the entries of document `i` are re-checked, those still to be looked at are WAITING or WITHDRAWN and the others QUEUED or
WITHDRAWN (R113). -/
def rechecking (i : Nat) (rest : List Nat) : Allowed := fun j p st ds =>
  if j = i then (if p ∈ rest then st = .waiting ∨ st = .withdrawn else st = .queued ∨ st = .withdrawn) else st.allowedIn ds

theorem rechecking_others {i p : Nat} {rest : List Nat} : ∀ j q st ds, (j, q) ≠ (i, p) → rechecking i (p :: rest) j q st ds →
    rechecking i rest j q st ds := by
  intro j q st ds hne hr
  unfold rechecking at hr ⊢
  split
  · rename_i e
    subst e
    have hq : q ≠ p := fun e => hne (by rw [e])
    rw [if_pos rfl] at hr
    simpa [hq] using hr
  · rename_i e
    rwa [if_neg e] at hr

theorem State.Queues.recheckEntry {rest : List Nat} (hp : p ∉ rest) (h : s.Queues [] (rechecking i (p :: rest)) drained) :
    (s.recheckEntry i p).Queues [] (rechecking i rest) drained := by
  have hq : rechecking i rest i p .queued (s.document i).state := by simp [rechecking, hp]
  have hw : rechecking i rest i p .withdrawn (s.document i).state := by simp [rechecking, hp]
  -- where the entry at `p` stays, it is absent or WITHDRAWN
  have stay (hs : ∀ e, (s.document i).entry p = some e → e.state = .withdrawn) : s.Queues [] (rechecking i rest) drained := by
    refine h.allow (fun j q e he hr => ?_)
    by_cases hjq : (j, q) = (i, p)
    · obtain ⟨rfl, rfl⟩ := Prod.mk.inj hjq
      rw [hs e he]
      simp [rechecking, hp]
    · exact rechecking_others j q _ _ hjq hr
  unfold State.recheckEntry
  split
  · rename_i hn
    exact stay (fun e he => by rw [hn] at he; cases he)
  · rename_i e he
    have hst : e.state = .waiting ∨ e.state = .withdrawn := by
      have := h.states i p e he
      simpa [rechecking] using this
    split
    · rename_i hwait
      obtain ⟨h1, h8⟩ := h.numbered i p e he
      have k := h.hide i p (fun f hf => by
        obtain rfl := Option.some.inj (he.symm.trans hf)
        simp [EntryState.Listed, hwait])
      split
      · rename_i ha
        exact k.requeue (e' := { e with state := .queued }) List.not_mem_nil h1 h8 rfl ha (fun q f hne hf => h.differs he q f hne hf) hq
          rechecking_others
      · exact k.moveEntry List.not_mem_nil he hq hw rechecking_others
    · rename_i hwait
      refine stay (fun f hf => ?_)
      obtain rfl := Option.some.inj (he.symm.trans hf)
      exact hst.resolve_left hwait

theorem State.Queues.recheck (h : s.Queues [] (rechecking i positions) drained) :
    (s.recheck i).Queues [] (rechecking i []) drained := by
  have fold : ∀ (l : List Nat) (u : State), l.Nodup → u.Queues [] (rechecking i l) drained →
      (l.foldl (fun s p => s.recheckEntry i p) u).Queues [] (rechecking i []) drained := by
    intro l
    induction l with
    | nil => exact fun u _ hu => hu
    | cons p l ih =>
      intro u hn hu
      obtain ⟨hp, hn⟩ := List.nodup_cons.1 hn
      exact ih _ hn (hu.recheckEntry hp)
  exact fold positions s (by decide) h

/-- A document with a committed page completes, and no reception carries it any more (R36). -/
theorem State.Queues.completeDocument (h : s.Queues [] plain drained) (hr : (s.document i).state = .receiving)
    (hc : ∀ n c, s.context n = some c → c.handle.index ≠ i) (b : Bool) : (s.completeDocument i b).Queues [] plain drained := by
  have k := h.setDocument i { s.document i with endTime := some s.tb.clock, incomplete := (s.document i).incomplete || b } rfl rfl rfl
    (ok' := rechecking i positions) (fun p e he => by
      have ha : e.state.allowedIn (s.document i).state := h.states i p e he
      rw [hr] at ha
      have hst : e.state = .waiting ∨ e.state = .withdrawn := ha
      obtain ⟨h1, h8⟩ := h.numbered i p e he
      have hm : p ∈ positions := by
        simp only [positions, List.mem_cons, List.not_mem_nil, or_false]
        omega
      simpa [rechecking, hm] using hst)
    (fun j hj p st hst => by simpa [rechecking, plain, hj] using hst) (.inr hc)
  unfold State.completeDocument
  dsimp only
  set u := s.setDocument i { s.document i with endTime := some s.tb.clock, incomplete := (s.document i).incomplete || b } with hu
  have k2 := k.recheck
  have hctx : ∀ n c, (u.recheck i).context n = some c → c.handle.index ≠ i := by
    intro n c hn
    have : (u.recheck i).iu = u.iu := (u.traffic_recheck i).iu
    rw [State.context, this, ← State.context, hu, State.context_setDocument] at hn
    exact hc n c hn
  generalize u.recheck i = v at k2 hctx ⊢
  have hst : ∀ p e, (v.document i).entry p = some e → e.state = .queued ∨ e.state = .withdrawn := fun p e he => by
    have := k2.states i p e he
    simpa [rechecking] using this
  have others : ∀ j, j ≠ i → ∀ p st, rechecking i [] j p st (v.document j).state → plain j p st (v.document j).state :=
    fun j hj p st ho => by simpa [rechecking, plain, hj] using ho
  split
  · rename_i hzero
    refine State.Queues.send ?_ _ _ _
    refine k2.setDocument i { v.document i with state := .unrouted } rfl rfl rfl (fun p e he => ?_) others (.inr hctx)
    have he' : (v.document i).entry p = some e := he
    obtain ⟨h1, h8⟩ := k2.numbered i p e he'
    refine .inr (.inr ((hst p e he').resolve_left (fun hq => ?_)))
    have : (p, e) ∈ (v.document i).entryList.filter (fun x => decide (x.2.state = .queued)) :=
      List.mem_filter.2 ⟨Document.mem_entryList he' h1 h8, by simpa using hq⟩
    exact absurd (List.length_pos_of_mem this) (by rw [Document.countIn] at hzero; omega)
  · refine k2.setDocument i { v.document i with state := .queued } rfl rfl rfl (fun p e he => ?_) others (.inr hctx)
    rcases hst p e he with hs | hs <;> simp [plain, EntryState.allowedIn, hs]

/-- Step 4 of the end of a reception (R35). -/
theorem State.Queues.finishDocument (h : s.Queues [] plain drained) (hr : (s.document i).state = .receiving)
    (hc : ∀ n c, s.context n = some c → c.handle.index ≠ i) (b : Bool) : (s.finishDocument i b).Queues [] plain drained := by
  unfold State.finishDocument
  split
  · exact h.freeDocument (h.not_listed (by simp [hr])) hc
  · exact h.completeDocument hr hc b

/-- The first two steps of the end of a reception leave the contexts alone. -/
theorem State.iu_closing (s : State) (c : Context) : ((s.discardOpenPage c).releaseReservation c.reservation).iu = s.iu := by
  obtain ⟨x, hx⟩ := ({ s.discardOpenPage c with bsm := { (s.discardOpenPage c).bsm with
    reserved := (s.discardOpenPage c).bsm.reserved - c.reservation } } : State).holdTest_notices
  have h1 : ((s.discardOpenPage c).releaseReservation c.reservation).iu = (s.discardOpenPage c).iu := by
    unfold State.releaseReservation
    rw [hx.rest]
  rw [h1]
  unfold State.discardOpenPage
  cases c.openPage with
  | none => rfl
  | some p => exact (s.discardPage_rest p).1

theorem State.Queues.endReception (h : s.Queues [] plain drained) {n : Nat} {c : Context} (hc : s.context n = some c) (b : Bool) :
    (s.endReception n c b).Queues [] plain drained := by
  have k := (h.discardOpenPage c).releaseReservation c.reservation
  have hiu := s.iu_closing c
  unfold State.endReception
  generalize (s.discardOpenPage c).releaseReservation c.reservation = u at k hiu ⊢
  have hcu : u.context n = some c := by simpa only [State.context, hiu] using hc
  obtain ⟨k1, k2⟩ := k.closeContext hcu
  exact k1.finishDocument (k.receptions n c hcu).1 k2 b

theorem State.Queues.interrupt (h : s.Queues [] plain drained) (l : List Nat) :
    (l.foldl State.interruptReception s).Queues [] plain drained := by
  refine List.foldl_keeps (P := fun s : State => s.Queues [] plain drained) State.interruptReception (fun s n hs => ?_) l h
  unfold State.interruptReception
  split
  · exact hs
  · rename_i c hc
    exact hs.endReception hc true

/-! ## The engine -/

/-- Entries are rewritten, and neither where they go, their states nor their tickets. -/
theorem State.Queues.redated (h : s.Queues hand ok drained) (he : (s.document i).entry p = some e) {e' : Entry}
    (hd : e'.destination = e.destination) (hs : e'.state = e.state) (hk : e'.ticket = e.ticket) :
    (s.setEntry i p e').Queues hand ok drained := by
  have hdoc (j : Nat) : (s.setEntry i p e').document j = if j = i then (s.document i).setEntry p (some e') else s.document j :=
    s.document_setDocument i j _
  have hrest (j : Nat) : ((s.setEntry i p e').document j).state = (s.document j).state
      ∧ ((s.setEntry i p e').document j).generation = (s.document j).generation
      ∧ ((s.setEntry i p e').document j).priority = (s.document j).priority := by
    rw [hdoc]
    split
    · rename_i e
      rw [e]
      exact ⟨rfl, rfl, rfl⟩
    · exact ⟨rfl, rfl, rfl⟩
  -- the entry read at a place, and the one read there before
  have hent (j q : Nat) : ∀ f, ((s.setEntry i p e').document j).entry q = some f → ∃ g, (s.document j).entry q = some g
      ∧ f.destination = g.destination ∧ f.state = g.state ∧ f.ticket = g.ticket := by
    intro f hf
    rw [hdoc] at hf
    split at hf
    · rename_i ej
      rw [Document.entry_setEntry] at hf
      split at hf
      · rename_i eq
        cases hf
        exact ⟨e, by rw [ej, eq]; exact he, hd, hs, hk⟩
      · exact ⟨f, ej ▸ hf, rfl, rfl, rfl⟩
    · exact ⟨f, hf, rfl, rfl, rfl⟩
  have hback (j q : Nat) : ∀ g, (s.document j).entry q = some g → ∃ f, ((s.setEntry i p e').document j).entry q = some f
      ∧ f.destination = g.destination ∧ f.state = g.state ∧ f.ticket = g.ticket := by
    intro g hg
    rw [hdoc]
    split
    · rename_i ej
      subst ej
      rw [Document.entry_setEntry]
      split
      · rename_i eq
        subst eq
        obtain rfl := Option.some.inj (he.symm.trans hg)
        exact ⟨e', rfl, hd, hs, hk⟩
      · exact ⟨g, hg, rfl, rfl, rfl⟩
    · exact ⟨g, hg, rfl, rfl, rfl⟩
  have hh (n j g q : Nat) (test : Entry → Prop) (ht : ∀ f g : Entry, f.state = g.state → f.ticket = g.ticket → test f → test g) :
      (s.setEntry i p e').HasEntry n j g q test ↔ s.HasEntry n j g q test := by
    simp only [State.HasEntry, (hrest j).2.1]
    refine and_congr_right (fun _ => ⟨?_, ?_⟩)
    · rintro ⟨f, hf, hfd, hft⟩
      obtain ⟨x, hx, h1, h2, h3⟩ := hent j q f hf
      exact ⟨x, hx, h1.symm.trans hfd, ht f x h2 h3 hft⟩
    · rintro ⟨x, hx, hxd, hxt⟩
      obtain ⟨f, hf, h1, h2, h3⟩ := hback j q x hx
      exact ⟨f, hf, h1.trans hxd, ht x f h2.symm h3.symm hxt⟩
  refine ⟨fun n c hc => ?_, h.apart, fun j q f hf => ?_, fun j q f hf => ?_, fun j q r f g hf hg hfg => ?_, fun c n j g q => ?_, h.once,
    fun n j g q k => ?_, h.checkedOutOnce, h.closed, h.draining⟩
  · rw [(hrest _).1, (hrest _).2.1]
    exact h.receptions n c hc
  · obtain ⟨x, hx, -⟩ := hent j q f hf
    exact h.numbered j q x hx
  · obtain ⟨x, hx, -, h2, -⟩ := hent j q f hf
    rw [(hrest j).1, h2]
    exact h.states j q x hx
  · obtain ⟨x, hx, h1, -⟩ := hent j q f hf
    obtain ⟨y, hy, h2, -⟩ := hent j r g hg
    exact h.distinct j q r x y hx hy (by rw [← h1, ← h2, hfg])
  · rw [show (s.setEntry i p e').destination n = s.destination n from rfl, h.queued, (hrest j).2.2,
      hh n j g q _ (fun _ _ hs _ hq => hs ▸ hq)]
  · rw [show (s.setEntry i p e').destination n = s.destination n from rfl, h.checkouts,
      hh n j g q _ (fun _ _ hs hk hq => ⟨hs ▸ hq.1, hk ▸ hq.2⟩)]

theorem State.Queues.engineMove (h : s.Queues [] ok drained)
    (hok : ∀ i p st ds, ds = .purgePending ∨ ds = .done → ok i p st ds → ¬ st.Listed) (k : s.EngineMove t) :
    t.Queues [] ok drained := by
  cases k with
  | notified k => exact h.notices (.single k)
  | te x _ _ => exact h.outside rfl rfl rfl
  | fill n r => exact h.outside rfl rfl rfl
  | context n c c' hc hh _ _ _ => exact h.setContext hc hh
  | deadline i p e t he => exact h.redated he rfl rfl rfl
  | free i hs =>
    refine h.freeDocument (fun p e he => hok i p _ _ hs (h.states i p e he)) (h.not_received ?_)
    rcases hs with hs | hs <;> simp [hs]

/-- The engine keeps the queues. -/
theorem State.Queues.engine (h : s.Queues [] ok drained)
    (hok : ∀ i p st ds, ds = .purgePending ∨ ds = .done → ok i p st ds → ¬ st.Listed) (k : s.Engine t) : t.Queues [] ok drained := by
  induction k with
  | refl => exact h
  | tail _ k ih => exact ih.engineMove hok k

theorem plain_done : ∀ (i p : Nat) (st : EntryState) (ds : DocState), ds = .purgePending ∨ ds = .done → plain i p st ds → ¬ st.Listed := by
  intro i p st ds hd ha hl
  have := hl.queued ha
  rcases hd with rfl | rfl <;> cases this

/-- The engine starts no reception. -/
theorem State.EngineMove.handles (h : s.EngineMove t) {n : Nat} {c : Context} (hc : t.context n = some c) :
    ∃ c', s.context n = some c' ∧ c'.handle = c.handle := by
  cases h with
  | notified h =>
    rw [h.rest] at hc
    exact ⟨c, hc, rfl⟩
  | te _ _ _ => exact ⟨c, hc, rfl⟩
  | fill _ _ => exact ⟨c, hc, rfl⟩
  | context m d d' hd hh _ _ _ =>
    rw [State.context_setContext] at hc
    split at hc
    · rename_i e
      cases hc
      exact ⟨d, e ▸ hd, hh.symm⟩
    · exact ⟨c, hc, rfl⟩
  | deadline _ _ _ _ _ => exact ⟨c, hc, rfl⟩
  | free i _ =>
    have : (s.freeDocument i).iu = s.iu := State.Move.iu (.free i)
    exact ⟨c, by simpa only [State.context, this] using hc, rfl⟩

theorem State.Engine.handles (h : s.Engine t) {n : Nat} {c : Context} (hc : t.context n = some c) :
    ∃ c', s.context n = some c' ∧ c'.handle = c.handle := by
  induction h generalizing c with
  | refl => exact ⟨c, hc, rfl⟩
  | tail _ k ih =>
    obtain ⟨c1, h1, e1⟩ := k.handles hc
    obtain ⟨c2, h2, e2⟩ := ih h1
    exact ⟨c2, h2, e2.trans e1⟩

end Rules

end Sys2Proof.Machine
end

-- ==== Proofs: the queues through every step ====
section
/-!
SUPPORT. Each effect of a command and each event keeps the queues sound. A purge settles the entries of its document one by one; a
REROUTE has the entries it places in hand until all are decided (R123); a closing destination's queue is worked off from its head
(R120).
-/

namespace Sys2Proof.Machine

open Relation (ReflTransGen)

section Rules

variable {s t : State} {hand : List (Nat × Nat)} {ok : Allowed} {drained : Option Nat} {i p n : Nat} {e : Entry}

/-! ## What the queues do not see -/

theorem State.Queues.markReset (h : s.Queues hand ok drained) (ns : List Nat) : (s.markReset ns).Queues hand ok drained :=
  h.outside rfl rfl rfl

theorem State.Queues.emptyPort (h : s.Queues hand ok drained) (n : Nat) (keep : Bool) : (s.emptyPort n keep).Queues hand ok drained :=
  h.outside rfl rfl rfl

theorem State.Queues.answering (h : s.Queues hand ok drained) (a : Answer) : (s.answering a).Queues hand ok drained :=
  h.outside rfl rfl rfl

theorem State.Queues.choiceMade (h : s.Queues hand ok drained) : s.choiceMade.Queues hand ok drained := h.outside rfl rfl rfl

theorem State.Queues.restoreFlags (h : s.Queues hand ok drained) (n : Nat) : (s.restoreFlags n).Queues hand ok drained := by
  unfold State.restoreFlags
  dsimp only
  split <;> exact h.outside rfl rfl rfl

theorem State.Queues.stationReset (h : s.Queues [] plain none) (n : Nat) (keep : Bool) :
    (s.stationReset n keep).Queues [] plain none := by
  have h1 := (h.markReset [n]).engine plain_done ((s.markReset [n]).engine_cancelJobs (fun j => decide (j.slot = n)) true true)
  unfold State.stationReset
  dsimp only
  generalize (s.markReset [n]).cancelJobs (fun j => decide (j.slot = n)) true true = u at h1 ⊢
  have h2 : ((u.emptyPort n keep).endReceptionsOf n).Queues [] plain none := ((h1.emptyPort n keep).interrupt _).choiceMade
  exact ((h2.returnCheckouts (fun m => decide (m = n))).restoreFlags n).markReset []

/-! ## Destinations -/

theorem State.Queues.unbind (h : s.Queues hand ok drained) (n : Nat) : (s.unbind n).Queues hand ok drained := by
  refine h.sameLists rfl rfl rfl ?_
  by_cases hs : (s.destination n).state = .opened
  · exact .inl (by simp [Destination.accepting, hs])
  · exact .inr (by simp [hs])

theorem State.Queues.configuring (h : s.Queues hand ok drained) (n : Nat) (rights : Rights) (start stop : Nat) (base mask : BitVec 16)
    (enables : Enables) : (s.configuring n rights start stop base mask enables).Queues hand ok drained := by
  have k : (s.setStation n ((s.station n).configured rights start stop base mask enables)).Queues hand ok drained :=
    h.outside rfl rfl rfl
  unfold State.configuring State.unbindIfRemoved
  split
  · exact List.foldl_keeps (P := fun s : State => s.Queues hand ok drained) State.unbind (fun u d hu => hu.unbind d) _ k
  · exact k

theorem State.Queues.bindDestination (h : s.Queues hand ok drained) (n : Nat) (bound : Option Nat) (hold attempts checkouts : Nat)
    (label : List Byte) :
    (s.bindDestination n ((s.destination n).configured bound hold attempts checkouts label)).Queues hand ok drained := by
  have k : (s.setDestination n ((s.destination n).configured bound hold attempts checkouts label)).Queues hand ok drained := by
    refine h.sameLists rfl rfl rfl ?_
    by_cases hs : (s.destination n).state = .opened
    · refine .inl ?_
      cases bound <;> simp [Destination.accepting, Destination.configured, hs]
    · exact .inr (by simp [Destination.configured, hs])
  unfold State.bindDestination
  dsimp only
  split
  · exact k.signalWork n
  · exact k

/-! ## TAKE (R127 to R129) -/

theorem State.Queues.dropHead (h : s.Queues [] plain none) {x : QueueItem} (hx : x ∈ (s.destination n).queue)
    (he : s.itemEntry x = some e) : (s.dropHead n x e).Queues [] plain none := by
  obtain ⟨-, -, f, hf, rfl, hs⟩ := h.of_mem_queue hx
  obtain rfl := Option.some.inj (he.symm.trans hf)
  have hq := h.queued_of_checkedOut hf (.inl hs)
  exact ((h.leaveQueue hf hs).makeUndeliverable hf (plain_of_queued hq (by simp)) 3).settleIfEmpty _

theorem State.Queues.dropSpent (h : s.Queues [] plain none) (n fuel : Nat) : (State.dropSpent n fuel s).Queues [] plain none := by
  induction fuel generalizing s with
  | zero => exact h
  | succ fuel ih =>
    unfold State.dropSpent
    split
    · exact h
    rename_i x hx
    split
    · exact h
    rename_i e he
    split
    · exact ih (h.dropHead (List.mem_of_head? hx) he)
    · exact h

theorem State.Queues.takeHead (h : s.Queues [] plain none) {x : QueueItem} (hx : x ∈ (s.destination n).queue)
    (he : s.itemEntry x = some e) (slot : Nat) : (s.takeHead slot n x e).Queues [] plain none := by
  obtain ⟨-, hg, f, hf, rfl, hs⟩ := h.of_mem_queue hx
  obtain rfl := Option.some.inj (he.symm.trans hf)
  have hq := h.queued_of_checkedOut hf (.inl hs)
  obtain ⟨h1, h8⟩ := h.numbered _ _ _ hf
  set e' := e.taken s.tb.uptime (s.destination e.destination).holdTime with he'
  have k := (h.leaveQueue hf hs).setEntry List.mem_cons_self (e' := e') (ok' := plain) h1 h8
    (fun q g hne hg => h.differs hf q g hne hg) (plain_of_queued hq (by simp [he', Entry.taken])) (fun _ _ _ _ _ => id)
  have hst : (s.destination e.destination).state ≠ .closed ∧ (s.destination e.destination).state ≠ .draining := by
    refine ⟨fun hc => ?_, fun hc => ?_⟩
    · rw [(h.closed _ hc).1] at hx
      cases hx
    · rw [(h.draining _ hc).1] at hx
      cases hx
  unfold State.takeHead
  generalize hu : (s.leaveQueue e.destination x.handle.index x.position).setEntry x.handle.index x.position e' = u at k ⊢
  have hud : u.document x.handle.index = (s.document x.handle.index).setEntry x.position (some e') := by
    rw [← hu]
    exact State.document_setDocument_same _ _ _
  have hstate : (u.destination e.destination).state = (s.destination e.destination).state := by
    rw [← hu]
    show ((s.leaveQueue _ _ _).destination _).state = _
    unfold State.leaveQueue
    rw [State.destination_setDestination_same]
  have hh : x.handle = u.handleOf x.handle.index := by
    rw [State.handleOf, hud]
    show x.handle = ⟨x.handle.index, (s.document x.handle.index).generation⟩
    rw [← hg]
  have k' := State.Queues.joinCheckouts (e := e') k List.not_mem_nil (by rw [hud]; simp) rfl (by rwa [show e'.destination = e.destination
    from rfl, hstate]) slot
  rw [← hh] at k'
  exact k'

/-! ## PURGE (R77, R78) -/

/-- While document `i` is purged, the entries already looked at have settled. -/
def purging (i : Nat) (rest : List Nat) : Allowed := fun j p st ds => st.allowedIn ds ∧ (j = i → p ∉ rest → st.Settled)

theorem purging_others {rest : List Nat} : ∀ j q st ds, (j, q) ≠ (i, p) → purging i (p :: rest) j q st ds → purging i rest j q st ds := by
  rintro j q st ds hne ⟨h1, h2⟩
  refine ⟨h1, fun hj hq => h2 hj ?_⟩
  rw [List.mem_cons, not_or]
  exact ⟨fun e => hne (by rw [hj, e]), hq⟩

theorem State.Queues.purgeEntry {rest : List Nat} (h : s.Queues [] (purging i (p :: rest)) none) :
    (s.purgeEntry i p).Queues [] (purging i rest) none := by
  have stay (hs : ∀ e, (s.document i).entry p = some e → e.state.Settled) : s.Queues [] (purging i rest) none := by
    refine h.allow (fun j q e he hr => ?_)
    by_cases hjq : (j, q) = (i, p)
    · obtain ⟨rfl, rfl⟩ := Prod.mk.inj hjq
      exact ⟨hr.1, fun _ _ => hs e he⟩
    · exact purging_others j q _ _ hjq hr
  have hset : EntryState.withdrawn.Settled := .inr (.inr rfl)
  unfold State.purgeEntry
  split
  · rename_i hn
    exact stay (fun e he => by rw [hn] at he; cases he)
  rename_i e he
  have ha : e.state.allowedIn (s.document i).state := (h.states i p e he).1
  have same (f : Entry) (hf : (s.document i).entry p = some f) : f = e := Option.some.inj (hf.symm.trans he)
  split
  · rename_i hs
    have hq := EntryState.Listed.queued (.inl hs) ha
    exact (h.leaveQueue he hs).settleEntry he hset ⟨plain_of_queued (i := i) (p := p) hq (by simp), fun _ _ => hset⟩ purging_others
  · rename_i hs
    have hq := EntryState.Listed.queued (.inr hs) ha
    exact ((h.leaveCheckouts he hs).settleEntry he hset ⟨plain_of_queued (i := i) (p := p) hq (by simp), fun _ _ => hset⟩
      purging_others).closeIfDrained _ (fun d hd => (Option.some.inj hd).symm)
  · rename_i hs
    have k := h.hide i p (fun f hf => by
      rw [same f hf, hs]
      simp [EntryState.Listed])
    refine k.settleEntry he hset ⟨?_, fun _ _ => hset⟩ purging_others
    rw [hs] at ha
    cases hd : (s.document i).state <;> simp [hd, EntryState.allowedIn] at ha ⊢
  · rename_i hs
    exact stay (fun f hf => by rw [same f hf, hs]; exact .inl rfl)
  · rename_i hs
    exact stay (fun f hf => by rw [same f hf, hs]; exact .inr (.inl rfl))
  · rename_i hs
    exact stay (fun f hf => by rw [same f hf, hs]; exact hset)

theorem State.Queues.purgeEntries (h : s.Queues [] plain none) (i : Nat) :
    (Sys2Proof.Machine.positions.foldl (fun s p => s.purgeEntry i p) s).Queues [] (purging i []) none := by
  have fold : ∀ (l : List Nat) (u : State), u.Queues [] (purging i l) none →
      (l.foldl (fun s p => s.purgeEntry i p) u).Queues [] (purging i []) none := by
    intro l
    induction l with
    | nil => exact fun u hu => hu
    | cons p l ih => exact fun u hu => ih _ hu.purgeEntry
  refine fold _ s (h.allow (fun j p e he ha => ⟨ha, fun hj hp => absurd ?_ hp⟩))
  obtain ⟨h1, h8⟩ := h.numbered j p e he
  simp only [positions, List.mem_cons, List.not_mem_nil, or_false]
  omega

theorem State.Queues.purgeFinish (h : s.Queues [] (purging i []) none) (hc : ∀ n c, s.context n = some c → c.handle.index ≠ i) :
    (s.purgeFinish i).Queues [] plain none := by
  have hset : ∀ p e, (s.document i).entry p = some e → e.state.Settled := fun p e he =>
    (h.states i p e he).2 rfl List.not_mem_nil
  have k : s.Queues [] plain none := h.allow (fun _ _ _ _ ha => ha.1)
  have gone : (if s.activeJobs i = 0 then s.freeDocument i
      else s.setDocument i { s.document i with state := .purgePending }).Queues [] plain none := by
    split
    · exact k.freeDocument (fun p e he => (hset p e he).not_listed) hc
    · exact k.setDocument i { s.document i with state := .purgePending } rfl rfl rfl (fun p e he => hset p e he) (fun _ _ _ _ => id)
        (.inr hc)
  unfold State.purgeFinish
  dsimp only
  split
  · exact k
  all_goals exact gone

theorem State.Queues.purgeDocument (h : s.Queues [] plain none) (hi : (s.document i).state ≠ .receiving) :
    (s.purgeDocument i).Queues [] plain none := by
  have k := h.purgeEntries i
  have hiu := (s.traffic_purgeEntries i).iu
  unfold State.purgeDocument
  dsimp only
  generalize Sys2Proof.Machine.positions.foldl (fun s p => s.purgeEntry i p) s = u at k hiu ⊢
  have c := u.engine_cancelJobs (fun j => j.reads i) false false
  refine (k.engine (fun j p st ds hd ha => plain_done j p st ds hd ha.1) c).purgeFinish (fun n x hx => ?_)
  obtain ⟨y, hy, e⟩ := c.handles hx
  rw [State.context, hiu, ← State.context] at hy
  rw [← e]
  exact h.not_received hi n y hy

/-! ## The other commands of delivery and receptions -/

theorem State.Queues.confirmed (h : s.Queues [] plain none) (he : (s.document i).entry p = some e) (hs : e.state = .checkedOut) :
    (s.confirmed i p e).Queues [] plain none := by
  have hq := h.queued_of_checkedOut he (.inr hs)
  have k := (h.leaveCheckouts he hs).settleEntry (st := .delivered) (ok' := plain) he (.inl rfl) (plain_of_queued hq (by simp))
    (fun _ _ _ _ _ => id)
  exact (k.settleIfEmpty i).closeIfDrained _ (fun d hd => (Option.some.inj hd).symm)

theorem State.Queues.withdrawn (h : s.Queues [] plain none) (he : (s.document i).entry p = some e) (ho : e.outstanding = true) :
    (((s.withdrawEntry i p e).settleIfEmpty i).closeIfDrained e.destination).Queues [] plain none := by
  have hset : EntryState.withdrawn.Settled := .inr (.inr rfl)
  have ha : e.state.allowedIn (s.document i).state := h.states i p e he
  have finish {u : State} {d : Option Nat} (hu : u.Queues [] plain d) (hd : ∀ x, d = some x → x = e.destination) :
      ((u.settleIfEmpty i).closeIfDrained e.destination).Queues [] plain none := (hu.settleIfEmpty i).closeIfDrained _ hd
  have others : ∀ j q st ds, (j, q) ≠ (i, p) → plain j q st ds → plain j q st ds := fun _ _ _ _ _ => id
  have hidden (hl : ¬ e.state.Listed) : s.Queues [(i, p)] plain none := h.hide i p (fun f hf => by
    rwa [Option.some.inj (hf.symm.trans he)])
  unfold State.withdrawEntry
  split
  · rename_i hs
    exact finish ((h.leaveQueue he hs).settleEntry he hset (plain_of_queued (EntryState.Listed.queued (.inl hs) ha) (by simp)) others)
      (fun x hx => by cases hx)
  · rename_i hs
    have k := (h.leaveCheckouts he hs).settleEntry he hset (plain_of_queued (EntryState.Listed.queued (.inr hs) ha) (by simp)) others
    exact finish (k.engine plain_done (State.engine_cancelJobs _ _ _ _)) (fun x hx => (Option.some.inj hx).symm)
  · rename_i hs
    refine finish ((hidden (by simp [hs, EntryState.Listed])).settleEntry he hset ?_ others) (fun x hx => by cases hx)
    rw [hs] at ha
    show EntryState.allowedIn _ _
    cases hd : (s.document i).state <;> simp [hd, EntryState.allowedIn] at ha ⊢
  all_goals
    rename_i hs
    simp [Entry.outstanding, hs] at ho

theorem State.Queues.abortReception (h : s.Queues [] plain none) {c : Context} (hc : s.context n = some c) :
    (s.abortReception n c).Queues [] plain none := by
  have e := s.engine_cancelJobs (fun j => j.feeds n) true false
  obtain ⟨c', hc', hh, -, -⟩ := e.carries hc
  have k := h.engine plain_done e
  unfold State.abortReception
  dsimp only
  generalize s.cancelJobs (fun j => j.feeds n) true false = u at k hc' ⊢
  have k1 := (k.discardOpenPage c).releaseReservation c.reservation
  have hiu := u.iu_closing c
  generalize (u.discardOpenPage c).releaseReservation c.reservation = v at k1 hiu ⊢
  have hcv : v.context n = some c' := by rw [State.context, hiu]; exact hc'
  obtain ⟨k2, k3⟩ := k1.closeContext hcv
  rw [hh] at k3
  refine k2.freeDocument (k2.not_listed ?_) k3
  have := (k1.receptions n c' hcv).1
  rw [hh] at this
  simp [this]

/-! ## OPEN_RECEPTION (R24) -/

/-- The cells of a delivery list read as its destinations in their order. -/
theorem readCells_zip (f : Nat → Entry) (l : List Nat) (k m p : Nat) :
    readCells none ((l.zip (List.range' k m)).map (fun x => (x.2, some (f x.1)))) p
      = if p < k ∨ k + m ≤ p then none else (l[p - k]?).map f := by
  induction m generalizing l k with
  | zero =>
    have : p < k ∨ k + 0 ≤ p := by omega
    rw [if_pos this]
    cases l <;> rfl
  | succ m ih =>
    cases l with
    | nil => simp [readCells]
    | cons a l =>
      rw [List.range'_succ, List.zip_cons_cons, List.map_cons]
      unfold readCells
      dsimp only
      split
      · rename_i e
        subst e
        simp
      · rename_i e
        rw [ih]
        by_cases hlt : p < k
        · simp [hlt, show p < k + 1 by omega]
        · have e1 : (p < k + 1 ∨ k + 1 + m ≤ p) ↔ (p < k ∨ k + (m + 1) ≤ p) := by omega
          have e2 : p - k = p - (k + 1) + 1 := by omega
          simp only [e1, e2, List.getElem?_cons_succ]

/-- The delivery list of a resolution (R24): one WAITING entry for each member of the delivery set, at positions 1 onward. -/
theorem Resolution.read_entries (r : Resolution) (p : Nat) : r.entries.read none p = if p = 0 ∨ 8 < p then none
    else ((members r.replacement.delivery)[p - 1]?).map
      (fun d => Entry.new d (r.replacement.original r.chosen d) .waiting) := by
  have h := readCells_zip (fun d => Entry.new d (r.replacement.original r.chosen d) .waiting) (members r.replacement.delivery) 1 8 p
  have e : (p < 1 ∨ 1 + 8 ≤ p) ↔ (p = 0 ∨ 8 < p) := by omega
  simp only [e] at h
  exact h

theorem members_nodup (w : Word) : (members w).Nodup := List.nodup_range.filter _

theorem State.Queues.receptionOpened (h : s.Queues [] plain none) (slot lineId profile : Nat) (digits caller : List Byte) (n : Nat)
    (hi : (s.document i).state = .free) : (s.receptionOpened slot lineId profile digits caller n i).Queues [] plain none := by
  unfold State.receptionOpened
  dsimp only
  set d := (s.document i).opened slot lineId digits caller s.tb.clock (s.resolve digits) with hd
  have hent (p : Nat) (e : Entry) (he : d.entry p = some e) : 1 ≤ p ∧ p ≤ 8 ∧ e.state = .waiting
      ∧ (members (s.resolve digits).replacement.delivery)[p - 1]? = some e.destination := by
    have := (s.resolve digits).read_entries p
    rw [show d.entry p = (s.resolve digits).entries.read none p from rfl, this] at he
    split at he
    · cases he
    · rename_i hp
      obtain ⟨x, hx, rfl⟩ := Option.map_eq_some_iff.1 he
      exact ⟨by omega, by omega, rfl, hx⟩
  have hctx := h.not_received (i := i) (by simp [hi])
  have k : (s.setDocument i d).Queues [] plain none := by
    refine h.replaceDocument (fun p e he => ?_) (fun p e he => ?_) hctx (fun p e he => ⟨(hent p e he).1, (hent p e he).2.1⟩)
      (fun p e he => ?_) (fun p q e f he hf hef => ?_)
    · have := h.states i p e he
      rw [hi] at this
      exact this.elim
    · simp [(hent p e he).2.2.1, EntryState.Listed]
    · rw [(hent p e he).2.2.1]
      exact .inl rfl
    · obtain ⟨hp1, -, -, hp⟩ := hent p e he
      obtain ⟨hq1, -, -, hq⟩ := hent q f hf
      rw [← hef] at hq
      have hlt : p - 1 < (members (s.resolve digits).replacement.delivery).length := (List.getElem?_eq_some_iff.1 hp).1
      have := (List.getElem?_inj hlt (members_nodup _)).1 (hp.trans hq.symm)
      omega
  have hdoc : (s.setDocument i d).document i = d := State.document_setDocument_same _ _ _
  refine State.Queues.holdTest (State.Queues.withBsm ?_ _)
  refine State.Queues.openContext k ⟨?_, ?_⟩ (fun m c hm => hctx m c hm)
  · show ((s.setDocument i d).document i).state = .receiving
    rw [hdoc]
    rfl
  · show ((s.setDocument i d).document i).generation = ((s.setDocument i d).document i).generation
    rfl

/-! ## DEST_CLOSE (R120) -/

theorem State.destination_moveEntry (s : State) {n : Nat} (i p : Nat) (e : Entry) (hf : s.rtu.fallback ≠ some n) :
    (s.moveEntry i p e).destination n = s.destination n := by
  unfold State.moveEntry
  split
  · rename_i f hm
    have hne : n ≠ f := by
      rintro rfl
      unfold State.moveCase at hm
      split at hm
      · cases hm
      · rename_i g hg
        split at hm
        · cases hm
        · cases hm
          exact hf (State.usableFallback_accepting hg).1
    unfold State.joinTail State.joined
    dsimp only
    have key (u : State) (d : Destination) : ((u.setDestination f d).signalWork f).destination n = u.destination n := by
      simp only [State.destination, State.dqu_signalWork]
      exact State.destination_setDestination_ne _ hne _
    split
    · exact key _ _
    · exact State.destination_setDestination_ne _ hne _
  · rfl

/-- A closing destination's head leaves, and its queue is the rest. -/
theorem State.Queues.expelItem (h : s.Queues [] plain none) {x : QueueItem} {rest : List QueueItem}
    (hx : (s.destination n).queue = x :: rest) (hf : s.rtu.fallback ≠ some n) : (s.expelItem n x).Queues [] plain none
      ∧ ((s.expelItem n x).destination n).queue = rest := by
  have hmem : x ∈ (s.destination n).queue := by rw [hx]; exact List.mem_cons_self
  obtain ⟨-, hg, e, he, rfl, hs⟩ := h.of_mem_queue hmem
  have hq := h.queued_of_checkedOut he (.inl hs)
  have hexpel : s.expelItem e.destination x = ((s.leaveQueue e.destination x.handle.index x.position).moveEntry x.handle.index
      x.position e).settleIfEmpty x.handle.index := by
    unfold State.expelItem
    dsimp only
    rw [he]
  rw [hexpel]
  constructor
  · exact ((h.leaveQueue he hs).moveEntry List.not_mem_nil he (plain_of_queued hq (by simp)) (plain_of_queued hq (by simp))
      (fun _ _ _ _ _ => id)).settleIfEmpty _
  · have h1 : ∀ u : State, (u.settleIfEmpty x.handle.index).destination e.destination = u.destination e.destination := fun u => by
      simp only [State.destination, State.dqu_settleIfEmpty]
    rw [h1, State.destination_moveEntry (s.leaveQueue e.destination x.handle.index x.position) _ _ _ hf]
    unfold State.leaveQueue
    dsimp only
    rw [State.destination_setDestination_same, Destination.queue, ← List.filter_append]
    show (s.destination e.destination).queue.filter _ = rest
    have hnd := h.once e.destination
    rw [hx] at hnd ⊢
    obtain ⟨hnew, -⟩ := List.nodup_cons.1 hnd
    rw [List.filter_cons_of_neg (by simp), List.filter_eq_self]
    intro y hy
    rw [decide_eq_true_eq]
    rintro ⟨h2, h3⟩
    refine hnew ?_
    have hgy := (h.of_mem_queue (show y ∈ (s.destination e.destination).queue by rw [hx]; exact List.mem_cons_of_mem _ hy)).2.1
    have : x = y := by
      obtain ⟨⟨yi, yg⟩, yp⟩ := y
      obtain ⟨⟨xi, xg⟩, xp⟩ := x
      dsimp only at h2 h3 hg hgy
      subst h2
      subst h3
      rw [hg, hgy]
    rw [this]
    exact hy

theorem State.steady_expelItem (s : State) (n : Nat) (x : QueueItem) : s.Steady (s.expelItem n x) := by
  unfold State.expelItem
  dsimp only
  split
  · exact s.steady_leaveQueue _ _ _
  · exact ((s.steady_leaveQueue _ _ _).trans (State.steady_moveEntry _ _ _ _)).trans (State.steady_settleIfEmpty _ _)

theorem State.Queues.expelQueue (h : s.Queues [] plain none) (hf : s.rtu.fallback ≠ some n) (xs : List QueueItem)
    (hx : (s.destination n).queue = xs) (moved withdrawn : Nat) : (s.expelQueue n moved withdrawn xs).1.Queues [] plain none
      ∧ ((s.expelQueue n moved withdrawn xs).1.destination n).queue = [] := by
  induction xs generalizing s moved withdrawn with
  | nil => exact ⟨h, hx⟩
  | cons x xs ih =>
    obtain ⟨h1, h2⟩ := h.expelItem hx hf
    have hf' : (s.expelItem n x).rtu.fallback ≠ some n := by rwa [(s.steady_expelItem n x).config.rtu]
    unfold State.expelQueue
    split
    · exact ih h1 hf' h2 _ _
    · exact ih h1 hf' h2 _ _

theorem State.Queues.shutDest (h : s.Queues [] plain none) (hq : (s.destination n).queue = []) :
    (s.shutDest n).Queues [] plain none := by
  have k (st : DestState) (hst : (st = .closed ∧ (s.destination n).checkouts = [])
      ∨ (st = .draining ∧ (s.destination n).checkouts ≠ [])) : (s.changeDest n st).Queues [] plain none := by
    have k : (s.setDestination n { s.destination n with state := st }).Queues [] plain none := by
      refine h.setDestination (fun c i g p => Iff.trans (Destination.mem_ofClass (d := s.destination n) rfl rfl) (h.queued c n i g p))
        (h.checkouts n) (fun _ _ _ _ _ _ => .rfl) (h.once n) (h.checkedOutOnce n) (fun hs => ⟨hq, ?_⟩) (fun hs => ⟨hq, .inl ?_⟩)
        (fun _ _ => id)
      · rcases hst with hst | hst
        · exact hst.2
        · rw [hst.1] at hs
          cases hs
      · rcases hst with hst | hst
        · rw [hst.1] at hs
          cases hs
        · exact hst.2
    unfold State.changeDest
    dsimp only
    split
    · exact k
    · exact k.send _ _ _
  unfold State.shutDest
  split
  · rename_i hc
    exact k _ (.inl ⟨rfl, hc⟩)
  · rename_i hc
    exact k _ (.inr ⟨rfl, hc⟩)

end Rules

end Sys2Proof.Machine
end

-- ==== Proofs: rerouting, and the queues through every step ====
section
/-!
SUPPORT. The placements of a REROUTE (R123, R124), the recovery scan (R196), and then every effect and every event.
-/

namespace Sys2Proof.Machine

open Relation (ReflTransGen)

/-! ## REROUTE -/

/-- The position of a placed entry that joins a queue. -/
def Placement.position : Placement → Option Nat
  | .leftAlone => none
  | .reset p => some p
  | .created p => some p

/-- The positions of document `i` that placements put entries at. -/
def placedAt (i : Nat) (xs : List (Nat × Placement)) : List (Nat × Nat) := xs.filterMap (fun x => x.2.position.map (fun p => (i, p)))

/-- A document as REROUTE leaves it, its entries apart (R124). -/
def Document.requeued (d : Document) : Document := { d with state := .queued, settleTime := none, retentionDeadline := none }

theorem find?_positions {q : Nat → Bool} {p : Nat} (h : positions.find? q = some p) : 1 ≤ p ∧ p ≤ 8 ∧ q p = true := by
  have hm := List.mem_of_find?_eq_some h
  simp only [positions, List.mem_cons, List.not_mem_nil, or_false] at hm
  exact ⟨by omega, by omega, List.find?_some h⟩

/-- One placement leaves the document alone, its entry being outstanding, or writes a QUEUED entry where none was, or a settled
one: in the place of the destination's own entry, or the document has none for the destination. -/
theorem Document.place_cases {d d' : Document} {target : Word} {dest : Nat} {original : Option Nat} {x : Placement}
    (h : d.place target dest original = some (d', x)) : (x.position = none ∧ d' = d)
    ∨ ∃ p e, x.position = some p ∧ d' = d.setEntry p (some e) ∧ 1 ≤ p ∧ p ≤ 8 ∧ e.destination = dest ∧ e.state = .queued
      ∧ (∀ f, d.entry p = some f → ¬ f.state.Listed)
      ∧ ((∃ f, d.entry p = some f ∧ f.destination = dest) ∨ ∀ q f, (q, f) ∈ d.entryList → f.destination ≠ dest) := by
  unfold Document.place at h
  split at h
  · rename_i p e hf
    have hd := List.find?_some hf
    have hm := List.mem_of_find?_eq_some hf
    have he := Document.entry_of_entryList hm
    simp only [decide_eq_true_eq] at hd
    have hp : 1 ≤ p ∧ p ≤ 8 := by
      obtain ⟨q, hq, hqe⟩ := List.mem_filterMap.1 hm
      obtain ⟨x, -, hx⟩ := Option.map_eq_some_iff.1 hqe
      obtain rfl := (Prod.mk.inj hx).1
      simp only [positions, List.mem_cons, List.not_mem_nil, or_false] at hq
      omega
    split at h
    · cases h
      exact .inl ⟨rfl, rfl⟩
    · rename_i ho
      cases h
      refine .inr ⟨p, e.reset, rfl, rfl, hp.1, hp.2, hd, rfl, fun f hf => ?_, .inl ⟨e, he, hd⟩⟩
      obtain rfl := Option.some.inj (he.symm.trans hf)
      exact (Entry.settled_of_not_outstanding (by simpa using ho)).not_listed
  · rename_i hnone
    have hno : ∀ q f, (q, f) ∈ d.entryList → f.destination ≠ dest := fun q f hm hd =>
      List.find?_eq_none.1 hnone (q, f) hm (by simpa using hd)
    split at h
    · cases h
    · rename_i p hp
      cases h
      have hpos : 1 ≤ p ∧ p ≤ 8 ∧ ∀ f, d.entry p = some f → ¬ f.state.Listed := by
        unfold Document.newPosition at hp
        split at hp
        · rename_i q hq
          cases hp
          obtain ⟨h1, h8, hn⟩ := find?_positions hq
          refine ⟨h1, h8, fun f hf => ?_⟩
          simp [hf] at hn
        · obtain ⟨h1, h8, hn⟩ := find?_positions hp
          refine ⟨h1, h8, fun f hf => ?_⟩
          simp only [hf, Option.any_some, Bool.and_eq_true, Bool.or_eq_true, decide_eq_true_eq] at hn
          rcases hn.1 with hs | hs <;> simp [hs, EntryState.Listed]
      exact .inr ⟨p, Entry.new dest original .queued, rfl, rfl, hpos.1, hpos.2.1, rfl, rfl, hpos.2.2, .inr hno⟩

section Rules

variable {s t : State} {hand : List (Nat × Nat)} {i p n : Nat} {e : Entry}

/-- The placements decided: the entries placed are in hand, and those in the lists are as they were (R123). -/
theorem State.Queues.placeAll {target : Word} {original : Nat → Option Nat} (ds : List Nat) {d d' : Document}
    {xs : List (Nat × Placement)} (h : (s.setDocument i d.requeued).Queues hand plain none)
    (hh : ∀ p, (i, p) ∈ hand → ∃ e, d.entry p = some e ∧ e.state.Listed) (hx : d.placeAll target original ds = some (d', xs)) :
    (s.setDocument i d'.requeued).Queues (placedAt i xs ++ hand) plain none
      ∧ (placedAt i xs).Nodup ∧ (∀ y ∈ placedAt i xs, y ∉ hand)
      ∧ (∀ p e, d.entry p = some e → e.state.Listed → d'.entry p = some e)
      ∧ ∀ x ∈ xs, x.1 ∈ ds ∧ ∀ p, x.2.position = some p → ∃ e, d'.entry p = some e ∧ e.destination = x.1 ∧ e.state = .queued := by
  induction ds generalizing d xs hand with
  | nil =>
    cases hx
    exact ⟨h, List.nodup_nil, fun y hy => (List.not_mem_nil hy).elim, fun _ _ he _ => he, fun x hx => (List.not_mem_nil hx).elim⟩
  | cons dest ds ih =>
    unfold Document.placeAll at hx
    split at hx
    · cases hx
    rename_i d1 x hplace
    split at hx
    · cases hx
    rename_i d2 xs' hrest
    cases hx
    rcases Document.place_cases hplace with ⟨hpos, rfl⟩ | ⟨p, e, hpos, rfl, h1, h8, hed, hes, hfree, hother⟩
    · obtain ⟨i1, i2, i3, i4, i5⟩ := ih h hh hrest
      have hat : placedAt i ((dest, x) :: xs') = placedAt i xs' := by simp [placedAt, hpos]
      rw [hat]
      refine ⟨i1, i2, i3, i4, fun y hy => ?_⟩
      rcases List.mem_cons.1 hy with rfl | hy
      · exact ⟨List.mem_cons_self, fun q hq => by rw [hpos] at hq; cases hq⟩
      · exact ⟨List.mem_cons_of_mem _ (i5 y hy).1, (i5 y hy).2⟩
    · have hdoc : (s.setDocument i d.requeued).document i = d.requeued := State.document_setDocument_same _ _ _
      have hp : (i, p) ∉ hand := fun hm => by
        obtain ⟨f, hf, hl⟩ := hh p hm
        exact hfree f hf hl
      have hset : (s.setDocument i d.requeued).setEntry i p e = s.setDocument i (d.setEntry p (some e)).requeued := by
        rw [State.setEntry, hdoc]
        simp only [State.setDocument, Table.write_write]
        rfl
      have hdiff : ∀ q f, q ≠ p → ((s.setDocument i d.requeued).document i).entry q = some f → f.destination ≠ e.destination := by
        intro q f hq hf
        rw [hed]
        rcases hother with ⟨g, hg, hgd⟩ | hother
        · rw [← hgd]
          exact h.differs (by rw [hdoc]; exact hg) q f hq hf
        · obtain ⟨hq1, hq8⟩ := h.numbered i q f hf
          rw [hdoc] at hf
          exact hother q f (Document.mem_entryList (d := d) hf hq1 hq8)
      have k := (h.hide i p (fun f hf => by rw [hdoc] at hf; exact hfree f hf)).setEntry List.mem_cons_self (e' := e) (ok' := plain)
        h1 h8 hdiff (plain_of_queued (by rw [hdoc]; rfl) (by simp [hes])) (fun _ _ _ _ _ => id)
      rw [hset] at k
      have hh' : ∀ q, (i, q) ∈ (i, p) :: hand → ∃ f, (d.setEntry p (some e)).entry q = some f ∧ f.state.Listed := by
        intro q hq
        rw [Document.entry_setEntry]
        split
        · exact ⟨e, rfl, .inl hes⟩
        · rename_i hne
          refine hh q ((List.mem_cons.1 hq).resolve_left (fun hqp => hne (Prod.mk.inj hqp).2))
      obtain ⟨i1, i2, i3, i4, i5⟩ := ih k hh' hrest
      have hat : placedAt i ((dest, x) :: xs') = (i, p) :: placedAt i xs' := by simp [placedAt, hpos]
      rw [hat]
      refine ⟨i1.rehand (fun j q f _ _ => ?_), List.nodup_cons.2 ⟨fun hm => i3 _ hm List.mem_cons_self, i2⟩, fun y hy hyh => ?_,
        fun q f hf hl => i4 q f ?_ hl, fun y hy => ?_⟩
      · simp only [List.mem_append, List.mem_cons]
        tauto
      · rcases List.mem_cons.1 hy with rfl | hy
        · exact hp hyh
        · exact i3 y hy (List.mem_cons_of_mem _ hyh)
      · rw [Document.entry_setEntry]
        split
        · rename_i e'
          rw [e'] at hf
          exact absurd hl (hfree f hf)
        · exact hf
      · rcases List.mem_cons.1 hy with rfl | hy
        · refine ⟨List.mem_cons_self, fun q hq => ?_⟩
          obtain rfl := Option.some.inj (hpos.symm.trans hq)
          exact ⟨e, i4 p e (by simp) (.inl hes), hed, hes⟩
        · exact ⟨List.mem_cons_of_mem _ (i5 y hy).1, (i5 y hy).2⟩

theorem State.document_joinTail (s : State) (n i p j : Nat) : (s.joinTail n i p).document j = s.document j := by
  have h (u : State) : (u.signalWork n).document j = u.document j := by
    unfold State.signalWork
    dsimp only
    repeat' first | rfl | split
  unfold State.joinTail State.joined
  dsimp only
  split
  · exact h _
  · rfl

/-- The placed entries join their queues, in the order of their placement (R124). -/
theorem State.Queues.joinPlaced (xs : List (Nat × Placement)) (h : s.Queues (placedAt i xs) plain none) (hn : (placedAt i xs).Nodup)
    (hx : ∀ x ∈ xs, (s.destination x.1).accepting = true
      ∧ ∀ p, x.2.position = some p → ∃ e, (s.document i).entry p = some e ∧ e.destination = x.1 ∧ e.state = .queued) :
    (xs.foldl (fun s x => s.joinPlaced i x) s).Queues [] plain none := by
  induction xs generalizing s with
  | nil => exact h
  | cons x xs ih =>
    obtain ⟨dest, x⟩ := x
    obtain ⟨hacc, hent⟩ := hx _ List.mem_cons_self
    rw [List.foldl_cons]
    cases hpos : x.position with
    | none =>
      have hs : s.joinPlaced i (dest, x) = s := by
        cases x with
        | leftAlone => rfl
        | reset p => cases hpos
        | created p => cases hpos
      have hat : placedAt i ((dest, x) :: xs) = placedAt i xs := by simp [placedAt, hpos]
      rw [hs]
      rw [hat] at h hn
      exact ih h hn (fun y hy => hx y (List.mem_cons_of_mem _ hy))
    | some p =>
      have hs : s.joinPlaced i (dest, x) = s.joinTail dest i p := by
        cases x with
        | leftAlone => cases hpos
        | reset q =>
          obtain rfl : q = p := Option.some.inj hpos
          rfl
        | created q =>
          obtain rfl : q = p := Option.some.inj hpos
          rfl
      have hat : placedAt i ((dest, x) :: xs) = (i, p) :: placedAt i xs := by simp [placedAt, hpos]
      rw [hs]
      rw [hat] at h hn
      obtain ⟨hp, hn⟩ := List.nodup_cons.1 hn
      obtain ⟨e, he, rfl, hes⟩ := hent p hpos
      refine ih (h.joinTail hp he hes hacc) hn (fun y hy => ?_)
      obtain ⟨h1, h2⟩ := hx y (List.mem_cons_of_mem _ hy)
      exact ⟨(State.traffic_joinTail s _ i p).changes.accepts _ h1, by rwa [State.document_joinTail]⟩

/-- The delivery set of a replacement accepts new work (R95). -/
theorem State.accepting_of_replaceClosed (s : State) (w : Word) {d : Nat} (h : d ∈ members (s.replaceClosed w).delivery) :
    (s.destination d).accepting = true := by
  obtain ⟨hlt, hm⟩ := (mem_members _ _).1 h
  have kept (hm : member (setWord (fun d => member w d && (s.destination d).accepting)) d = true) :
      (s.destination d).accepting = true := by
    rw [member_setWord _ hlt, Bool.and_eq_true] at hm
    exact hm.2
  unfold State.replaceClosed at hm
  dsimp only at hm
  split at hm
  · exact kept hm
  · rename_i f hf
    split at hm
    · exact kept hm
    · dsimp only at hm
      rw [member_setWord _ hlt, Bool.or_eq_true, decide_eq_true_eq] at hm
      rcases hm with hm | rfl
      · exact kept hm
      · exact (State.usableFallback_accepting hf).2

/-- A REROUTE that passes its checks (R123, R124). -/
theorem State.Queues.rerouted (h : s.Queues [] plain none) {w : Word} {d : Document} {xs : List (Nat × Placement)}
    (hs : (s.document i).state = .queued ∨ (s.document i).state = .unrouted ∨ (s.document i).state = .done)
    (hx : (s.document i).placeAll (s.replaceClosed w).delivery ((s.replaceClosed w).original w)
      (members (s.replaceClosed w).delivery) = some (d, xs)) : (s.rerouted i d xs).Queues [] plain none := by
  have hst (st : EntryState) (ha : st.allowedIn (s.document i).state) : st ≠ .waiting := by
    rintro rfl
    rcases hs with hs | hs | hs <;> simp [hs, EntryState.allowedIn] at ha
  have h0 : (s.setDocument i (s.document i).requeued).Queues [] plain none :=
    h.setDocument i (s.document i).requeued rfl rfl rfl (fun p e he => plain_of_queued rfl (hst _ (h.states i p e he)))
      (fun _ _ _ _ => id) (.inr (h.not_received (by rcases hs with hs | hs | hs <;> simp [hs])))
  obtain ⟨k1, k2, -, -, k5⟩ := State.Queues.placeAll _ h0 (fun p hp => (List.not_mem_nil hp).elim) hx
  rw [List.append_nil] at k1
  have k := State.Queues.joinPlaced xs k1 k2 (fun x hx => by
    refine ⟨s.accepting_of_replaceClosed w (k5 x hx).1, ?_⟩
    rw [State.document_setDocument_same]
    exact (k5 x hx).2)
  exact k.settleIfEmpty i

/-! ## The parser -/

theorem State.Queues.storeRecord {ok : Allowed} {drained : Option Nat} (h : s.Queues hand ok drained) {c : Context}
    (hc : s.context n = some c) (q : OpenPage) (ws : List Word) : (s.storeRecord n c q ws).1.Queues hand ok drained := by
  unfold State.storeRecord
  split
  · exact h.setContext hc rfl
  split
  · exact State.Queues.setContext (h.withBsm _) hc rfl
  split
  · exact h.setContext hc rfl
  split
  · exact h.setContext hc rfl
  · exact State.Queues.holdTest (State.Queues.setContext (h.withBsm _) hc rfl)

theorem State.Queues.parseWord {ok : Allowed} {drained : Option Nat} (h : s.Queues hand ok drained) (n : Nat) (w : Word) :
    (s.parseWord n w).1.Queues hand ok drained := by
  unfold State.parseWord
  split
  · exact h
  rename_i c hc
  split
  · exact h
  split
  · exact h
  · split
    · exact h.setContext hc rfl
    split
    · exact h.storeRecord hc _ _
    · exact h.setContext hc rfl
  · split
    · exact h.storeRecord hc _ _
    · exact h.setContext hc rfl

theorem State.Queues.parseWords {ok : Allowed} {drained : Option Nat} (h : s.Queues hand ok drained) (n : Nat) (ws : List Word) :
    (s.parseWords n ws).state.Queues hand ok drained := by
  induction ws generalizing s with
  | nil => exact h
  | cons w ws ih =>
    have hw := h.parseWord n w
    unfold State.parseWords
    generalize s.parseWord n w = x at hw ⊢
    obtain ⟨s', full⟩ := x
    cases full
    · exact ih hw
    · exact hw

theorem State.Queues.burstEnd (h : s.Queues [] plain none) (f : State → Job → Burst → State)
    (hf : ∀ (s : State) j b, ∃ n vs, (s.parseWords n vs).state.Engine (f s j b)) : (s.burstEnd f).Queues [] plain none := by
  obtain ⟨n, vs, k⟩ := s.engine_burstEnd f (hf s)
  exact (h.parseWords n vs).engine plain_done k

/-! ## Every effect -/

theorem State.Queues.effect (h : s.Queues [] plain none) {slot : Nat} {b : Bool} (k : s.Effect slot b t) : t.Queues [] plain none := by
  have out {u : State} (h1 : u.iu = s.iu) (h2 : u.dt = s.dt) (h3 : u.dqu = s.dqu) : u.Queues [] plain none :=
    h.outside h1 (by rw [h2]) h3
  cases k with
  | same => exact h
  | config n rights start stop base mask enables _ _ _ _ _ => exact h.configuring n rights start stop base mask enables
  | unused n rights start stop base mask enables _ _ _ _ _ _ =>
    exact (h.configuring n rights start stop base mask enables).stationReset n false
  | unusedOwn rights start stop base mask enables _ _ _ _ _ =>
    exact (h.configuring slot rights start stop base mask enables).stationReset slot false
  | reset n _ => exact h.stationReset n _
  | faultCleared ns =>
    have k : (s.clearNoticeLost ns).Queues [] plain none :=
      List.foldl_keeps (P := fun s : State => s.Queues [] plain none) (fun s n => s.setStation n { s.station n with noticeLost := false })
        (fun u n hu => State.Queues.outside hu rfl rfl rfl) ns h
    have k' : State.Queues { s.clearNoticeLost ns with spu := { (s.clearNoticeLost ns).spu with fault := false } } [] plain none :=
      k.outside rfl rfl rfl
    exact k'.notices (State.notices_announceHeld _ _)
  | marks low release floor reserve => exact State.Queues.holdTest (h.withBsm _)
  | adminHold v => exact State.Queues.notices (h.withBsm _) (State.notices_announceHeld _ _)
  | clock c _ => exact out rfl rfl rfl
  | opened lineId profile digits caller n i _ hi =>
    exact h.receptionOpened slot lineId profile digits caller n (by simpa using (firstFrom_some hi).1)
  | sender n c c' i cs hc hh _ _ _ =>
    have k := h.setDocument i { s.document i with sender := cs } rfl rfl rfl (fun p e he => h.states i p e he)
      (fun _ _ _ _ => id) (by
        by_cases hr : (s.document i).state = .receiving
        · exact .inl hr
        · exact .inr (h.not_received hr))
    exact k.setContext hc hh
  | pageGoesOn n c tag chain hc _ _ =>
    have k : (s.setContext n (some c.intaking)).Queues [] plain none := h.setContext hc rfl
    exact k.engine plain_done (State.engine_queueJob _ _)
  | pageOpens n c q tag chain hc _ _ _ _ =>
    have e : (s.openPageIn n c q).1.setContext n (some (s.openPageIn n c q).2.intaking)
        = (s.setPage q (some PageRecord.opened)).setContext n (some (s.openPageIn n c q).2.intaking) := by
      simp [State.openPageIn, State.setContext]
    rw [e]
    have k : ((s.setPage q (some PageRecord.opened)).setContext n (some (s.openPageIn n c q).2.intaking)).Queues [] plain none :=
      State.Queues.setContext (h.setPage _ _) hc rfl
    exact k.engine plain_done (State.engine_queueJob _ _)
  | pageCommitted n c p0 q v flags drops deadline hc hi _ _ _ =>
    have k : (s.commitPage c.handle.index q v flags).Queues [] plain none := by
      exact State.Queues.setDocument (h.setPage q.record (some (q.commitRecord _ v flags))) c.handle.index
        { s.document c.handle.index with
          pages := (s.document c.handle.index).pages ++ [q.record]
          totalBlocks := (s.document c.handle.index).totalBlocks + q.blocks.length
          truncatedPages := (s.document c.handle.index).truncatedPages || flags.stopped
          poorPages := (s.document c.handle.index).poorPages || decide (v = .poor) }
        rfl rfl rfl (fun p e he => h.states _ p e he) (fun _ _ _ _ => id) (.inl hi)
    exact k.setContext hc rfl
  | pageDiscarded n c p0 q drops deadline hc _ _ _ =>
    refine State.Queues.setContext (c := c) (h.discardPage q) ?_ rfl
    rw [State.context, (s.discardPage_rest q).1]
    exact hc
  | ended n c i hc => exact h.endReception hc i
  | aborted n c hc => exact h.abortReception hc
  | profile n p _ => exact out rfl rfl rfl
  | attributes i d hp hs hg hpri he =>
    refine h.setDocument i d hg hpri he (fun p e hpe => ?_) (fun _ _ _ _ => id) ?_
    · rw [hs]
      exact h.states i p e (by rwa [Document.entry, ← he])
    · by_cases hr : (s.document i).state = .receiving
      · exact .inl (hs.trans hr)
      · exact .inr (h.not_received hr)
  | attributesTested i d hp hs hg hpri he =>
    refine State.Queues.releaseTest (h.setDocument i d hg hpri he (fun p e hpe => ?_) (fun _ _ _ _ => id) ?_) i
    · rw [hs]
      exact h.states i p e (by rwa [Document.entry, ← he])
    · by_cases hr : (s.document i).state = .receiving
      · exact .inl (hs.trans hr)
      · exact .inr (h.not_received hr)
  | purged i hi => exact h.purgeDocument (by rcases hi with hi | hi | hi <;> simp [hi])
  | retention c m _ => exact h.outside rfl rfl rfl
  | route i e _ _ _ => exact out rfl rfl rfl
  | routeCleared i => exact out rfl rfl rfl
  | defaultRoute r _ => exact out rfl rfl rfl
  | fallback f _ _ => exact out rfl rfl rfl
  | destConfig n bound hold attempts checkouts label _ _ => exact h.bindDestination n bound hold attempts checkouts label
  | destOpened n _ =>
    have k : (s.changeDest n .opened).Queues [] plain none := h.changeDest (.inl rfl)
    unfold State.destOpened
    dsimp only
    split
    · exact k
    · exact k.signalWork n
  | destPaused n _ => exact h.changeDest (.inr rfl)
  | destClosed n hf _ =>
    obtain ⟨k1, k2⟩ := h.expelQueue hf _ rfl 0 0
    exact k1.shutDest k2
  | rerouted i w d xs hs hx => exact h.rerouted hs hx
  | dropped n fuel _ => exact h.dropSpent n fuel
  | took n fuel u x e _ hu hx he =>
    subst hu
    exact (h.dropSpent n fuel).takeHead (List.mem_of_head? hx) he slot
  | fetches kind tag chain _ _ => exact h.engine plain_done (s.engine_queueJob _)
  | confirmed i p e he hs => exact h.confirmed he hs
  | cameBack i p e reason he hs => exact h.comeBack he hs reason
  | withdrawn i p e he ho => exact h.withdrawn he ho
  | cancelled p => exact h.engine plain_done (s.engine_cancelJobs p _ _)
  | policy level mode _ => exact out rfl rfl rfl

theorem State.Queues.taking (h : s.Queues [] plain none) {slot : Nat} (k : s.Taking slot t) : t.Queues [] plain none := by
  rcases k with rfl | ⟨r, u, b, x, -, he, rfl⟩
  · exact h
  · have hu := State.Queues.effect (s := s.taken slot) (h.outside rfl rfl rfl) he
    split
    · exact hu.outside rfl rfl rfl
    · exact hu

/-! ## The recovery scan -/

theorem State.Queues.scanStations (h : s.Queues [] plain none) : s.scanStations.Queues [] plain none := by
  have h1 : (allSlots.foldl (fun s n => s.emptyPort n false) (s.markReset allSlots)).Queues [] plain none :=
    List.foldl_keeps (P := fun s : State => s.Queues [] plain none) (fun (s : State) n => s.emptyPort n false)
      (fun _ n hu => hu.emptyPort n false) _ (h.markReset allSlots)
  have h2 := List.foldl_keeps (P := fun s : State => s.Queues [] plain none) State.restoreFlags
    (fun _ n hu => State.Queues.restoreFlags hu n) allSlots (h1.returnCheckouts (fun _ => true))
  unfold State.scanStations
  dsimp only
  exact h2.markReset []

theorem State.Queues.scanEngine (h : s.Queues [] plain none) : s.scanEngine.Queues [] plain none := h.outside rfl rfl rfl

theorem State.Queues.scanContext (h : s.Queues [] plain none) (n : Nat) : (s.scanContext n).Queues [] plain none := by
  unfold State.scanContext
  split
  · exact h
  rename_i c hc
  have k : (c.openPage.elim s (fun p => s.setPage p.record none)).Queues [] plain none := by
    cases c.openPage with
    | none => exact h
    | some p => exact h.setPage _ _
  have hcu : (c.openPage.elim s (fun p => s.setPage p.record none)).context n = some c := by
    cases c.openPage <;> exact hc
  generalize c.openPage.elim s (fun p => s.setPage p.record none) = u at k hcu ⊢
  obtain ⟨k1, k2⟩ := k.closeContext hcu
  exact k1.finishDocument (k.receptions n c hcu).1 k2 true

theorem State.Queues.scanFirstContexts (h : s.Queues [] plain none) (k : Nat) : (s.scanFirstContexts k).Queues [] plain none :=
  List.foldl_keeps (P := fun s : State => s.Queues [] plain none) State.scanContext (fun _ n hu => hu.scanContext n) _ h

theorem State.Queues.scanContexts (h : s.Queues [] plain none) : s.scanContexts.Queues [] plain none := by
  have k := (h.scanFirstContexts (s.receptionsWhere (fun _ => true)).length).choiceMade
  unfold State.scanContexts
  exact k.outside rfl rfl rfl

theorem State.Queues.scanReservation (h : s.Queues [] plain none) : s.scanReservation.Queues [] plain none := h.withBsm _

theorem State.Queues.scanStack (h : s.Queues [] plain none) : s.scanStack.Queues [] plain none := h.withBsm _

theorem State.Queues.scanHold (h : s.Queues [] plain none) : s.scanHold.Queues [] plain none :=
  State.Queues.notices (h.withBsm _) (State.notices_announceHeld _ _)

/-- Documents that are PURGE_PENDING are freed, one after another. -/
theorem State.Queues.freeDocuments (h : s.Queues [] plain none) (l : List Nat)
    (hl : ∀ i ∈ l, (s.document i).state = .purgePending ∨ (s.document i).state = .free) :
    (l.foldl State.freeDocument s).Queues [] plain none := by
  induction l generalizing s with
  | nil => exact h
  | cons i l ih =>
    have hi := hl i List.mem_cons_self
    refine ih (h.freeDocument (h.not_listed ?_) (h.not_received ?_)) (fun j hj => ?_)
    · rcases hi with hi | hi <;> simp [hi]
    · rcases hi with hi | hi <;> simp [hi]
    · rw [State.document_freeDocument]
      split
      · exact .inr rfl
      · exact hl j (List.mem_cons_of_mem _ hj)

theorem State.Queues.scanFirstPurges (h : s.Queues [] plain none) (hw : s.dt.documents.WF Document.free) (k : Nat) :
    (s.scanFirstPurges k).Queues [] plain none := by
  refine State.Queues.freeDocuments (s := { s with part := .ready }) (h.outside rfl rfl rfl) _ (fun i hi => .inl ?_)
  obtain ⟨c, hc, rfl⟩ := List.mem_map.1 (List.mem_of_mem_take hi)
  obtain ⟨hm, hs⟩ := List.mem_filter.1 hc
  have e : s.document c.1 = c.2 := hw.read_of_mem hm
  show (s.document c.1).state = .purgePending
  rw [e]
  simpa using hs

theorem State.Queues.scanFirstReleases (h : s.Queues [] plain none) (k : Nat) : (s.scanFirstReleases k).Queues [] plain none :=
  List.foldl_keeps (P := fun s : State => s.Queues [] plain none) State.releaseTest (fun _ n hu => hu.releaseTest n) _ h

theorem State.Queues.scanRelease (h : s.Queues [] plain none) (hw : s.dt.documents.WF Document.free) :
    s.scanRelease.Queues [] plain none := (h.scanFirstPurges hw _).scanFirstReleases _

theorem State.Canonical.documents (h : s.Canonical) : s.dt.documents.WF Document.free := h.2.2.2.2.1

theorem State.Queues.scanMiddle (h : s.Queues [] plain none) : s.scanContexts.scanStack.scanHold.Queues [] plain none :=
  h.scanContexts.scanStack.scanHold

theorem State.steady_scanMiddle (s : State) : s.Steady s.scanContexts.scanStack.scanHold :=
  (s.steady_scanContexts.trans (State.steady_scanStack _)).trans (State.steady_scanHold _)

/-- The document table stays canonical through stages 1 to 6. -/
theorem State.Canonical.scanHeld (h : s.Canonical) :
    s.scanStations.scanEngine.scanContexts.scanStack.scanHold.dt.documents.WF Document.free :=
  (((s.steady_scanStations.trans (State.steady_scanEngine _)).trans (State.steady_scanMiddle _)).canonical h).documents

theorem State.Queues.scanHeld (h : s.Queues [] plain none) :
    s.scanStations.scanEngine.scanContexts.scanStack.scanHold.Queues [] plain none := h.scanStations.scanEngine.scanMiddle

theorem State.Queues.scanUpTo (h : s.Queues [] plain none) (hc : s.Canonical) (x : Config.ScanPoint) :
    (s.scanUpTo x).Queues [] plain none := by
  have h2 := h.scanStations.scanEngine
  have h6 := h.scanHeld
  cases x with
  | notBegun => exact h
  | stations => exact h.scanStations
  | engine => exact h2
  | contexts k => exact h2.scanFirstContexts k
  | pages => exact h2.scanContexts
  | reservation => exact h2.scanContexts.scanReservation
  | stack => exact h2.scanContexts.scanStack
  | hold => exact h6
  | purges k => exact h6.scanFirstPurges hc.scanHeld k
  | releases k => exact (h6.scanFirstPurges hc.scanHeld _).scanFirstReleases k

/-! ## Every event -/

theorem State.queues_reset : State.reset.Queues [] plain none := by
  have hd (i : Nat) : State.reset.document i = Document.free := rfl
  have hx (d : Nat) : State.reset.destination d = Destination.powerOn := rfl
  have hnone (p : Nat) (e : Entry) : Document.free.entry p ≠ some e := fun he => by
    simp [Document.free, Document.entry, Table.read, readCells] at he
  refine ⟨fun n c hc => (by cases hc), fun n m c c' hc => (by cases hc), fun i p e he => absurd he (hnone p e),
    fun i p e he => absurd he (hnone p e), fun i p q e f he => absurd he (hnone p e), fun c d i g p => ?_, fun d => List.nodup_nil,
    fun d i g p k => ?_, fun d => List.nodup_nil, fun d _ => ⟨rfl, rfl⟩, fun d hs => (by cases hs)⟩
  · constructor
    · intro hm
      cases c <;> exact (List.not_mem_nil hm).elim
    · rintro ⟨-, -, -, e, he, -⟩
      exact absurd he (hnone p e)
  · constructor
    · rintro ⟨slot, hm⟩
      exact (List.not_mem_nil hm).elim
    · rintro ⟨-, -, e, he, -⟩
      exact absurd he (hnone p e)

theorem State.Queues.event (h : s.Queues [] plain none) (hc : s.Canonical) (k : s.Event t) : t.Queues [] plain none := by
  cases k with
  | same => exact h
  | poweredOn => exact State.queues_reset.outside rfl rfl rfl
  | started _ => exact State.queues_reset.outside rfl rfl rfl
  | left _ => exact h.outside rfl rfl rfl
  | broken _ =>
    unfold State.scanBroken
    exact ((h.scanUpTo hc _).choiceMade).outside rfl rfl rfl
  | scanned _ => exact h.scanHeld.scanRelease hc.scanHeld
  | ticked => exact h.outside rfl rfl rfl
  | idle n c _ hn => exact (h.endReception hn true).send _ _ _
  | holdExpired i p e he hs =>
    have k : (s.sendExpired i p e).Queues [] plain none := by
      unfold State.sendExpired
      split
      · exact h
      · exact h.send _ _ _
    refine k.comeBack ?_ hs 2
    unfold State.sendExpired
    split
    · exact he
    · rw [State.document, (s.notices_send _ _ _).rest]
      exact he
  | released i => exact h.releaseTest i
  | answered a => exact h.outside rfl rfl rfl
  | accessed slot st a _ _ => exact h.outside rfl rfl rfl
  | reset slot a _ _ => exact (h.stationReset slot false).answering a
  | granted q _ _ =>
    exact State.Queues.engine (s := { s with te := { s.te with request := none } }) (h.outside rfl rfl rfl) plain_done
      (State.engine_grantBurst _ _)
  | completed words => exact h.burstEnd _ (fun s j b => s.engine_burstDone j b words)
  | retried => exact h.burstEnd _ (fun s j _ => ⟨0, [], .ite _ (s.engine_endJob _ _) .refl⟩)
  | failed => exact h.burstEnd _ (fun s j _ => ⟨0, [], s.engine_endJob _ _⟩)

end Rules

/-- Every step keeps the queues sound. -/
theorem State.Queues.step {s t : State} (h : s.Queues [] plain none) (hc : s.Canonical) (k : step s = .next t) :
    t.Queues [] plain none := by
  rcases step_cases s k with rfl | ⟨rest, he | ⟨slot, ht⟩⟩
  · exact h
  · exact State.Queues.event (s := { s with pending := rest }) (h.outside rfl rfl rfl) hc he
  · exact State.Queues.taking (s := { s with pending := rest }) (h.outside rfl rfl rfl) ht

end Sys2Proof.Machine

open Sys2Proof.Machine

/-- Settles O31: the ports, the store and the queues, each by what every effect and every event does to it. -/
theorem promisesKept : Obligations.PromisesKept := by
  refine ⟨fun s t _ h k => h.step k, fun s t hc h k => ?_, fun s t hc h k => ?_⟩
  · exact (State.stored_iff (State.canonical_step hc k)).2 (((State.stored_iff hc).1 h).step k)
  · exact t.queuesSound_iff.2 ((s.queuesSound_iff.1 h).step hc k)
end

-- ==== Proofs: the reset values ====
section
/-!
SUPPORT. The values of the power-on reset, number by number; that they meet the promises is what each promise says of the reset.
-/

open Sys2Proof.Machine

/-- Settles O2: the values as the model writes them, and each promise at the reset. -/
theorem resetValues : Obligations.ResetValues := by
  have values := (State.fit_iff _).1 State.fit_reset
  have canonical := values.2
  have queues (n : Nat) : (State.reset.station n).requests = [] ∧ (State.reset.station n).replies = []
      ∧ (State.reset.station n).assembly = none ∧ (State.reset.station n).latch = none ∧ (State.reset.station n).reserved = 0 := by
    by_cases h : n = 0
    · subst h
      exact ⟨rfl, rfl, rfl, rfl, rfl⟩
    · rw [State.station_reset h]
      exact ⟨rfl, rfl, rfl, rfl, rfl⟩
  refine ⟨rfl, rfl, rfl, rfl, rfl, rfl, rfl, fun b => rfl, fun n => rfl, fun p => rfl, fun i => rfl, rfl, fun i => ⟨rfl, rfl, rfl⟩,
    fun c => rfl, rfl, fun i => rfl, fun d => rfl, rfl, rfl, rfl, fun n hn => ?_, queues, values.1, canonical, ?_, ?_, ?_⟩
  · rw [State.station_reset hn]
    rfl
  · exact State.reset.portsSound_iff.2 State.ports_reset
  · exact (State.stored_iff canonical).2 State.stored_reset
  · exact State.reset.queuesSound_iff.2 State.queues_reset
end

-- ==== Proofs: the store settings and the copies of a notice ====
section
/-!
SUPPORT. Who gets a notice (R175): the copies go out in the order of the recipients before any loss escalates, so that a recipient
with room finds its copy first among what the notice brings. With it a record answered after an effect that notices follow.
-/

namespace Sys2Proof.Machine

theorem UpToNotices.replies {s t : State} (h : UpToNotices s t) (n : Nat) :
    ∃ ys, (t.station n).replies = (s.station n).replies ++ ys := by
  obtain ⟨ys, lost, hx⟩ := h.station n
  exact ⟨ys, by rw [hx]⟩

/-- A slot has received a reply, and behind it whatever else came. -/
def State.Got (s t : State) (m : Nat) (x : Reply) : Prop := ∃ ys, (t.station m).replies = (s.station m).replies ++ x :: ys

theorem State.Got.upTo {s t u : State} {m : Nat} {x : Reply} (h : s.Got t m x) (k : UpToNotices t u) : s.Got u m x := by
  obtain ⟨ys, hy⟩ := h
  obtain ⟨zs, hz⟩ := k.replies m
  exact ⟨ys ++ zs, by rw [hz, hy]; simp⟩

variable (s : State)

theorem State.station_postCopy_ne {n m : Nat} (h : m ≠ n) (x : Reply) : (s.postCopy n x).station m = s.station m := by
  unfold State.postCopy
  cases s.postingOf n
  · exact s.station_setStation_ne h _
  · rfl
  · rfl

theorem State.got_postCopies {m : Nat} (x : Reply) (hu : s.spu.underReset = []) (hr : s.replyRoom m = true) {ns : List Nat}
    (hm : m ∈ ns) : s.Got (s.postCopies x ns) m x := by
  induction ns generalizing s with
  | nil => exact absurd hm List.not_mem_nil
  | cons n ns ih =>
    show s.Got ((s.postCopy n x).postCopies x ns) m x
    have first := s.upTo_postCopy n x
    by_cases e : m = n
    · subst e
      have posted : s.postingOf m = .posted := by simp [State.postingOf, hu, hr]
      have got : s.Got (s.postCopy m x) m x := ⟨[], by simp [State.postCopy, posted, State.appendReply]⟩
      exact got.upTo (State.upTo_postCopies _ x ns)
    · have same := s.station_postCopy_ne e x
      have room : (s.postCopy n x).replyRoom m = true := by rw [State.replyRoom, same]; exact hr
      obtain ⟨ys, hy⟩ := ih (s.postCopy n x) (first.underReset.trans hu) room ((List.mem_cons.1 hm).resolve_left e)
      exact ⟨ys, by rw [hy, same]⟩

/-- While no slot is under reset, every recipient with room gets its copy (R175). -/
theorem State.got_send {m : Nat} (kind : Status) (ws : List Word) (hu : s.spu.underReset = []) (hr : s.replyRoom m = true)
    {ns : List Nat} (hm : m ∈ ns) : s.Got (s.send kind ws ns) m (notice kind ws) :=
  (s.got_postCopies _ hu hr hm).upTo (UpToNotices.foldl _ (fun s n => s.upTo_escalate kind n) _ _)

theorem State.announceHeld_same {was : Bool} (h : s.held = was) : s.announceHeld was = s := if_pos h

theorem State.got_announceHeld {m : Nat} {was : Bool} (h : s.held ≠ was) (hu : s.spu.underReset = []) (hm : m < 16)
    (hright : (s.rights m).intake = true ∨ (s.rights m).administer = true) (hr : s.replyRoom m = true) :
    s.Got (s.announceHeld was) m (notice .storeState s.storeStateWords) := by
  unfold State.announceHeld
  rw [if_neg h]
  refine s.got_send _ _ hu hr ?_
  simpa [State.storeStateRecipients, State.slotsWith, Config.slots, hm] using hright

theorem State.holdTest_ready (h : s.part = .ready) :
    s.holdTest = State.announceHeld { s with bsm := { s.bsm with storeHold := s.bsm.storeTest } } s.held := by
  unfold State.holdTest
  rw [h]

/-- A record answered after an effect `u` outside the station slots that notices follow: as if it had left its queue, `u` had come
and notices had been posted, the reply the last of the slot's. -/
theorem State.upTo_answer {slot : Nat} {u t : State} (x : Reply) (hu : u.spu = (s.taken slot).spu) (h : UpToNotices u t) :
    UpToNotices { u with spu := (s.popped slot).spu } (t.fillReservation slot x)
      ∧ ((t.fillReservation slot x).station slot).replies.getLast? = some x := by
  have hst : State.station { u with spu := (s.popped slot).spu } slot
      = { s.station slot with requests := (s.station slot).requests.tail } := s.station_setStation_same slot _
  refine s.upTo_fill x (by rw [hst]) ?_
  have e : State.setStation { u with spu := (s.popped slot).spu } slot
      { State.station { u with spu := (s.popped slot).spu } slot with reserved := (s.station slot).reserved + 1 } = u := by
    rw [hst]
    show { u with spu := ((s.popped slot).setStation slot _).spu } = u
    rw [State.popped, State.setStation_twice, ← s.taken_eq slot, ← hu]
  rwa [e]

/-- The same, where the effect ends in the intake hold test (R11). -/
theorem State.upTo_answer_holdTest {slot : Nat} {u : State} (x : Reply) (hu : u.spu = (s.taken slot).spu) (hp : u.part = .ready) :
    UpToNotices { u with spu := (s.popped slot).spu, bsm := { u.bsm with storeHold := u.bsm.storeTest } }
        (u.holdTest.fillReservation slot x)
      ∧ ((u.holdTest.fillReservation slot x).station slot).replies.getLast? = some x :=
  s.upTo_answer x (by exact hu) (u.upTo_holdTest hp)

/-- Where no notice follows, the record has left its queue and its reply has been queued, and nothing else has come with it. -/
theorem State.fill_eq_append {slot : Nat} {u : State} (x : Reply) (hu : u.spu = (s.taken slot).spu) :
    u.fillReservation slot x = State.appendReply { u with spu := (s.popped slot).spu } slot x := by
  have e : s.replying slot x = (s.popped slot).appendReply slot x := by simp [State.popped, State.appendReply, State.replying]
  rw [s.fill_of_spu slot u x hu, e]
  rfl

/-! ## The marks -/

theorem Bsm.withMarks_eq (b : Bsm) {w1 w2 w3 w4 low release floor reserve : Nat} (h1 : low = min w1 65536)
    (h2 : release = max low (min w2 131072)) (h3 : floor = min w3 low) (h4 : reserve = min w4 1024) :
    b.withMarks w1 w2 w3 w4 = { b with lowMark := low, releaseMark := release, floor := floor, intakeReserve := reserve } := by
  have hlow : low ≤ 131072 := by omega
  simp only [Bsm.withMarks, clamp_zero, ← h1, ← h3, ← h4, clamp_eq hlow, ← h2]

/-- SET_STORE_MARKS of a slot holding ADMINISTER: the marks are stored and tested, and the reply carries them. -/
theorem execSetStoreMarks_of_takes {slot : Nat} {r : Record} {w1 w2 w3 w4 : Word} (h : s.Takes slot 0x11 r)
    (hw : r.words = [w1, w2, w3, w4]) (ha : (s.rights slot).administer = true) {b : Bsm}
    (hb : b = s.bsm.withMarks w1.toNat w2.toNat w3.toNat w4.toNat) :
    exec (.setStoreMarks slot) s = .next (State.fillReservation (State.holdTest { s.taken slot with bsm := b }) slot (r.reply .ok
      [word b.lowMark, word b.releaseMark, word b.floor, word b.intakeReserve,
        word (bit (State.holdTest { s.taken slot with bsm := b }).held)])) := by
  show execSetStoreMarks slot s = _
  rw [execSetStoreMarks, s.command_of_takes h]
  simp [hw, ha, State.answerRecord, ← hb]

/-! ## The ADMIN cause -/

/-- SET_INTAKE_HOLD of a slot holding ADMINISTER: the cause is set or cleared, and held tested for a change. -/
theorem execSetIntakeHold_of_takes {slot : Nat} {r : Record} {w1 : Word} (h : s.Takes slot 0x12 r) (hw : r.words = [w1])
    (ha : (s.rights slot).administer = true) {t : State} (ht : t = (s.taken slot).setAdminHold (decide (w1.toNat ≠ 0))) :
    exec (.setIntakeHold slot) s = .next (t.fillReservation slot (r.reply .ok
      [word (bit t.held), word (bit t.bsm.storeHold), word (bit t.bsm.adminHold), word (bit t.spu.fault)])) := by
  show execSetIntakeHold slot s = _
  subst ht
  rw [execSetIntakeHold, s.command_of_takes h]
  simp [hw, ha, State.answerRecord]

theorem decide_toNat_ne_zero (w : Word) : decide (w.toNat ≠ 0) = decide (w ≠ 0) := by
  refine decide_eq_decide.2 (not_congr ⟨fun h => BitVec.eq_of_toNat_eq h, fun h => by rw [h]; rfl⟩)

theorem bit_decide_ne (w : Word) : bit (decide (w ≠ 0)) = if w = 0 then 0 else 1 := by
  by_cases h : w = 0 <;> simp [h, bit]

/-- A record taken leaves every reply queue as it was. -/
theorem State.replies_taken (slot m : Nat) : ((s.taken slot).station m).replies = (s.station m).replies := by
  by_cases e : m = slot
  · rw [e, State.station_taken_same]
  · rw [State.station_taken_ne _ _ e]

/-- What a slot got it still has, at the same place, when a command is answered. -/
theorem State.Got.fillReservation {s t : State} {m : Nat} {x : Reply} (h : s.Got t m x) (slot : Nat) (r : Reply) :
    s.Got (t.fillReservation slot r) m x := by
  obtain ⟨ys, hy⟩ := h
  unfold State.fillReservation
  by_cases e : m = slot
  · subst e
    exact ⟨ys ++ [r], by rw [State.station_setStation_same, hy]; simp⟩
  · exact ⟨ys, by rw [State.station_setStation_ne _ e, hy]⟩

end Sys2Proof.Machine

open Sys2Proof.Machine

/-- Settles O22: each command is its setting and an announcement, whose copies go out first. -/
theorem storeSettings : Obligations.StoreSettings := by
  refine ⟨?marks, ?hold, ?test⟩
  case marks =>
    intro s slot r w1 w2 w3 w4 low release floor reserve h hw ha h1 h2 h3 h4
    have marks := s.bsm.withMarks_eq h1 h2 h3 h4
    refine ⟨_, execSetStoreMarks_of_takes s h hw ha marks.symm, ?_⟩
    obtain ⟨upTo, last⟩ := s.upTo_answer_holdTest (slot := slot) (u := { s.taken slot with bsm := { s.bsm with
      lowMark := low, releaseMark := release, floor := floor, intakeReserve := reserve } }) _ rfl h.1.1
    exact ⟨upTo, last⟩
  case hold =>
    intro s slot r w1 b h hw ha hb
    set u : State := { s.taken slot with bsm := { s.bsm with adminHold := decide (w1 ≠ 0) } }
    have told : UpToNotices u (u.announceHeld s.held) := u.upTo_announceHeld s.held
    have done : (s.taken slot).setAdminHold (decide (w1.toNat ≠ 0)) = u.announceHeld s.held := by
      rw [decide_toNat_ne_zero]
      rfl
    have code : word (bit u.bsm.adminHold) = word (if w1 = 0 then 0 else 1) := congrArg word (bit_decide_ne w1)
    have carried := execSetIntakeHold_of_takes s h hw ha done.symm
    rw [told.bsm, code] at carried
    subst hb
    refine ⟨_, carried, (s.upTo_answer _ (by rfl) told).1, (s.upTo_answer _ (by rfl) told).2, fun same => ?_,
      fun change reset m hm right room => ?_⟩
    · rw [u.announceHeld_same same, show u.held = s.held from same]
      exact s.fill_eq_append _ rfl
    · have rights : u.rights m = s.rights m := s.rights_taken slot m
      have got := u.got_announceHeld change reset hm (by rwa [rights]) room
      obtain ⟨ys, hy⟩ := State.Got.fillReservation got slot _
      refine ⟨ys, hy.trans ?_⟩
      rw [← code]
      exact congrArg (· ++ _) (s.replies_taken slot m)
  case test =>
    intro s b hp hb
    have test : s.holdTest = b.announceHeld s.held := hb ▸ s.holdTest_ready hp
    refine ⟨fun same => test.trans (b.announceHeld_same same), fun change => ⟨test ▸ b.upTo_announceHeld _, ?_⟩⟩
    intro reset m hm right room
    subst hb
    exact test ▸ State.got_announceHeld _ change reset hm right room
end

-- ==== Proofs: a reception opened ====
section
/-!
SUPPORT. The operands and the searches of an OPEN_RECEPTION: a counted string taken from a record (R21), the lowest free number,
and the count of a delivery list.
-/

namespace Sys2Proof.Machine

/-- A counted string is taken whole, whatever pads its last word (R21). -/
theorem takeString_of_countedAs {ws : List Word} {cs : List Byte} (h : CountedAs ws cs) (rest : List Word) :
    takeString (ws ++ rest) = some (cs, rest) := by
  obtain ⟨hlt, pad, hpad, hmod, rfl⟩ := h
  have count : (word cs.length).toNat = cs.length := by simp [word, Nat.mod_eq_of_lt hlt]
  have size : (packBytes (cs ++ pad)).length = (cs.length + 3) / 4 := by
    rw [packBytes_length, List.length_append]
    omega
  have chars : (bytesOf (packBytes (cs ++ pad))).take cs.length = cs := by
    have whole := congrArg (List.take cs.length) (bytesOf_packBytes (cs ++ pad))
    rwa [List.take_take, Nat.min_eq_left (by simp), List.take_left] at whole
  simp only [List.cons_append, takeString, count, ← size]
  rw [if_neg (by simp), List.take_left, List.drop_left, chars]

theorem openFields_of_countedAs {ws vs : List Word} {called caller : List Byte} (w1 w2 : Word) (hc : CountedAs ws called)
    (hv : CountedAs vs caller) :
    openFields (w1 :: w2 :: (ws ++ vs)) = some (min w1.toNat 255, min w2.toNat 7, called, caller) := by
  have last : takeString vs = some (caller, []) := by simpa using takeString_of_countedAs hv []
  simp [openFields, takeString_of_countedAs hc, last]

theorem firstFrom_eq_none {p : Nat → Bool} {fuel i : Nat} :
    firstFrom p fuel i = none ↔ ∀ n, i ≤ n → n < i + fuel → p n = false := by
  induction fuel generalizing i with
  | zero => exact ⟨fun _ n h1 h2 => absurd h1 (by omega), fun _ => rfl⟩
  | succ fuel ih =>
    unfold firstFrom
    split
    · rename_i hp
      exact ⟨fun h => (by cases h), fun h => absurd hp (by simp [h i le_rfl (by omega)])⟩
    · rename_i hp
      rw [ih]
      refine ⟨fun h n h1 h2 => ?_, fun h n h1 h2 => h n (by omega) (by omega)⟩
      rcases Nat.eq_or_lt_of_le h1 with rfl | h1
      · exact Bool.eq_false_iff.2 hp
      · exact h n h1 (by omega)

theorem firstFrom_eq_some {p : Nat → Bool} {fuel i n : Nat} (h1 : i ≤ n) (h2 : n < i + fuel) (hp : p n = true)
    (hlow : ∀ m, m < n → p m = false) : firstFrom p fuel i = some n := by
  cases h : firstFrom p fuel i with
  | none => exact absurd hp (by simp [firstFrom_eq_none.1 h n h1 h2])
  | some m =>
    obtain ⟨hm, him, -, hbefore⟩ := firstFrom_some h
    rcases Nat.lt_trichotomy m n with hlt | rfl | hlt
    · exact absurd hm (by simp [hlow m hlt])
    · rfl
    · exact absurd hp (by simp [hbefore n h1 hlt])

theorem bit_isCut (limit : Nat) (cs : List Byte) : bit (isCut limit cs) = if limit < cs.length then 1 else 0 := by
  simp [bit, isCut]

variable (s : State)

theorem State.freeContext_eq_none (h : ∀ n, n < 64 → s.context n ≠ none) : s.freeContext = none :=
  firstFrom_eq_none.2 fun n _ hn => by simpa [← Option.isSome_iff_ne_none] using h n (by simpa [Config.contexts] using hn)

theorem State.freeContext_eq_some {n : Nat} (hn : n < 64) (free : s.context n = none) (lowest : ∀ m, m < n → s.context m ≠ none) :
    s.freeContext = some n :=
  firstFrom_eq_some (Nat.zero_le _) (by simpa [Config.contexts] using hn) (by simp [free])
    fun m hm => by simpa [← Option.isSome_iff_ne_none] using lowest m hm

theorem State.freeContext_ne_none (h : ∃ n, n < 64 ∧ s.context n = none) : ∃ n, s.freeContext = some n := by
  obtain ⟨n, hn, free⟩ := h
  refine Option.ne_none_iff_exists'.1 fun none => ?_
  have := firstFrom_eq_none.1 none n (Nat.zero_le _) (by simpa [Config.contexts] using hn)
  simp [free] at this

theorem State.freeDocumentIndex_eq_none (h : ∀ i, i < 4096 → (s.document i).state ≠ .free) : s.freeDocumentIndex = none :=
  firstFrom_eq_none.2 fun i _ hi => by simpa using h i (by simpa [Config.documents] using hi)

theorem State.freeDocumentIndex_eq_some {i : Nat} (hi : i < 4096) (free : (s.document i).state = .free)
    (lowest : ∀ j, j < i → (s.document j).state ≠ .free) : s.freeDocumentIndex = some i :=
  firstFrom_eq_some (Nat.zero_le _) (by simpa [Config.documents] using hi) (by simp [free])
    fun j hj => by simpa using lowest j hj

/-- A document set up by a resolution has an entry for each member of the delivery set, 8 at most. -/
theorem Document.entryList_length_opened {d : Document} {r : Resolution} (h : d.entries = r.entries) :
    d.entryList.length = min (members r.replacement.delivery).length 8 := by
  have listed (p : Nat) (hp : p ∈ positions) : ((d.entry p).map (fun e => (p, e))).isSome
      = decide (p - 1 < min (members r.replacement.delivery).length 8) := by
    simp only [positions, List.mem_cons, List.not_mem_nil, or_false] at hp
    have : ¬ (p = 0 ∨ 8 < p) := by omega
    rw [Document.entry, h, r.read_entries, if_neg this, Option.isSome_map, Option.isSome_map]
    exact Bool.eq_iff_iff.2 (by simp; omega)
  have count : ∀ k, k < 9 → positions.countP (fun p => decide (p - 1 < k)) = k := by decide
  rw [Document.entryList, List.length_filterMap_eq_countP, List.countP_congr (fun p hp => by rw [listed p hp])]
  exact count _ (by omega)

end Sys2Proof.Machine

open Sys2Proof.Machine

/-- Settles O24: the checks in their order, and the reception the model opens read field by field. -/
theorem openReception : Obligations.OpenReception := by
  intro s slot r w1 w2 ws vs called caller h hw hcalled hcaller
  have fields := openFields_of_countedAs w1 w2 hcalled hcaller
  rw [← hw] at fields
  have run : exec (.openReception slot) s = .next _ := congrArg Host.Outcome.next (s.command_of_takes h _)
  simp only [fields, State.rights_taken, State.held_taken] at run
  refine ⟨fun right => ?_, fun right bad => ?_, fun right digits => ?_⟩
  · simpa [right, State.answerRecord, State.taken_fill] using run
  · have notDigits : called.all isDigit = false := by
      obtain ⟨c, hc, hd⟩ := bad
      refine List.all_eq_false.2 ⟨c, hc, ?_⟩
      simp only [isDigit, Bool.and_eq_true, decide_eq_true_eq]
      omega
    simpa [right, notDigits, State.answerRecord, State.taken_fill] using run
  have allDigits : called.all isDigit = true :=
    List.all_eq_true.2 fun c hc => by simpa [isDigit] using digits c hc
  simp only [right, allDigits, Bool.not_true, Bool.false_eq_true, if_false] at run
  refine ⟨fun held => ?_, fun held full => ?_, fun held room full => ?_, ?_⟩
  · simpa [held, State.answerRecord, State.taken_fill] using run
  · have context : (s.taken slot).freeContext = none := State.freeContext_eq_none _ full
    simpa [held, context, State.answerRecord, State.taken_fill] using run
  · obtain ⟨n, context⟩ := State.freeContext_ne_none (s.taken slot) room
    have record : (s.taken slot).freeDocumentIndex = none := State.freeDocumentIndex_eq_none _ full
    simpa [held, context, record, State.answerRecord, State.taken_fill] using run
  · intro n i g x b held hn free lowest hi unused lowestRecord hx hg hb
    have context : (s.taken slot).freeContext = some n := State.freeContext_eq_some _ hn free lowest
    have record : (s.taken slot).freeDocumentIndex = some i := State.freeDocumentIndex_eq_some _ hi unused lowestRecord
    refine ⟨fun p => x.read_entries p, ?_⟩
    subst hx hg hb
    have handle (d : Document) : ((s.taken slot).setDocument i d).handleOf i = ⟨i, d.generation⟩ := by simp [State.handleOf]
    simp only [held, context, record, State.answerRecord, handle, bit_isCut, Bool.false_eq_true, if_false,
      Document.entryList_length_opened (d := Document.opened _ _ _ _ _ _ _) rfl] at run
    obtain ⟨upTo, last⟩ := s.upTo_answer_holdTest (slot := slot) (u := { ((s.taken slot).setDocument i ((s.document i).opened slot
      (min w1.toNat 255) (called.take 16) (caller.take 20) s.tb.clock (s.resolve (called.take 16)))).setContext n
      (some (Context.opened ⟨i, ((s.document i).generation + 1) % 65536⟩ slot (min w1.toNat 255) (min w2.toNat 7) s.bsm.grant
        (s.idleFrom (min w2.toNat 7)))) with bsm := { s.bsm with reserved := s.bsm.reserved + s.bsm.grant } }) _ rfl h.1.1
    exact ⟨_, run, upTo, last⟩
end

-- ==== Proofs: the reception profiles ====
section
/-!
SUPPORT. A profile as SET_PROFILE stores it: the settings clamped and the poor action aliased (R60, R62), and the two commands
that write and read it.
-/

namespace Sys2Proof.Machine

theorem toNat_eq_zero_iff (w : Word) : w.toNat = 0 ↔ w = 0 :=
  not_iff_not.1 (decide_eq_decide.1 (decide_toNat_ne_zero w))

theorem decodePoorAction_eq (w : Word) : decodePoorAction w = if w = 0 then .keep else .drop := by
  simp only [decodePoorAction, toNat_eq_zero_iff]

theorem code_decodePoorAction (w : Word) : (decodePoorAction w).code = if w = 0 then 0 else 1 := by
  rw [decodePoorAction_eq]
  split <;> rfl

theorem profileOf_eq (w2 w3 w4 w5 w6 w7 : Word) : profileOf w2 w3 w4 w5 w6 w7 =
    ⟨⟨min w2.toNat 1000, min w3.toNat 1000, min w4.toNat 1000, if w5 = 0 then .keep else .drop, min w6.toNat 7⟩,
      max 5 (min w7.toNat 600)⟩ := by
  simp only [profileOf, clamp_zero, clamp_eq (show 5 ≤ 600 by decide), decodePoorAction_eq]

variable (s : State) {slot : Nat} {r : Record}

/-- A profile written between a record's taking and its answer: nothing else changes but the slot's queues. -/
theorem State.fill_setProfile (n : Nat) (p : Profile) (x : Reply) :
    ((s.taken slot).setProfile n p).fillReservation slot x = (s.setProfile n p).replying slot x :=
  s.fill_eq_replying slot _ _ x rfl rfl rfl

/-- SET_PROFILE of a slot holding ADMINISTER (R62). -/
theorem execSetProfile_of_takes {w1 w2 w3 w4 w5 w6 w7 : Word} (h : s.Takes slot 0x26 r)
    (hw : r.words = [w1, w2, w3, w4, w5, w6, w7]) (right : (s.rights slot).administer = true) {p : Profile}
    (hp : p = profileOf w2 w3 w4 w5 w6 w7) :
    exec (.setProfile slot) s = .next ((s.setProfile (min w1.toNat 7) p).replying slot
      (r.reply .ok (word (min w1.toNat 7) :: p.words))) := by
  show execSetProfile slot s = _
  rw [execSetProfile, s.command_of_takes h]
  simp [hw, right, State.answerRecord, State.fill_setProfile, hp]

theorem execSetProfile_noRight {w1 w2 w3 w4 w5 w6 w7 : Word} (h : s.Takes slot 0x26 r)
    (hw : r.words = [w1, w2, w3, w4, w5, w6, w7]) (right : (s.rights slot).administer = false) :
    exec (.setProfile slot) s = .next (s.replying slot (r.reply .noRight [])) := by
  show execSetProfile slot s = _
  rw [execSetProfile, s.command_of_takes h]
  simp [hw, right, State.answerRecord, State.taken_fill]

/-- GET_PROFILE of a slot holding a right (R63). -/
theorem execGetProfile_of_takes {w1 : Word} (h : s.Takes slot 0x27 r) (hw : r.words = [w1])
    (right : (s.rights slot).any = true) :
    exec (.getProfile slot) s = .next (s.replying slot
      (r.reply .ok (word (min w1.toNat 7) :: (s.profile (min w1.toNat 7)).words))) := by
  show execGetProfile slot s = _
  rw [execGetProfile, s.command_of_takes h]
  simp [hw, right, State.answerRecord, State.taken_fill]

theorem execGetProfile_noRight {w1 : Word} (h : s.Takes slot 0x27 r) (hw : r.words = [w1])
    (right : (s.rights slot).any = false) :
    exec (.getProfile slot) s = .next (s.replying slot (r.reply .noRight [])) := by
  show execGetProfile slot s = _
  rw [execGetProfile, s.command_of_takes h]
  simp [hw, right, State.answerRecord, State.taken_fill]

theorem execSetProfile_badLength (h : s.HasHead slot r) (hc : r.header.code = 0x26)
    (hl : r.header.badLength = true ∨ r.words.length ≠ 7) :
    exec (.setProfile slot) s = .next (s.replying slot (r.reply .badLength [])) := by
  refine congrArg Host.Outcome.next (s.command_badLength h hc _ (hl.imp_right fun length => ?_))
  split
  · rename_i hw
    simp [hw] at length
  · rfl

theorem execGetProfile_badLength (h : s.HasHead slot r) (hc : r.header.code = 0x27)
    (hl : r.header.badLength = true ∨ r.words.length ≠ 1) :
    exec (.getProfile slot) s = .next (s.replying slot (r.reply .badLength [])) := by
  refine congrArg Host.Outcome.next (s.command_badLength h hc _ (hl.imp_right fun length => ?_))
  split
  · rename_i hw
    simp [hw] at length
  · rfl

end Sys2Proof.Machine

open Sys2Proof.Machine

/-- Settles O30: each command by its length, its right and what it does. -/
theorem profiles : Obligations.Profiles := by
  refine ⟨?set, ?get, ?badLength⟩
  case set =>
    intro s slot r w1 w2 w3 w4 w5 w6 w7 p h hw hp
    refine ⟨fun right => ?_, execSetProfile_noRight s h hw⟩
    have stored : p = profileOf w2 w3 w4 w5 w6 w7 := hp.trans (profileOf_eq ..).symm
    have action : p.acceptance.poorAction.code = if w5 = 0 then 0 else 1 := by
      rw [stored]
      exact code_decodePoorAction w5
    rw [execSetProfile_of_takes s h hw right stored, Profile.words, action]
  case get =>
    intro s slot r w1 p h hw hp
    subst hp
    exact ⟨execGetProfile_of_takes s h hw, execGetProfile_noRight s h hw⟩
  case badLength =>
    exact fun s slot r h => ⟨execSetProfile_badLength s h, execGetProfile_badLength s h⟩
end

-- ==== Proofs: line records stored ====
section
/-!
SUPPORT. The stream of a page laid end to end across its blocks (R49): distinct positions have distinct addresses, so that bytes
written are read back and disturb none before them. The block a page takes from the stack (R3, R7, R8); a complete record in each
case of R49 and R50; the parser word by word (R46, R47).
-/

namespace Sys2Proof.Machine

/-! ## Chain positions and their addresses -/

/-- Every position within a chain's blocks has an address. -/
theorem chainAddress_isSome {chain : List Block} {k : Nat} (h : k < 4096 * chain.length) :
    ∃ a, chainAddress chain k = some a := by
  have hk : k / Config.blockBytes < chain.length := Nat.div_lt_of_lt_mul h
  exact ⟨storeAddress chain[k / Config.blockBytes] k, by simp [chainAddress, hk]⟩

/-- In a chain of distinct blocks no two positions share an address. -/
theorem chainAddress_injective {chain : List Block} (distinct : chain.Nodup) {i j a : Nat}
    (hi : chainAddress chain i = some a) (hj : chainAddress chain j = some a) : i = j := by
  obtain ⟨m, hm, rfl⟩ := Option.map_eq_some_iff.1 hi
  obtain ⟨n, hn, same⟩ := Option.map_eq_some_iff.1 hj
  simp only [storeAddress, Config.blockBytes] at hm hn same
  have blocks : n = m := Fin.ext (by omega)
  have places : i / 4096 = j / 4096 :=
    (List.getElem?_inj (List.getElem?_eq_some_iff.1 hm).1 distinct).1 (by rw [hm, hn, blocks])
  omega

/-- A block linked behind a chain moves none of its positions. -/
theorem chainAddress_append {chain : List Block} (b : Block) {k : Nat} (h : k < 4096 * chain.length) :
    chainAddress (chain ++ [b]) k = chainAddress chain k := by
  have hk : k / Config.blockBytes < chain.length := Nat.div_lt_of_lt_mul h
  simp only [chainAddress, List.getElem?_append_left hk]

/-! ## Bytes written and read -/

theorem Bsm.readByte_writeByte (b : Bsm) (a x : Nat) (v : Byte) :
    (b.writeByte a v).readByte x = if x = a then v else b.readByte x :=
  Table.read_write _ _ _ _ _

/-- Writing bytes from position `off` on leaves every byte alone that is at none of the positions written. -/
theorem Bsm.readByte_writeChain_of_forall_ne {chain : List Block} {b : Bsm} {off : Nat} {vs : List Byte} {a : Nat}
    (h : ∀ k, off ≤ k → k < off + vs.length → chainAddress chain k ≠ some a) :
    (Bsm.writeChain chain b off vs).readByte a = b.readByte a := by
  induction vs generalizing b off with
  | nil => rfl
  | cons v vs ih =>
    rw [List.length_cons] at h
    rw [Bsm.writeChain, ih (fun k h1 h2 => h k (by omega) (by omega))]
    have first := h off le_rfl (by omega)
    cases ha : chainAddress chain off with
    | none => rfl
    | some x => exact (b.readByte_writeByte x a v).trans (if_neg fun e => first (by rw [ha, e]))

/-- What is read at a series of positions depends on the bytes at their addresses alone. -/
theorem Bsm.readChain_congr {b c : Bsm} {chain : List Block} {off n : Nat}
    (h : ∀ k, off ≤ k → k < off + n → ∀ a, chainAddress chain k = some a → c.readByte a = b.readByte a) :
    c.readChain chain off n = b.readChain chain off n := by
  induction n generalizing off with
  | zero => rfl
  | succ n ih =>
    rw [Bsm.readChain, Bsm.readChain, ih (fun k h1 h2 => h k (by omega) (by omega))]
    congr 1
    cases ha : chainAddress chain off with
    | none => rfl
    | some a => exact h off le_rfl (by omega) a ha

theorem Bsm.readChain_of_store {b c : Bsm} (h : c.store = b.store) (chain : List Block) (off n : Nat) :
    c.readChain chain off n = b.readChain chain off n :=
  Bsm.readChain_congr fun _ _ _ a _ => by rw [Bsm.readByte, h, Bsm.readByte]

theorem Bsm.readChain_append (b : Bsm) (chain : List Block) (n : Block) {off count : Nat}
    (h : off + count ≤ 4096 * chain.length) :
    b.readChain (chain ++ [n]) off count = b.readChain chain off count := by
  induction count generalizing off with
  | zero => rfl
  | succ count ih => rw [Bsm.readChain, Bsm.readChain, chainAddress_append n (by omega), ih (by omega)]

/-- Bytes written within a chain of distinct blocks are read back (R49). -/
theorem Bsm.readChain_writeChain {chain : List Block} (distinct : chain.Nodup) (b : Bsm) {off : Nat} {vs : List Byte}
    (h : off + vs.length ≤ 4096 * chain.length) :
    (Bsm.writeChain chain b off vs).readChain chain off vs.length = vs := by
  induction vs generalizing b off with
  | nil => rfl
  | cons v vs ih =>
    rw [List.length_cons] at h
    obtain ⟨a, ha⟩ := chainAddress_isSome (chain := chain) (k := off) (by omega)
    have kept : (Bsm.writeChain chain (b.writeByte a v) (off + 1) vs).readByte a = v := by
      rw [Bsm.readByte_writeChain_of_forall_ne fun k h1 _ hk => by
        have := chainAddress_injective distinct hk ha
        omega]
      exact (b.readByte_writeByte a a v).trans (if_pos rfl)
    simp only [List.length_cons, Bsm.readChain, Bsm.writeChain, ha, Option.elim_some, kept]
    rw [ih _ (by omega)]

/-- The bytes before those written are as they were (R49). -/
theorem Bsm.readChain_writeChain_before {chain : List Block} (distinct : chain.Nodup) (b : Bsm) (off : Nat) (vs : List Byte) :
    (Bsm.writeChain chain b off vs).readChain chain 0 off = b.readChain chain 0 off :=
  Bsm.readChain_congr fun _ _ h2 _ ha => Bsm.readByte_writeChain_of_forall_ne fun _ h3 _ hk => by
    have := chainAddress_injective distinct hk ha
    omega

theorem length_bytesOf (ws : List Word) : (bytesOf ws).length = 4 * ws.length := by
  induction ws with
  | nil => rfl
  | cons w ws ih =>
    rw [bytesOf] at ih
    simp only [bytesOf, List.flatMap_cons, List.length_append, ih, wordBytes, List.length_cons, List.length_nil]
    omega

/-! ## The block on top of the stack -/

/-- Where the stack has a block on top, that block is taken, and the store memory is as it was (R2). -/
theorem Bsm.pop_of_stack {b : Bsm} {n : Block} {rest : List Nat} (h : b.stack = n.val :: rest) :
    ∃ c, b.pop = some (n, c) ∧ c.store = b.store := by
  unfold Bsm.stack at h
  unfold Bsm.pop
  cases top : b.freeTop with
  | cons m ms =>
    simp only [top, List.map_cons, List.cons_append, List.cons.injEq] at h
    obtain rfl : m = n := Fin.ext h.1
    exact ⟨_, rfl, rfl⟩
  | nil =>
    rw [top, List.map_nil, List.nil_append] at h
    have room : Config.blocks - b.fresh ≠ 0 := fun e => by simp [e] at h
    have fresh : b.fresh < 131072 := by
      simp only [Config.blocks] at room
      omega
    have first : b.fresh = n.val := by
      rw [← Nat.succ_pred_eq_of_ne_zero room, List.range'_succ] at h
      exact (List.cons.inj h).1
    obtain rfl : n = ⟨b.fresh, fresh⟩ := Fin.ext first.symm
    exact ⟨_, dif_pos fresh, rfl⟩

/-- Without a reservation, and with A at the floor, a block is refused (R8). -/
theorem Bsm.allocate_eq_none {b : Bsm} (h : b.available ≤ b.floor) (last : Option Block) : b.allocate 0 last = none :=
  if_neg (by omega)

/-- A page takes the block on top of the stack, from its reservation or else from the pool; the block is linked behind the page's
last block with END in its own link, and the store memory is as it was (R3, R7). -/
theorem Bsm.allocate_of_stack {b : Bsm} {remaining : Nat} {n : Block} {rest : List Nat}
    (granted : 0 < remaining ∨ b.floor < b.available) (top : b.stack = n.val :: rest) (last : Option Block) :
    ∃ c, b.allocate remaining last = some (n, remaining - 1, c) ∧ c.stack = rest ∧ c.store = b.store
      ∧ c.reserved = (if 0 < remaining then b.reserved - 1 else b.reserved)
      ∧ ∀ m, c.link m = if last = some m then some n else if m = n then none else b.link m := by
  have taken : ∃ c, b.allocate remaining last = some (n, remaining - 1, c) ∧ c.store = b.store := by
    obtain ⟨x, pop, store⟩ := Bsm.pop_of_stack top
    have linked : (last.elim (x.setLink n none) (fun m => (x.setLink n none).setLink m (some n))).store = b.store := by
      cases last <;> exact store
    unfold Bsm.allocate
    rw [if_pos granted, pop]
    dsimp only
    split
    · exact ⟨_, rfl, linked⟩
    · rename_i unreserved
      obtain rfl : remaining = 0 := Nat.eq_zero_of_not_pos unreserved
      exact ⟨_, rfl, linked⟩
  obtain ⟨c, allocated, store⟩ := taken
  obtain ⟨stack, reserved, -, -, -, link⟩ := Bsm.allocate_some allocated
  refine ⟨c, allocated, (List.cons.inj (stack.symm.trans top)).2, store, ?_, link⟩
  split <;> omega

/-! ## The intake hold test -/

/-- The intake hold test reaches the STORE cause and the station slots alone (R11). -/
theorem State.holdTest_frame (s : State) : s.holdTest.bsm.stack = s.bsm.stack ∧ s.holdTest.bsm.links = s.bsm.links
    ∧ s.holdTest.bsm.reserved = s.bsm.reserved ∧ s.holdTest.bsm.store = s.bsm.store
    ∧ (∀ m, s.holdTest.context m = s.context m) ∧ s.holdTest.dt = s.dt ∧ s.holdTest.te = s.te := by
  obtain ⟨hold, h⟩ := s.holdTest_notices
  rw [h.rest]
  exact ⟨rfl, rfl, rfl, rfl, fun _ => rfl, rfl, rfl⟩

/-! ## A complete record -/

/-- The counts R48 makes, with the longest run written as a comparison. -/
theorem Counts.count_eq (c : Counts) (status : Nat) : c.count status =
    if status = 0 then ⟨c.lines + 1, c.bad, c.repaired, 0, c.longest⟩
    else if status = 1 then ⟨c.lines + 1, c.bad, c.repaired + 1, 0, c.longest⟩
    else ⟨c.lines + 1, c.bad + 1, c.repaired, c.run + 1, if c.longest < c.run + 1 then c.run + 1 else c.longest⟩ := by
  have longest : max c.longest (c.run + 1) = if c.longest < c.run + 1 then c.run + 1 else c.longest := by
    split <;> omega
  unfold Counts.count
  rw [longest]

variable (s : State) (n : Nat) (c : Context) (p : OpenPage) (ws : List Word)

/-- The state in which a record has been written behind the bytes of a page whose chain is `blocks`, in the block store `b`, and
counted, `remaining` blocks staying reserved. -/
def State.recordWritten (b : Bsm) (remaining : Nat) (blocks : List Block) : State :=
  State.setContext { s with bsm := Bsm.writeChain blocks b p.storedBytes (bytesOf ws) } n
    (some { c with parser := .empty, reservation := remaining, openPage := some (p.withRecord blocks ws) })

theorem State.storeRecord_lineLimit (h : p.counts.lines = 32767) :
    s.storeRecord n c p ws = (s.setContext n (some (c.stopWith (fun f => f.truncate .lineLimit))), false) :=
  if_pos h

/-- The record fits the page's last block (R49 case 2). -/
theorem State.storeRecord_fits (lines : p.counts.lines < 32767) (fits : 4 * ws.length ≤ p.room) :
    s.storeRecord n c p ws = (s.recordWritten n c p ws s.bsm c.reservation p.blocks, false) :=
  (if_neg (Nat.ne_of_lt lines)).trans (if_pos fits)

theorem State.storeRecord_sizeLimit (lines : p.counts.lines < 32767) (overflow : p.room < 4 * ws.length)
    (size : 256 ≤ p.blocks.length) :
    s.storeRecord n c p ws = (s.setContext n (some (c.stopWith (fun f => f.truncate .sizeLimit))), false) :=
  (if_neg (Nat.ne_of_lt lines)).trans ((if_neg (Nat.not_le.2 overflow)).trans (if_pos size))

/-- The record needs a block (R49 case 3): what `Bsm.allocate` makes of it. -/
theorem State.storeRecord_allocates (lines : p.counts.lines < 32767) (overflow : p.room < 4 * ws.length)
    (size : p.blocks.length < 256) :
    s.storeRecord n c p ws = (s.bsm.allocate c.reservation p.blocks.getLast?).elim
      (s.setContext n (some (c.stopWith (fun f => f.truncate .storeExhausted))), true)
      (fun x => ((s.recordWritten n c p ws x.2.2 x.2.1 (p.blocks ++ [x.1])).holdTest, false)) := by
  refine (if_neg (Nat.ne_of_lt lines)).trans ((if_neg (Nat.not_le.2 overflow)).trans ((if_neg (Nat.not_le.2 size)).trans ?_))
  cases s.bsm.allocate c.reservation p.blocks.getLast? <;> rfl

/-- A block is refused (R8, R50). -/
theorem State.storeRecord_refused (lines : p.counts.lines < 32767) (overflow : p.room < 4 * ws.length)
    (size : p.blocks.length < 256) (unreserved : c.reservation = 0) (atFloor : s.bsm.available ≤ s.bsm.floor) :
    s.storeRecord n c p ws = (s.setContext n (some (c.stopWith (fun f => f.truncate .storeExhausted))), true) := by
  rw [s.storeRecord_allocates n c p ws lines overflow size, unreserved, Bsm.allocate_eq_none atFloor, Option.elim_none]

/-- A block is taken (R7): the record is written across the chain with that block, in a block store that holds the bytes it held
before, and the intake hold test that follows reaches neither the store nor the contexts. -/
theorem State.storeRecord_newBlock {b : Block} {rest : List Nat} (lines : p.counts.lines < 32767)
    (overflow : p.room < 4 * ws.length) (size : p.blocks.length < 256)
    (granted : 0 < c.reservation ∨ s.bsm.floor < s.bsm.available) (top : s.bsm.stack = b.val :: rest) :
    ∃ (x : Bsm) (t u : State), u = s.recordWritten n c p ws x (c.reservation - 1) (p.blocks ++ [b])
      ∧ s.storeRecord n c p ws = (t, false) ∧ x.store = s.bsm.store ∧ t.bsm.store = u.bsm.store ∧ t.bsm.stack = rest
      ∧ t.bsm.reserved = (if 0 < c.reservation then s.bsm.reserved - 1 else s.bsm.reserved)
      ∧ (∀ m, t.bsm.link m = if p.blocks.getLast? = some m then some b else if m = b then none else s.bsm.link m)
      ∧ (∀ m, t.context m = u.context m) ∧ t.dt = s.dt ∧ t.te = s.te := by
  obtain ⟨x, allocated, stack, store, reserved, link⟩ := Bsm.allocate_of_stack granted top p.blocks.getLast?
  obtain ⟨hstack, hlinks, hreserved, hstore, hcontext, hdt, hte⟩ :=
    (s.recordWritten n c p ws x (c.reservation - 1) (p.blocks ++ [b])).holdTest_frame
  obtain ⟨wstack, wlinks, wreserved⟩ := Bsm.writeChain_rest (p.blocks ++ [b]) x p.storedBytes (bytesOf ws)
  refine ⟨x, _, _, rfl, ?_, store, hstore, hstack.trans (wstack.trans stack), hreserved.trans (wreserved.trans reserved),
    fun m => ?_, hcontext, hdt, hte⟩
  · rw [s.storeRecord_allocates n c p ws lines overflow size, allocated, Option.elim_some]
  · rw [Bsm.link, hlinks.trans wlinks]
    exact link m

/-- The bytes after a record is written in a page of distinct blocks, whatever the intake hold test then does: the
record stands behind the bytes stored before, and no other byte has changed (R49). -/
theorem State.recordWritten_read {t : State} {b : Bsm} {remaining : Nat} {blocks : List Block} (distinct : blocks.Nodup)
    (room : p.storedBytes + 4 * ws.length ≤ 4096 * blocks.length)
    (store : t.bsm.store = (s.recordWritten n c p ws b remaining blocks).bsm.store) :
    t.bsm.readChain blocks p.storedBytes (4 * ws.length) = bytesOf ws
      ∧ t.bsm.readChain blocks 0 p.storedBytes = b.readChain blocks 0 p.storedBytes
      ∧ ∀ a, (∀ k, p.storedBytes ≤ k → k < p.storedBytes + 4 * ws.length → chainAddress blocks k ≠ some a) →
          t.bsm.readByte a = b.readByte a := by
  have written : t.bsm.store = (Bsm.writeChain blocks b p.storedBytes (bytesOf ws)).store := store
  rw [← length_bytesOf] at room ⊢
  refine ⟨?_, ?_, fun a ha => ?_⟩
  · rw [Bsm.readChain_of_store written]
    exact Bsm.readChain_writeChain distinct b room
  · rw [Bsm.readChain_of_store written]
    exact Bsm.readChain_writeChain_before distinct b _ _
  · have other := Bsm.readByte_writeChain_of_forall_ne (b := b) ha
    rw [← other, Bsm.readByte, written, Bsm.readByte]

theorem State.recordWritten_context (b : Bsm) (remaining : Nat) (blocks : List Block) :
    (s.recordWritten n c p ws b remaining blocks).context n =
      some { c with parser := .empty, reservation := remaining, openPage := some (p.withRecord blocks ws) } :=
  State.context_setContext_same _ _ _

/-! ## The parser -/

theorem recordWords_eq_one (w : Word) : recordWords w = 1 ↔ recordLength w = 0 := by
  unfold recordWords
  omega

/-- A record is all there when it has the words its header calls for (R46). -/
theorem State.parseWord_of_assembling {w x : Word} (hc : s.context n = some c) (hp : c.openPage = some p)
    (q : c.parser = .assembling (w :: ws)) : s.parseWord n x =
      if ws.length + 2 = recordWords w then s.storeRecord n c p (w :: ws ++ [x])
      else (s.setContext n (some { c with parser := .assembling (w :: ws ++ [x]) }), false) := by
  have length : (w :: ws ++ [x]).length = ws.length + 2 := by simp
  simp only [State.parseWord, hc, hp, q, length]
  rfl

/-- A header, by the length it gives (R46, R47). -/
theorem State.parseWord_of_empty {w : Word} (hc : s.context n = some c) (hp : c.openPage = some p) (q : c.parser = .empty) :
    s.parseWord n w =
      if 4092 < recordLength w then (s.setContext n (some (c.stopWith PageFlags.framing)), false)
      else if recordLength w = 0 then s.storeRecord n c p [w]
      else (s.setContext n (some { c with parser := .assembling [w] }), false) := by
  simp only [State.parseWord, hc, hp, q, recordWords_eq_one]

theorem State.parseWord_of_stopped {w : Word} (hc : s.context n = some c) (hp : c.openPage = some p)
    (q : c.parser = .stopped) : s.parseWord n w = (s, false) := by
  simp only [State.parseWord, hc, hp, q]

end Sys2Proof.Machine

open Sys2Proof.Machine

/-- Settles O32: the parser by its state, and the record by what the page and the block store have room for. -/
theorem recordStored : Obligations.RecordStored := by
  refine ⟨?parser, ?storage⟩
  case parser =>
    intro s n c p w k hc hp hk
    have words : recordWords w = k := hk.symm
    have stop : c.stopWith PageFlags.framing =
        { c with parser := .stopped, openPage := some { p with flags := { p.flags with framingError := true } } } := by
      rw [Context.stopWith, hp]
      rfl
    refine ⟨s.parseWord_of_stopped n c p hc hp, fun q long => ?_, fun q zero => ?_, fun q low high => ?_,
      fun ws x q => ⟨fun last => ?_, fun more => ?_⟩⟩
    · rw [s.parseWord_of_empty n c p hc hp q, if_pos (show 4092 < recordLength w from long), stop]
    · have length : recordLength w = 0 := zero
      rw [s.parseWord_of_empty n c p hc hp q, if_neg (by omega), if_pos length]
    · have length : 1 ≤ recordLength w ∧ recordLength w ≤ 4092 := ⟨low, high⟩
      rw [s.parseWord_of_empty n c p hc hp q, if_neg (by omega), if_neg (by omega)]
    · rw [s.parseWord_of_assembling n c p ws hc hp q, words, if_pos last]
    · rw [s.parseWord_of_assembling n c p ws hc hp q, words, if_neg (Nat.ne_of_lt more)]
  case storage =>
    intro s n c p ws t full k hk distinct _ short stored run
    have counted : k = p.counts.count (recordStatus (ws.headD 0)) := hk.trans (Counts.count_eq _ _).symm
    have room : p.room = 4096 * p.blocks.length - p.storedBytes := rfl
    have answer {u : State} {f : Bool} (h : s.storeRecord n c p ws = (u, f)) : full = f ∧ t = u :=
      (Prod.mk.inj (run.symm.trans h)).symm
    refine ⟨fun lines => ?_, fun lines fits => ?_, fun lines overflow size => ?_,
      fun lines overflow size unreserved atFloor => ?_, fun b rest lines overflow size granted top fresh => ?_⟩
    · exact answer (s.storeRecord_lineLimit n c p ws lines)
    · obtain ⟨hfull, rfl⟩ := answer (s.storeRecord_fits n c p ws lines (by omega))
      obtain ⟨record, before, others⟩ := s.recordWritten_read n c p ws distinct fits rfl
      obtain ⟨stack, links, reserved⟩ := Bsm.writeChain_rest p.blocks s.bsm p.storedBytes (bytesOf ws)
      have context := s.recordWritten_context n c p ws s.bsm c.reservation p.blocks
      rw [OpenPage.withRecord, ← counted] at context
      exact ⟨hfull, record, before, others, context, links, stack, reserved, rfl, rfl⟩
    · exact answer (s.storeRecord_sizeLimit n c p ws lines (by omega) size)
    · exact answer (s.storeRecord_refused n c p ws lines (by omega) size unreserved atFloor)
    · have config := (s.steady_storeRecord n c p ws).config
      rw [run] at config
      obtain ⟨x, u, _, rfl, written, kept, store, stack, reserved, link, contexts, dt, te⟩ :=
        s.storeRecord_newBlock n c p ws lines (by omega) size granted top
      obtain ⟨hfull, rfl⟩ := answer written
      obtain ⟨record, before, others⟩ := s.recordWritten_read n c p ws (List.concat_eq_append ▸ distinct.concat fresh)
        (by rw [List.length_append, List.length_singleton]; omega) store
      have context := (contexts n).trans (s.recordWritten_context n c p ws x (c.reservation - 1) (p.blocks ++ [b]))
      have remaining : c.reservation - 1 = if 0 < c.reservation then c.reservation - 1 else 0 := by split <;> omega
      rw [OpenPage.withRecord, ← counted, remaining] at context
      have last : p.blocks.getLast? ≠ some b := fun e => fresh (List.mem_of_getLast? e)
      refine ⟨hfull, stack, reserved, ?_, fun m hm => ?_, fun m hm hl => ?_, record, ?_, fun a ha => ?_, context,
        fun m hm => (contexts m).trans (State.context_setContext_ne _ hm _), dt, te, config⟩
      · rw [link, if_neg last, if_pos rfl]
      · rw [link, if_pos hm]
      · rw [link, if_neg hl, if_neg hm]
      · rw [before, Bsm.readChain_of_store kept, Bsm.readChain_append _ _ _ (by omega)]
      · rw [others a ha, Bsm.readByte, kept, Bsm.readByte]
end

-- ==== Proofs: what a station reads of a document ====
section
/-!
SUPPORT. The view of a document (R80, R81): which of its entries a station sees, and the words of every part of DOC_INFO and of
PAGE_INFO from what it sees.
-/

namespace Sys2Proof.Machine

/-! ## Who may name a document -/

/-- Slot `slot` may name document `i` (R80): it holds ADMINISTER, or it holds DELIVER and a destination of the document is bound
to it. -/
abbrev State.MayName (s : State) (slot i : Nat) : Prop :=
  (s.rights slot).administer = true ∨ ((s.rights slot).deliver = true
    ∧ ∃ x ∈ (s.document i).entryList, (s.destination x.2.destination).bound = some slot)

variable (s : State) {slot : Nat} {r : Record}

theorem State.visible_iff (i : Nat) : s.visible slot i = true ↔
    ∃ x ∈ (s.document i).entryList, (s.destination x.2.destination).bound = some slot := by
  simp [State.visible, State.boundTo]

theorem Rights.deliveryViewer_of_administer {x : Rights} (h : x.administer = true) : x.deliveryViewer = false := by
  simp [Rights.deliveryViewer, h]

theorem Rights.deliveryViewer_of_deliver {x : Rights} (ha : x.administer = false) (hd : x.deliver = true) :
    x.deliveryViewer = true := by
  simp [Rights.deliveryViewer, ha, hd]

theorem State.viewCheck_taken (h : Handle) (f : Unit → Handled) :
    (s.taken slot).viewCheck slot h f = s.viewCheck slot h f := by
  simp [State.viewCheck]

/-- The checks of R80 let a slot through that may name the document under its present generation. -/
theorem State.viewCheck_of_mayName {h : Handle} (hv : s.MayName slot h.index)
    (hg : h.generation = (s.document h.index).generation) (f : Unit → Handled) : s.viewCheck slot h f = f () := by
  have fresh : s.stale h = false := by simp [State.stale, hg]
  rcases hv with ha | ⟨hd, hx⟩
  · simp [State.viewCheck, ha, fresh, Rights.deliveryViewer_of_administer ha]
  · simp [State.viewCheck, hd, fresh, (s.visible_iff _).2 hx]

/-- A delivery viewer that may not name the document is refused (R80). -/
theorem State.viewCheck_notVisible {h : Handle} (ha : (s.rights slot).administer = false) (hd : (s.rights slot).deliver = true)
    (hg : h.generation = (s.document h.index).generation)
    (hx : ∀ x ∈ (s.document h.index).entryList, (s.destination x.2.destination).bound ≠ some slot) (f : Unit → Handled) :
    s.viewCheck slot h f = .refused .notVisible := by
  have fresh : s.stale h = false := by simp [State.stale, hg]
  have hidden : s.visible slot h.index = false :=
    Bool.eq_false_iff.2 fun seen => by
      obtain ⟨x, hm, hb⟩ := (s.visible_iff _).1 seen
      exact hx x hm hb
  simp [State.viewCheck, hd, fresh, hidden, Rights.deliveryViewer_of_deliver ha hd]

/-! ## The document as it is seen -/

theorem readCells_filterMap {α : Type} (f : Nat → Option α) (l : List Nat) (p : Nat) :
    readCells none (l.filterMap (fun q => (f q).map (fun e => (q, some e)))) p = if p ∈ l then f p else none := by
  induction l with
  | nil => rfl
  | cons q l ih =>
    by_cases hq : p = q
    · subst hq
      cases hf : f p with
      | none => simp [hf, ih]
      | some e => simp [hf, readCells]
    · cases hf : f q with
      | none => simp [hf, ih, hq]
      | some e => simp [hf, ih, hq, readCells]

@[simp] theorem State.view_taken (viewer : Bool) (d : Document) :
    (s.taken slot).view slot viewer d = s.view slot viewer d := rfl

theorem State.view_entry {d : Document} {p : Nat} (viewer : Bool) (hp : p ∈ positions) :
    (s.view slot viewer d).entry p = (d.entry p).filter (fun e => !viewer || s.boundTo slot e.destination) := by
  have seen : (s.view slot viewer d).entry p = s.viewEntry slot viewer d p :=
    (readCells_filterMap (s.viewEntry slot viewer d) positions p).trans (if_pos hp)
  rw [seen, State.viewEntry]
  cases d.entry p with
  | none => rfl
  | some e => cases viewer <;> cases h : s.boundTo slot e.destination <;> simp [Option.filter, h]

/-- A viewer's delivery list has the entries that are its own (R81). -/
theorem State.view_entryList (viewer : Bool) (d : Document) : (s.view slot viewer d).entryList =
    d.entryList.filter (fun x => !viewer || s.boundTo slot x.2.destination) := by
  rw [Document.entryList, Document.entryList, List.filter_filterMap]
  refine List.filterMap_congr fun p hp => ?_
  rw [s.view_entry viewer hp]
  cases d.entry p with
  | none => rfl
  | some e => cases h : (!viewer || s.boundTo slot e.destination) <;> simp [Option.filter, h]

theorem State.view_false_entryList (d : Document) : (s.view slot false d).entryList = d.entryList := by
  rw [s.view_entryList]
  simp

theorem State.view_outstanding (viewer : Bool) (d : Document) : (s.view slot viewer d).outstandingSet.length =
    (d.entryList.filter (fun x => x.2.outstanding && (!viewer || s.boundTo slot x.2.destination))).length := by
  rw [Document.outstandingSet, List.length_map, s.view_entryList, List.filter_filter]

theorem State.view_false_outstanding (d : Document) :
    (s.view slot false d).outstandingSet.length = d.outstandingSet.length := by
  rw [Document.outstandingSet, s.view_false_entryList, Document.outstandingSet]

/-! ## The words of DOC_INFO -/

theorem Document.flags_eq (d : Document) : d.flags =
    (if d.incomplete then 1 else 0) + (if d.poorPages then 2 else 0) + (if d.truncatedPages then 4 else 0) := by
  unfold Document.flags bit
  cases d.poorPages <;> cases d.truncatedPages <;> rfl

theorem entryWords_some (e : Entry) : entryWords (some e) =
    [word e.state.code, word e.destination, optWord e.original, word e.attempts, word e.ticket] ++ optUptime e.deadline
      ++ (optUptime e.settleTime).take 1 := by
  have settled : [(optUptime e.settleTime).headD absentWord] = (optUptime e.settleTime).take 1 := by
    cases e.settleTime <;> rfl
  rw [entryWords, settled]

theorem partWords_entry (viewer : Bool) (d : Document) (jobs : Nat) {p : Nat} (h : 4 ≤ p) :
    partWords viewer d jobs p = entryWords (d.entry (p - 3)) := by
  obtain ⟨k, rfl⟩ := Nat.exists_eq_add_of_le' h
  rfl

theorem mem_positions {p : Nat} : p ∈ positions ↔ 1 ≤ p ∧ p ≤ 8 := by
  simp only [positions, List.mem_cons, List.not_mem_nil, or_false]
  omega

variable {w1 w2 : Word}

/-- DOC_INFO of a slot that may name the document: the words of one part of its view, a reserved part read as part 0 (R82). -/
theorem execDocInfo_of_takes (h : s.Takes slot 0x30 r) (hw : r.words = [w1, w2])
    (hv : s.MayName slot (decodeHandle w1).index)
    (hg : (decodeHandle w1).generation = (s.document (decodeHandle w1).index).generation) {part : Nat}
    (hp : part = w2.toNat ∧ part < 12 ∨ part = 0 ∧ 12 ≤ w2.toNat) {viewer : Bool} (hr : (s.rights slot).deliveryViewer = viewer) :
    exec (.docInfo slot) s = .next (s.replying slot (r.reply .ok (word part ::
      partWords viewer (s.view slot viewer (s.document (decodeHandle w1).index)) (s.activeJobs (decodeHandle w1).index)
        part))) := by
  have asked : (if w2.toNat < 12 then w2.toNat else 0) = part := by
    rcases hp with ⟨rfl, h⟩ | ⟨rfl, h⟩
    · exact if_pos h
    · exact if_neg (Nat.not_lt.2 h)
  subst hr
  show execDocInfo slot s = _
  rw [execDocInfo, s.command_of_takes h]
  simp only [hw, State.viewCheck_taken, s.viewCheck_of_mayName hv hg, State.answerRecord, State.taken_fill,
    State.rights_taken, State.view_taken, State.document_taken, State.activeJobs_taken, asked]

/-- The same for the parts 4 to 11: the entry at a position, where the slot sees it. -/
theorem execDocInfo_entry (h : s.Takes slot 0x30 r) (hw : r.words = [w1, w2])
    (hv : s.MayName slot (decodeHandle w1).index)
    (hg : (decodeHandle w1).generation = (s.document (decodeHandle w1).index).generation)
    {viewer : Bool} (hr : (s.rights slot).deliveryViewer = viewer) (low : 4 ≤ w2.toNat) (high : w2.toNat ≤ 11) :
    exec (.docInfo slot) s = .next (s.replying slot (r.reply .ok (word w2.toNat ::
      entryWords (((s.document (decodeHandle w1).index).entry (w2.toNat - 3)).filter
        (fun e => !viewer || s.boundTo slot e.destination))))) := by
  rw [execDocInfo_of_takes s h hw hv hg (.inl ⟨rfl, by omega⟩) hr, partWords_entry _ _ _ low,
    s.view_entry viewer (mem_positions.2 (by omega))]

theorem execDocInfo_notVisible (h : s.Takes slot 0x30 r) (hw : r.words = [w1, w2])
    (ha : (s.rights slot).administer = false) (hd : (s.rights slot).deliver = true)
    (hg : (decodeHandle w1).generation = (s.document (decodeHandle w1).index).generation)
    (hx : ∀ x ∈ (s.document (decodeHandle w1).index).entryList, (s.destination x.2.destination).bound ≠ some slot) :
    exec (.docInfo slot) s = .next (s.replying slot (r.reply .notVisible [])) := by
  show execDocInfo slot s = _
  rw [execDocInfo, s.command_of_takes h]
  simp only [hw, State.viewCheck_taken, s.viewCheck_notVisible ha hd hg hx, State.answerRecord, State.taken_fill]

/-! ## The words of PAGE_INFO -/

theorem PageFlags.word_eq (f : PageFlags) : f.word = Machine.word ((if f.truncated.isSome then 1 else 0)
    + 2 * truncationCode f.truncated + (if f.framingError then 8 else 0) + (if f.ragged then 16 else 0)
    + (if f.poorForced then 32 else 0)) := by
  unfold PageFlags.word bit
  cases f.framingError <;> cases f.ragged <;> cases f.poorForced <;> rfl

/-- PAGE_INFO of a slot that may name the document: the committed page of a number from 1 up, where there is one (R83). -/
theorem execPageInfo_of_takes (h : s.Takes slot 0x31 r) (hw : r.words = [w1, w2])
    (hv : s.MayName slot (decodeHandle w1).index)
    (hg : (decodeHandle w1).generation = (s.document (decodeHandle w1).index).generation) {found : Option PageRecord}
    (hf : found = if w2.toNat = 0 then none
      else ((s.document (decodeHandle w1).index).pages[w2.toNat - 1]?).bind s.page) :
    exec (.pageInfo slot) s = .next (s.replying slot (found.elim (r.reply .badField []) (fun p => r.reply .ok p.words))) := by
  subst hf
  show execPageInfo slot s = _
  rw [execPageInfo, s.command_of_takes h]
  simp only [hw, State.viewCheck_taken, s.viewCheck_of_mayName hv hg, State.document_taken]
  have pages : (s.taken slot).page = s.page := rfl
  cases w2.toNat with
  | zero => simp [State.answerRecord, State.taken_fill]
  | succ k =>
    cases page : ((s.document (decodeHandle w1).index).pages[k]?).bind s.page <;>
      simp [pages, page, State.answerRecord, State.taken_fill]

end Sys2Proof.Machine

open Sys2Proof.Machine

/-- Settles O33: the view of an ADMINISTER station is the document itself, part by part. -/
theorem docInfo : Obligations.DocInfo := by
  intro s slot r w1 w2 d h hw ha hd hg
  subst hd
  have right := Rights.deliveryViewer_of_administer ha
  have read (part : Nat) (hp : part = w2.toNat ∧ part < 12 ∨ part = 0 ∧ 12 ≤ w2.toNat) :=
    execDocInfo_of_takes s h hw (.inl ha) hg hp right
  have readEntry := execDocInfo_entry s h hw (.inl ha) hg right
  refine ⟨fun part => ?state, fun part => read 1 (by omega), fun part => read 2 (by omega), fun part => read 3 (by omega),
    fun e low high he => ?entry, fun low high he => ?absent⟩
  case state =>
    rw [read 0 (by omega), partWords, stateWords, s.view_false_entryList, s.view_false_outstanding, ← Document.flags_eq]
    rfl
  case entry =>
    rw [readEntry low high, he, Option.filter_some_pos rfl, entryWords_some]
    rfl
  case absent =>
    rw [readEntry low high, he]
    rfl

/-- Settles O34: the view of a delivery viewer, part by part; an entry bound elsewhere is not in it. -/
theorem deliveryView : Obligations.DeliveryView := by
  intro s slot r w1 w2 d h hw ha hdeliver hd hg
  subst hd
  refine ⟨execDocInfo_notVisible s h hw ha hdeliver hg, fun seen => ?_⟩
  have right := Rights.deliveryViewer_of_deliver ha hdeliver
  have read (part : Nat) (hp : part = w2.toNat ∧ part < 12 ∨ part = 0 ∧ 12 ≤ w2.toNat) :=
    execDocInfo_of_takes s h hw (.inr ⟨hdeliver, seen⟩) hg hp right
  have readEntry := execDocInfo_entry s h hw (.inr ⟨hdeliver, seen⟩) hg right
  have absent (low : 4 ≤ w2.toNat) (high : w2.toNat ≤ 11)
      (he : ((s.document (decodeHandle w1).index).entry (w2.toNat - 3)).filter (fun e => !true || s.boundTo slot e.destination)
        = none) : exec (.docInfo slot) s = .next (s.replying slot (r.reply .ok
          ([word w2.toNat, word 0] ++ List.replicate 7 0xFFFFFFFF))) := by
    rw [readEntry low high, he]
    rfl
  refine ⟨fun part => ?state, fun part => read 1 (by omega), fun part => read 2 (by omega), fun part => read 3 (by omega),
    fun low high he => absent low high (by rw [he]; rfl), fun e low high he => ⟨fun other => ?elsewhere, fun own => ?entry⟩⟩
  case state =>
    rw [read 0 (by omega), partWords, stateWords, s.view_entryList, s.view_outstanding, ← Document.flags_eq]
    rfl
  case elsewhere =>
    refine absent low high ?_
    rw [he]
    exact Option.filter_some_neg (by simp [State.boundTo, other])
  case entry =>
    rw [readEntry low high, he, Option.filter_some_pos (by simp [State.boundTo, own]), entryWords_some]
    rfl

/-- Settles O35: a number is a committed page's exactly from 1 to the number of pages. -/
theorem pageInfo : Obligations.PageInfo := by
  intro s slot r w1 w2 d h hw hd hg hv
  subst hd
  have read {found : Option PageRecord} (hf : found = _) := execPageInfo_of_takes s h hw hv hg hf
  refine ⟨fun out => ?_, fun q p low hq hp => ?_⟩
  · refine read (found := none) ?_
    split
    · rfl
    · rw [List.getElem?_eq_none (by omega), Option.bind_none]
  · have page := read (found := some p) (by rw [if_neg (by omega), hq, Option.bind_some, hp])
    rwa [Option.elim_some, PageRecord.words, PageFlags.word_eq] at page
end

-- ==== Proofs: records listed, and the status of a destination ====
section
/-!
SUPPORT. The search of LIST_DOCS as a filter of the record numbers (R87), and the words of DEST_STATUS (R122).
-/

namespace Sys2Proof.Machine

theorem passesFilter_eq (f : Nat) (st : DocState) :
    passesFilter f st = decide (if f ≤ 5 then st.code = f else st ≠ .free) := by
  unfold passesFilter
  split <;> rfl

variable (s : State) {slot : Nat} {r : Record}

/-- The search keeps the first records of its range that pass. -/
theorem State.collectDocs_eq (f fuel room i : Nat) : s.collectDocs f fuel room i =
    ((List.range' i fuel).filter (fun j => passesFilter f (s.document j).state)).take room := by
  induction fuel generalizing room i with
  | zero => simp [State.collectDocs]
  | succ fuel ih =>
    cases room with
    | zero => simp [State.collectDocs]
    | succ room =>
      rw [State.collectDocs, List.range'_succ, List.filter_cons]
      split
      · rw [List.take_succ_cons, ih]
      · rw [ih]

/-- A filter of the numbers from `start` up, among all those below a bound. -/
theorem filter_range'_eq (p : Nat → Bool) {start bound : Nat} (h : start ≤ bound) :
    (List.range' start (bound - start)).filter p = (List.range bound).filter (fun i => decide (start ≤ i) && p i) := by
  have split : List.range bound = List.range' 0 start ++ List.range' start (bound - start) := by
    have joined := List.range'_append_1 (s := 0) (m := start) (n := bound - start)
    rw [Nat.zero_add, Nat.add_sub_cancel' h] at joined
    rw [joined, List.range_eq_range']
  have below : (List.range' 0 start).filter (fun i => decide (start ≤ i) && p i) = [] :=
    List.filter_eq_nil_iff.2 fun i hi => by
      have := List.mem_range'_1.1 hi
      simp [show ¬ start ≤ i by omega]
  have above : (List.range' start (bound - start)).filter (fun i => decide (start ≤ i) && p i) =
      (List.range' start (bound - start)).filter p :=
    List.filter_congr fun i hi => by simp [(List.mem_range'_1.1 hi).1]
  rw [split, List.filter_append, below, above, List.nil_append]

@[simp] theorem State.collectDocs_taken (f fuel room i : Nat) :
    (s.taken slot).collectDocs f fuel room i = s.collectDocs f fuel room i := by
  simp [State.collectDocs_eq]

/-- LIST_DOCS of a slot holding ADMINISTER: the handles of the records it finds (R87). -/
theorem execListDocs_of_takes {w1 w2 : Word} (h : s.Takes slot 0x34 r) (hw : r.words = [w1, w2])
    (right : (s.rights slot).administer = true) {found : List Nat}
    (hf : found = ((List.range 4096).filter (fun i => decide (min w2.toNat 4095 ≤ i)
      && passesFilter w1.toNat (s.document i).state)).take 12) :
    exec (.listDocs slot) s = .next (s.replying slot (r.reply .ok
      ([word found.length, word (resumeIndex found)] ++ found.map (fun i => (s.handleOf i).word)))) := by
  rw [← filter_range'_eq _ (by omega), ← State.collectDocs_eq] at hf
  subst hf
  show execListDocs slot s = _
  rw [execListDocs, s.command_of_takes h]
  simp [hw, right, State.answerRecord, State.taken_fill, Config.documents]

variable {w1 : Word}

theorem destOf_eq (w : Word) : destOf w = min w.toNat 31 := clamp_zero _ _

/-- DEST_STATUS of a slot that holds ADMINISTER or is bound to the destination (R122). -/
theorem execDestStatus_of_takes (h : s.Takes slot 0x54 r) (hw : r.words = [w1]) {n : Nat} (hn : n = min w1.toNat 31)
    {d : Destination} (hd : d = s.destination n)
    (right : (s.rights slot).administer = true ∨ ((s.rights slot).any = true ∧ d.bound = some slot)) :
    exec (.destStatus slot) s = .next (s.replying slot (r.reply .ok
      ([word n, word d.state.code, boundWord d.bound, word d.holdTime, word d.attemptLimit, word d.checkoutLimit,
        word d.queue.length, word d.urgent.length, word d.checkouts.length, headWord d,
        word (bit (decide (s.rtu.fallback = some n)))] ++ countedString d.label))) := by
  subst hd hn
  have any : (s.rights slot).any = true := right.elim (fun ha => by simp [Rights.any, ha]) And.left
  have sees : (!(s.rights slot).administer && !s.boundTo slot (min w1.toNat 31)) = false := by
    rcases right with ha | ⟨-, hb⟩
    · simp [ha]
    · simp [State.boundTo, hb]
  show execDestStatus slot s = _
  rw [execDestStatus, s.command_of_takes h]
  simp [hw, any, sees, destOf_eq, State.answerRecord, State.taken_fill]

theorem execDestStatus_notVisible (h : s.Takes slot 0x54 r) (hw : r.words = [w1])
    (ha : (s.rights slot).administer = false) (any : (s.rights slot).any = true)
    (hb : (s.destination (min w1.toNat 31)).bound ≠ some slot) :
    exec (.destStatus slot) s = .next (s.replying slot (r.reply .notVisible [])) := by
  have hidden : s.boundTo slot (min w1.toNat 31) = false := by simp [State.boundTo, hb]
  show execDestStatus slot s = _
  rw [execDestStatus, s.command_of_takes h]
  simp [hw, any, ha, hidden, destOf_eq, State.answerRecord, State.taken_fill]

end Sys2Proof.Machine

open Sys2Proof.Machine

/-- Settles O38: the search as a filter of the record numbers, and the destination's words. -/
theorem listDocsAndDestStatus : Obligations.ListDocsAndDestStatus := by
  refine ⟨?list, ?status⟩
  case list =>
    intro s slot r w1 w2 found h hw right hf
    refine execListDocs_of_takes s h hw right (hf.trans ?_)
    simp only [passesFilter_eq, Bool.decide_and]
  case status =>
    intro s slot r w1 n d h hw hn hd
    refine ⟨fun right => ?_, fun ha any hb => execDestStatus_notVisible s h hw ha any (by rwa [← hn, ← hd])⟩
    have fallback : bit (decide (s.rtu.fallback = some n)) = if s.rtu.fallback = some n then 1 else 0 := by simp [bit]
    rw [execDestStatus_of_takes s h hw hn hd right, fallback, ← List.length_append, headWord, Destination.queue]
    cases (d.urgent ++ d.normal).head? <;> rfl
end

-- ==== Proofs: a document freed ====
section
/-!
SUPPORT. All that freeing a document does (R74), and when the release test does it (R73).
-/

namespace Sys2Proof.Machine

/-- Pushing blocks reaches the stack alone. -/
theorem Bsm.pushAll_eq (b : Bsm) (ns : List Block) :
    ∃ top fresh, b.pushAll ns = { b with freeTop := top, fresh := fresh } := by
  induction ns generalizing b with
  | nil => exact ⟨b.freeTop, b.fresh, rfl⟩
  | cons n ns ih =>
    have first : ∃ top fresh, b.push n = { b with freeTop := top, fresh := fresh } := by
      unfold Bsm.push
      split <;> exact ⟨_, _, rfl⟩
    obtain ⟨_, _, first⟩ := first
    obtain ⟨top, fresh, rest⟩ := ih (b.push n)
    exact ⟨top, fresh, rest.trans (by rw [first])⟩

theorem Bsm.free_pushAll (b : Bsm) (ns : List Block) : (b.pushAll ns).free = b.free + ns.length := by
  rw [← Bsm.length_stack, (b.stack_pushAll ns).length_eq, List.length_append, List.length_map, Bsm.length_stack, Nat.add_comm]

theorem SameStore.of_eq {s t : State} (store : t.bsm.store = s.bsm.store) (links : t.bsm.links = s.bsm.links) :
    SameStore s t :=
  ⟨fun a => by rw [Bsm.readByte, store, Bsm.readByte], fun b => by rw [Bsm.link, links, Bsm.link]⟩

theorem SameStore.trans {s t u : State} (h : SameStore s t) (k : SameStore t u) : SameStore s u :=
  ⟨fun a => (k.bytes a).trans (h.bytes a), fun b => (k.links b).trans (h.links b)⟩

/-- What the freeing of document `i` does (R74): the record keeps its generation and its opening slot, its page records return to
the pool and its blocks to the stack, and nothing else changes but the STORE cause and what notices bring. -/
structure State.Frees (s t : State) (i : Nat) : Prop where
  document : t.document i = { Document.free with
    generation := (s.document i).generation, openingSlot := (s.document i).openingSlot }
  documents : SameDocumentsBut s t i
  returned : ∀ p ∈ (s.document i).pages, t.page p = none
  pages : ∀ p, p ∉ (s.document i).pages → t.page p = s.page p
  free : t.bsm.free = s.bsm.free + (s.documentBlocks (s.document i)).length
  reserved : t.bsm.reserved = s.bsm.reserved
  iu : t.iu = s.iu
  dqu : t.dqu = s.dqu
  te : t.te = s.te
  config : SameConfig s t
  store : SameStore s t

variable (s : State)

theorem State.freePages_eq (ps : List Nat) : ∃ dt, s.freePages ps = { s with dt := dt } := by
  unfold State.freePages
  induction ps generalizing s with
  | nil => exact ⟨s.dt, rfl⟩
  | cons p ps ih => exact ih (s.setPage p none)

/-- The intake hold test writes the STORE cause, tested while the part is READY, and sends notices (R11, R13). -/
theorem State.holdTest_eq : ∃ (hold : Bool) (spu : Spu),
    s.holdTest = { s with spu := spu, bsm := { s.bsm with storeHold := hold } }
      ∧ (s.part = .ready → hold = s.bsm.storeTest) := by
  obtain ⟨hold, told⟩ := s.holdTest_notices
  refine ⟨hold, s.holdTest.spu, told.rest, fun ready => ?_⟩
  have tested := congrArg Bsm.storeHold (s.upTo_holdTest ready).bsm
  rwa [told.rest] at tested

/-- The state after a document is freed: blocks on the stack, records in the document table, a cause of the hold, and what
notices bring to the slots. -/
theorem State.freeDocument_eq (i : Nat) : ∃ (b : Bsm) (hold : Bool) (spu : Spu) (dt : Dt),
    b = s.bsm.pushAll (s.documentBlocks (s.document i))
      ∧ s.freeDocument i = { s with spu := spu, bsm := { b with storeHold := hold }, dt := dt }
      ∧ (s.part = .ready → hold = b.storeTest) := by
  obtain ⟨hold, spu, told, tested⟩ :=
    State.holdTest_eq { s with bsm := s.bsm.pushAll (s.documentBlocks (s.document i)) }
  obtain ⟨dt, pages⟩ := (s.releaseBlocks (s.documentBlocks (s.document i))).freePages_eq (s.document i).pages
  refine ⟨_, hold, spu, (s.freeDocument i).dt, rfl, ?_, tested⟩
  rw [State.freeDocument, pages, State.releaseBlocks, told]
  rfl

theorem State.page_freeDocument (i p : Nat) :
    (s.freeDocument i).page p = if p ∈ (s.document i).pages then none else s.page p := by
  obtain ⟨-, -, -, -, -, dt⟩ := s.releaseBlocks_rest (s.documentBlocks (s.document i))
  have released : (s.releaseBlocks (s.documentBlocks (s.document i))).page p = s.page p :=
    congrArg (fun x => x.pages.read none p) dt
  rw [State.freeDocument, State.page_setDocument, State.page_freePages, released]

theorem State.frees_freeDocument (i : Nat) : s.Frees (s.freeDocument i) i := by
  have document (j : Nat) := s.document_freeDocument i j
  have page (p : Nat) := s.page_freeDocument i p
  obtain ⟨b, hold, spu, dt, hb, eq, -⟩ := s.freeDocument_eq i
  obtain ⟨top, fresh, pushed⟩ := s.bsm.pushAll_eq (s.documentBlocks (s.document i))
  refine ⟨(document i).trans (if_pos rfl), fun j hj => (document j).trans (if_neg hj), fun p hp => (page p).trans (if_pos hp),
    fun p hp => (page p).trans (if_neg hp), ?_, ?_, ?_, s.freeDocument_dqu i, ?_, (s.steady_freeDocument i).config, ?_⟩
  · rw [eq, ← Bsm.free_pushAll, ← hb]
    rfl
  · rw [eq, hb, pushed]
  · rw [eq]
  · rw [eq]
  · refine .of_eq ?_ ?_ <;> rw [eq, hb, pushed]

/-- The STORE cause once a document has been freed while the part is READY (R10, R11). -/
theorem State.storeHold_freeDocument (i : Nat) (ready : s.part = .ready) : (s.freeDocument i).bsm.storeHold =
    if (s.freeDocument i).bsm.available < s.bsm.lowMark then true
    else if s.bsm.releaseMark ≤ (s.freeDocument i).bsm.available then false else s.bsm.storeHold := by
  obtain ⟨b, hold, spu, dt, hb, eq, tested⟩ := s.freeDocument_eq i
  obtain ⟨top, fresh, pushed⟩ := s.bsm.pushAll_eq (s.documentBlocks (s.document i))
  rw [eq, tested ready, hb, pushed]
  rfl

theorem State.releasable_iff (i : Nat) : s.releasable i = true ↔ (s.document i).state = .done
    ∧ (∃ t, (s.document i).retentionDeadline = some t ∧ t ≤ s.tb.uptime) ∧ (s.document i).legalHold = false
    ∧ s.activeJobs i = 0 ∧ (s.document i).outstandingSet = [] := by
  have due : (s.document i).retentionDeadline.any (fun t => decide (t ≤ s.tb.uptime)) = true ↔
      ∃ t, (s.document i).retentionDeadline = some t ∧ t ≤ s.tb.uptime := by
    cases (s.document i).retentionDeadline <;> simp
  simp [State.releasable, due, and_assoc]

theorem State.releaseTest_of_releasable {i : Nat} (h : s.releasable i = true) : s.releaseTest i = s.freeDocument i := if_pos h

/-- A document that is not DONE, not due, under legal hold or read by a job is not released (R73). -/
theorem State.releaseTest_of_kept {i : Nat} (h : (s.document i).state ≠ .done
    ∨ (∀ t, (s.document i).retentionDeadline = some t → s.tb.uptime < t) ∨ (s.document i).legalHold = true
    ∨ 0 < s.activeJobs i) : s.releaseTest i = s := by
  refine if_neg fun released => ?_
  obtain ⟨done, ⟨t, due, passed⟩, clear, idle, -⟩ := (s.releasable_iff i).1 released
  rcases h with h | h | h | h
  · exact h done
  · exact absurd (h t due) (Nat.not_lt.2 passed)
  · simp [clear] at h
  · omega

theorem exec_retentionExpiry (i : Nat) (ready : s.part = .ready) : exec (.retentionExpiry i) s = .next (s.releaseTest i) :=
  congrArg Host.Outcome.next (if_pos ready)

end Sys2Proof.Machine

open Sys2Proof.Machine

/-- Settles O8: the expiry is the release test, which frees the document exactly where all its conditions hold. -/
theorem retentionExpiry : Obligations.RetentionExpiry := by
  refine ⟨fun s i deadline ready done due passed clear idle settled => ⟨s.freeDocument i, ?_, ?_⟩, fun s i kept => ?_⟩
  · rw [exec_retentionExpiry s i ready, s.releaseTest_of_releasable]
    exact (s.releasable_iff i).2 ⟨done, ⟨deadline, due, passed⟩, clear, idle, settled⟩
  · have freed := s.frees_freeDocument i
    exact ⟨freed.document, freed.documents, freed.returned, freed.pages, freed.free, freed.reserved,
      s.storeHold_freeDocument i ready, freed.iu, freed.dqu, freed.te, freed.config, freed.store⟩
  · by_cases ready : s.part = .ready
    · rw [exec_retentionExpiry s i ready, s.releaseTest_of_kept]
      rcases kept with h | h | h | h | h
      · exact absurd ready h
      · exact .inl h
      · exact .inr (.inr (.inl h))
      · exact .inr (.inr (.inr h))
      · exact .inr (.inl h)
    · exact congrArg Host.Outcome.next (if_neg ready)
end

-- ==== Proofs: the attributes of a document ====
section
/-!
SUPPORT. A SET_DOC_ATTR request field by field (R84), the document with what its requester may write (R85, R86), and the command
up to its release test.
-/

namespace Sys2Proof.Machine

theorem toNat_eq_one_iff (w : Word) : w.toNat = 1 ↔ w = 1 :=
  ⟨fun h => BitVec.eq_of_toNat_eq h, fun h => by rw [h]; rfl⟩

/-- The request of the words R84 lists, a string that comes with a KEEP ignored (log 37). -/
def attrRequest (w1 w2 w3 w4 w5 : Word) (cs : List Byte) : AttrRequest where
  handle := decodeHandle w1
  matter := if w2.toNat = 1 then some cs else none
  legalHold := decodeSetting w3
  retentionClass := if w4.toNat ≤ 7 then some w4.toNat else none
  confidential := decodeSetting w5

theorem attrFields_of_countedAs {ws : List Word} {cs : List Byte} (w1 w2 w3 w4 w5 : Word) (h : CountedAs ws cs) :
    attrFields (w1 :: w2 :: w3 :: w4 :: w5 :: ws) = some (attrRequest w1 w2 w3 w4 w5 cs) := by
  have whole : takeString ws = some (cs, []) := by simpa using takeString_of_countedAs h []
  simp [attrFields, whole, attrRequest]

theorem getD_decodeSetting (w : Word) (b : Bool) :
    (decodeSetting w).getD b = if w = 0 then false else if w = 1 then true else b := by
  simp only [decodeSetting, toNat_eq_zero_iff, toNat_eq_one_iff]
  split <;> (try split) <;> rfl

variable (s : State) {slot : Nat} {r : Record} {w1 w2 w3 w4 w5 : Word} {cs : List Byte}

theorem matter_attrRequest (d : Document) : ((attrRequest w1 w2 w3 w4 w5 cs).matter.map (fun cs => cs.take labelLimit)).getD d.matter
    = if w2 = 1 then cs.take 16 else d.matter := by
  simp only [attrRequest, toNat_eq_one_iff]
  split <;> rfl

theorem isCut_attrRequest : bit ((attrRequest w1 w2 w3 w4 w5 cs).matter.any (isCut labelLimit))
    = if w2 = 1 ∧ 16 < cs.length then 1 else 0 := by
  simp only [attrRequest, toNat_eq_one_iff]
  by_cases h : w2 = 1
  · rw [if_pos h]
    simp [h, bit, isCut, labelLimit]
  · rw [if_neg h, if_neg (fun k => h k.1)]
    rfl

/-- A delivery viewer writes the matter reference alone (R85). -/
theorem State.withAttributes_viewer (d : Document) : s.withAttributes d (attrRequest w1 w2 w3 w4 w5 cs) true =
    { d with matter := if w2 = 1 then cs.take 16 else d.matter } := by
  rw [State.withAttributes, matter_attrRequest, if_pos rfl]

/-- An ADMINISTER station writes all four fields, and the deadline of a DONE document follows a new class (R86). -/
theorem State.withAttributes_administer (d : Document) : s.withAttributes d (attrRequest w1 w2 w3 w4 w5 cs) false =
    { d with
      matter := if w2 = 1 then cs.take 16 else d.matter
      legalHold := if w3 = 0 then false else if w3 = 1 then true else d.legalHold
      retentionClass := if w4.toNat ≤ 7 then w4.toNat else d.retentionClass
      confidential := if w5 = 0 then false else if w5 = 1 then true else d.confidential
      retentionDeadline := match d.settleTime with
        | some t => if d.state = .done ∧ w4.toNat ≤ 7 then some (t + 60000 * s.retentionMinutes w4.toNat)
            else d.retentionDeadline
        | none => d.retentionDeadline } := by
  rw [State.withAttributes, matter_attrRequest, if_neg (by decide)]
  simp only [attrRequest, getD_decodeSetting, Document.mk.injEq, true_and]
  refine ⟨?_, ?_⟩
  · split <;> rfl
  · by_cases hc : w4.toNat ≤ 7
    · cases hs : d.state <;> cases ht : d.settleTime <;> simp [hc, State.deadlineFor]
    · cases ht : d.settleTime <;> simp [hc]

/-- SET_DOC_ATTR of a slot that may name a document in use: what it may write is written, and for an ADMINISTER station the release
test is made (R84 to R86). -/
theorem execSetDocAttr_of_takes {q : AttrRequest} (h : s.Takes slot 0x32 r) (hq : attrFields r.words = some q) {i : Nat}
    (hi : i = q.handle.index) (hv : s.MayName slot i) (hg : q.handle.generation = (s.document i).generation)
    (inUse : (s.document i).state ≠ .free) (kept : (s.document i).state ≠ .purgePending) {viewer : Bool}
    (hr : (s.rights slot).deliveryViewer = viewer) {d : Document} (hd : d = s.withAttributes (s.document i) q viewer)
    {t : State} (ht : t = if viewer then (s.taken slot).setDocument i d
      else ((s.taken slot).setDocument i d).releaseTest i) :
    exec (.setDocAttr slot) s = .next (t.fillReservation slot (r.reply .ok
      ([word (bit (q.matter.any (isCut labelLimit))), heldFrom viewer (word (bit d.legalHold)),
        heldFrom viewer (word d.retentionClass), word (bit d.confidential), word (t.document i).state.code]
        ++ countedString d.matter))) := by
  have written : (s.taken slot).withAttributes = s.withAttributes := rfl
  subst hi hr hd ht
  show execSetDocAttr slot s = _
  rw [execSetDocAttr, s.command_of_takes h]
  simp only [hq, State.viewCheck_taken, s.viewCheck_of_mayName hv hg, State.document_taken, State.rights_taken, written]
  cases hs : (s.document q.handle.index).state with
  | free => exact absurd hs inUse
  | purgePending => exact absurd hs kept
  | receiving => rfl
  | queued => rfl
  | unrouted => rfl
  | done => rfl

theorem execSetDocAttr_wrongState {q : AttrRequest} (h : s.Takes slot 0x32 r) (hq : attrFields r.words = some q)
    (hv : s.MayName slot q.handle.index) (hg : q.handle.generation = (s.document q.handle.index).generation)
    (gone : (s.document q.handle.index).state = .free ∨ (s.document q.handle.index).state = .purgePending) :
    exec (.setDocAttr slot) s = .next (s.replying slot (r.reply .wrongState [])) := by
  show execSetDocAttr slot s = _
  rw [execSetDocAttr, s.command_of_takes h]
  simp only [hq, State.viewCheck_taken, s.viewCheck_of_mayName hv hg, State.document_taken]
  rcases gone with hs | hs <;> simp only [hs, State.answerRecord, State.taken_fill]

/-- A document written between a record's taking and its answer: nothing else changes but the slot's queues. -/
theorem State.fill_setDocument (i : Nat) (d : Document) (x : Reply) :
    ((s.taken slot).setDocument i d).fillReservation slot x = (s.setDocument i d).replying slot x :=
  s.fill_eq_replying slot _ _ x rfl rfl rfl

end Sys2Proof.Machine

open Sys2Proof.Machine

/-- Settles O36: the document written with what the requester may write, and the release test of an ADMINISTER station. -/
theorem setDocAttr : Obligations.SetDocAttr := by
  intro s slot r w1 w2 w3 w4 w5 ws cs matter d d' h hw hcs hd hg hmatter hd'
  subst hd
  set i := (decodeHandle w1).index
  set d := s.document i
  have fields : attrFields r.words = some (attrRequest w1 w2 w3 w4 w5 cs) := by
    rw [hw]
    exact attrFields_of_countedAs w1 w2 w3 w4 w5 hcs
  have full : d' = s.withAttributes d (attrRequest w1 w2 w3 w4 w5 cs) false := by
    rw [s.withAttributes_administer, ← hmatter]
    exact hd'
  have viewed : { d with matter := matter } = s.withAttributes d (attrRequest w1 w2 w3 w4 w5 cs) true := by
    rw [s.withAttributes_viewer, ← hmatter]
  have kept : d'.matter = matter ∧ d'.state = d.state ∧ d'.generation = d.generation ∧ d'.openingSlot = d.openingSlot
      ∧ d'.outstandingSet = d.outstandingSet := by
    rw [hd']
    exact ⟨rfl, rfl, rfl, rfl, rfl⟩
  obtain ⟨matter', state', generation', slot', outstanding'⟩ := kept
  refine ⟨fun gone right => execSetDocAttr_wrongState s h fields right hg gone,
    fun inUse unpurged right => ⟨fun unreleased => ?written, fun t0 done due passed clear idle settled => ?released⟩,
    fun inUse unpurged notAdmin right own => ?viewer⟩
  case viewer =>
    have run := execSetDocAttr_of_takes s h fields (i := i) rfl (.inr ⟨right, own⟩) hg inUse unpurged
      (Rights.deliveryViewer_of_deliver notAdmin right) viewed (if_pos rfl).symm
    rwa [isCut_attrRequest, State.document_setDocument_same, State.fill_setDocument] at run
  all_goals
    have run := execSetDocAttr_of_takes s h fields (i := i) rfl (.inl right) hg inUse unpurged
      (Rights.deliveryViewer_of_administer right) full (if_neg (by decide)).symm
    rw [isCut_attrRequest, matter'] at run
  case written =>
    rwa [State.releaseTest_of_kept _ (by rwa [State.document_setDocument_same, state']), State.document_setDocument_same,
      State.fill_setDocument, state'] at run
  case released =>
    set u := (s.taken slot).setDocument i d'
    have document : u.document i = d' := State.document_setDocument_same _ _ _
    have freed := u.frees_freeDocument i
    have due' : u.releasable i = true := (u.releasable_iff i).2 (by
      rw [document, state', outstanding']
      exact ⟨done, ⟨t0, due, passed⟩, clear, idle, settled⟩)
    have steady : s.Steady (u.freeDocument i) := ((s.steady_taken slot).trans (State.steady_setDocument _ i d')).trans
      (u.steady_freeDocument i)
    rw [State.releaseTest_of_releasable _ due', freed.document, clear] at run
    refine ⟨_, run, ?_, fun j hj => ?_, freed.iu, freed.dqu, freed.te,
      (steady.trans (State.steady_fillReservation _ slot _)).config, ⟨freed.store.bytes, freed.store.links⟩, State.getLast_fill _ _ _⟩
    · exact freed.document.trans (by rw [document, generation', slot'])
    · exact (freed.documents j hj).trans (State.document_setDocument_ne _ hj _)
end

-- ==== Proofs: jobs cancelled ====
section
/-!
SUPPORT. What cancelling jobs (R162) does to the jobs, to a document and to the store: jobs end or are left marked, the documents
they read have a deadline of a checkout set anew or are freed by the last of their jobs (R161), and the store memory is not
written.
-/

namespace Sys2Proof.Machine

/-! ## The jobs -/

/-- The kind is that of a delivery job reading pages of document record `i`. -/
def JobKind.reads (i : Nat) : JobKind → Bool
  | .intake _ => false
  | .delivery d => decide (d.handle.index = i)

theorem Job.reads_eq (j : Job) (i : Nat) : j.reads i = j.kind.reads i := by
  unfold Job.reads JobKind.reads
  cases j.kind <;> rfl

/-- What of a job only its cancellation changes. -/
def Job.bond (j : Job) : JobKind × Bool × Bool := (j.kind, j.cancelled, j.detached)

/-- The bonds of the jobs in the engine, oldest first. -/
def State.bonds (s : State) : List (JobKind × Bool × Bool) := s.te.jobs.map Job.bond

theorem State.activeJobs_eq (s : State) (i : Nat) : s.activeJobs i = s.bonds.countP (fun b => b.1.reads i) := by
  rw [State.activeJobs, State.bonds, List.countP_map, List.countP_eq_length_filter]
  exact congrArg List.length (List.filter_congr fun j _ => j.reads_eq i)

theorem State.activeJobs_le {s t : State} (h : t.bonds.Sublist s.bonds) (i : Nat) : t.activeJobs i ≤ s.activeJobs i := by
  rw [State.activeJobs_eq, State.activeJobs_eq]
  exact h.countP_le

variable (s : State)

theorem State.bonds_replaceJob {j k : Job} (h : k.bond = j.bond) : (s.replaceJob j k).bonds = s.bonds :=
  List.map_replace_of_eq Job.bond h s.te.jobs

theorem State.bonds_assignChannels : s.assignChannels.bonds = s.bonds := by
  refine List.foldl_keeps (P := fun u : State => u.bonds = s.bonds) State.assignChannel (fun u c hu => ?_) _ rfl
  unfold State.assignChannel
  split
  · exact hu
  split
  · exact hu
  · rename_i j _
    exact (u.bonds_replaceJob (j := j) (k := { j with channel := some c }) rfl).trans hu

/-- A job that ends leaves the engine, and the others keep their bonds (R161). -/
theorem State.bonds_endJob (j : Job) (o : Status) : (s.endJob j o).bonds = (s.te.jobs.erase j).map Job.bond := by
  rw [State.bonds, s.jobs_endJob j o]
  exact State.bonds_assignChannels _

theorem State.bonds_endJob_sublist (j : Job) (o : Status) : (s.endJob j o).bonds.Sublist s.bonds := by
  rw [s.bonds_endJob]
  exact List.erase_sublist.map _

theorem State.approach_bond {j k : Job} {a : Word} (h : s.approach j a = .ok k) : k.bond = j.bond := by
  unfold State.approach at h
  split at h
  · cases h
  · dsimp only at h
    split at h
    · cases h
      rfl
    · cases h

/-- What the end of any job keeps, and what does not depend on the engine but for the bonds of its jobs, the engine's next steps
keep. -/
theorem State.runEngine_keeps {P : State → Prop} (ends : ∀ u j o, P u → P (u.endJob j o))
    (te : ∀ u x, x.jobs.map Job.bond = u.bonds → P u → P { u with te := x }) {s : State} (h : P s) : P s.runEngine := by
  have walks (fuel : Nat) (u : State) (hu : P u) : P (State.beginWalks fuel u) := by
    induction fuel generalizing u with
    | zero => exact hu
    | succ fuel ih =>
      unfold State.beginWalks
      split
      · exact hu
      split
      · rename_i k hk
        exact ih _ (te u _ (u.bonds_replaceJob (u.approach_bond hk)) hu)
      · exact ih _ (ends u _ _ hu)
  have request (u : State) (hu : P u) : P u.updateRequest := by
    unfold State.updateRequest
    split
    · exact hu
    split
    · exact te u _ rfl hu
    split
    · exact hu
    · exact te u _ rfl hu
  exact request _ (walks _ s h)

/-- The bonds once every job that passes a test has been marked cancelled. -/
def State.markedBonds (p : Job → Bool) (detach suppress : Bool) : List (JobKind × Bool × Bool) :=
  s.te.jobs.map (fun j => (if p j then j.cancelBy detach suppress else j).bond)

/-- What the end of any job keeps, a cancellation keeps from the marking of the jobs on (R162). -/
theorem State.cancelJobs_keeps {P : State → Prop} (ends : ∀ u j o, P u → P (u.endJob j o))
    (te : ∀ u x, x.jobs.map Job.bond = u.bonds → P u → P { u with te := x }) {p : Job → Bool} {detach suppress : Bool}
    (marked : ∀ x : Te, x.jobs.map Job.bond = s.markedBonds p detach suppress → P { s with te := x }) :
    P (s.cancelJobs p detach suppress) := by
  unfold State.cancelJobs
  refine State.runEngine_keeps ends te (List.foldl_keeps _ (fun u j hu => ends u j _ hu) _ (marked _ ?_))
  exact List.map_map

/-- After a cancellation the jobs left have the bonds the marking gave them (R162). -/
theorem State.bonds_cancelJobs (p : Job → Bool) (detach suppress : Bool) :
    (s.cancelJobs p detach suppress).bonds.Sublist (s.markedBonds p detach suppress) :=
  s.cancelJobs_keeps (P := fun u => u.bonds.Sublist (s.markedBonds p detach suppress))
    (fun u j o hu => (u.bonds_endJob_sublist j o).trans hu) (fun _ _ hx hu => (congrArg (List.Sublist · _) hx).mpr hu)
    (fun _ hx => hx ▸ .refl _)

/-- A job left by a cancellation is one that was there, marked where the cancellation reached it. -/
theorem State.mem_cancelJobs {p : Job → Bool} {detach suppress : Bool} {j : Job}
    (h : j ∈ (s.cancelJobs p detach suppress).te.jobs) :
    ∃ k ∈ s.te.jobs, (if p k then k.cancelBy detach suppress else k).bond = j.bond :=
  List.mem_map.1 ((s.bonds_cancelJobs p detach suppress).subset (List.mem_map_of_mem h))

/-- With no job in the engine a cancellation reaches no more than the engine's registers. -/
theorem State.cancelJobs_of_nil (h : s.te.jobs = []) (p : Job → Bool) (detach suppress : Bool) :
    ∃ x, s.cancelJobs p detach suppress = { s with te := x } ∧ x.jobs = [] := by
  unfold State.cancelJobs
  simp only [h, List.map_nil, List.filter_nil, List.foldl_nil]
  show ∃ x, State.updateRequest _ = _ ∧ _
  unfold State.updateRequest
  split
  · exact ⟨_, rfl, rfl⟩
  split
  · exact ⟨_, rfl, rfl⟩
  split
  · exact ⟨_, rfl, rfl⟩
  · exact ⟨_, rfl, rfl⟩

/-! ## The store -/

theorem State.EngineMove.sameStore {s t : State} (h : s.EngineMove t) : SameStore s t := by
  cases h with
  | notified h => exact .of_eq (by rw [h.rest]) (by rw [h.rest])
  | free i _ => exact (s.frees_freeDocument i).store
  | te _ _ _ => exact .of_eq rfl rfl
  | fill _ _ => exact .of_eq rfl rfl
  | context _ _ _ _ _ _ _ _ => exact .of_eq rfl rfl
  | deadline _ _ _ _ _ => exact .of_eq rfl rfl

theorem State.Engine.sameStore {s t : State} (h : s.Engine t) : SameStore s t := by
  induction h with
  | refl => exact .of_eq rfl rfl
  | tail _ k ih => exact ih.trans k.sameStore

/-! ## A document -/

/-- From `d` to `d'` nothing has changed but entries that are CHECKED_OUT. -/
structure Document.Redated (d d' : Document) : Prop where
  rest : d' = { d with entries := d'.entries }
  entry : ∀ p, (∀ e, d.entry p = some e → e.state ≠ .checkedOut) → d'.entry p = d.entry p

theorem Document.Redated.refl (d : Document) : d.Redated d := ⟨rfl, fun _ _ => rfl⟩

theorem Document.Redated.freed {d d' : Document} (h : d.Redated d') : d'.freed = d.freed := by rw [h.rest]; rfl

theorem Document.Redated.setEntry {d d' : Document} (h : d.Redated d') {p : Nat} {e : Entry} (he : d'.entry p = some e)
    (hs : e.state = .checkedOut) (e' : Entry) : d.Redated (d'.setEntry p (some e')) := by
  refine ⟨by rw [h.rest]; rfl, fun q hq => ?_⟩
  by_cases hqp : q = p
  · subst hqp
    exact absurd hs (hq e ((h.entry q hq).symm.trans he))
  · rw [Document.entry_setEntry_ne _ hqp]
    exact h.entry q hq

/-- While jobs end, document `i` stays as `d` but for its CHECKED_OUT entries, until the end of its last job frees it (R161). -/
def State.Tends (s : State) (i : Nat) (d : Document) : Prop :=
  d.Redated (s.document i) ∨ (s.document i = d.freed ∧ s.activeJobs i = 0)

theorem State.Tends.freed {s : State} {i : Nat} {d : Document} (h : s.Tends i d) : (s.document i).freed = d.freed := by
  rcases h with h | ⟨h, -⟩
  · exact h.freed
  · rw [h]
    rfl

theorem State.Tends.fewer {s t : State} {i : Nat} {d : Document} (h : s.Tends i d) (hd : t.document i = s.document i)
    (hb : t.bonds.Sublist s.bonds) : t.Tends i d := by
  rcases h with h | ⟨h, idle⟩
  · exact .inl (hd ▸ h)
  · exact .inr ⟨hd.trans h, Nat.le_zero.1 (idle ▸ State.activeJobs_le hb i)⟩

/-- Step 2 of the end of a job touches no document but by the deadline of a CHECKED_OUT entry (R134). -/
theorem State.document_ownerEnd (j : Job) (i : Nat) : (s.ownerEnd j).document i = s.document i
    ∨ ∃ p e e', (s.document i).entry p = some e ∧ e.state = .checkedOut
      ∧ (s.ownerEnd j).document i = (s.document i).setEntry p (some e') := by
  unfold State.ownerEnd
  split
  · split
    · exact .inl rfl
    split
    · exact .inl rfl
    · exact .inl rfl
  · rename_i x _
    split
    · exact .inl rfl
    rename_i e he
    split
    · rename_i out
      by_cases hi : i = x.handle.index
      · subst hi
        exact .inr ⟨x.position, e, _, he, out.1, State.document_setDocument_same _ _ _⟩
      · exact .inl (State.document_setDocument_ne _ hi _)
    · exact .inl rfl

theorem State.Tends.ownerEnd {s : State} {i : Nat} {d : Document} (h : s.Tends i d) (j : Job) : (s.ownerEnd j).Tends i d := by
  have same : (s.ownerEnd j).bonds = s.bonds := congrArg (fun x => x.jobs.map Job.bond) (s.changes_ownerEnd j).te
  rcases s.document_ownerEnd j i with hd | ⟨p, e, e', he, out, hd⟩
  · exact h.fewer hd (same ▸ .refl _)
  · rcases h with h | ⟨h, -⟩
    · exact .inl (hd ▸ h.setEntry he out e')
    · rw [h] at he
      cases he

/-- Step 4 of the end of a job frees a document none of whose jobs is left, or touches none (R161, R76). -/
theorem State.Tends.documentEnd {s : State} {i : Nat} {d : Document} (h : s.Tends i d) (j : Job) :
    (s.documentEnd j).Tends i d := by
  have freeing (k : Nat) (idle : s.activeJobs k = 0) : (s.freeDocument k).Tends i d := by
    have te := (s.frees_freeDocument k).te
    have bonds : (s.freeDocument k).bonds.Sublist s.bonds := by rw [State.bonds, te]; exact .refl _
    have document := s.document_freeDocument k i
    by_cases hi : i = k
    · subst hi
      rw [if_pos rfl, h.freed] at document
      exact .inr ⟨document, Nat.le_zero.1 (idle ▸ State.activeJobs_le bonds i)⟩
    · exact h.fewer (document.trans (if_neg hi)) bonds
  unfold State.documentEnd
  split
  · exact h
  split
  · rename_i x _ idle
    split
    · exact freeing _ idle
    · unfold State.releaseTest
      split
      · exact freeing _ idle
      · exact h
    all_goals exact h
  · exact h

theorem State.Tends.endJob {s : State} {i : Nat} {d : Document} (h : s.Tends i d) (j : Job) (o : Status) :
    (s.endJob j o).Tends i d := by
  set u : State := { s with te := { s.te with jobs := s.te.jobs.erase j } }
  have erased : u.Tends i d := h.fewer rfl (List.erase_sublist.map _)
  have document : u.assignChannels.document i = u.document i := by
    obtain ⟨x, hx, -⟩ := u.assignChannels_te
    rw [hx]
    rfl
  have assigned : u.assignChannels.Tends i d := erased.fewer document (u.bonds_assignChannels ▸ .refl _)
  have owner := assigned.ownerEnd j
  unfold State.endJob
  refine State.Tends.documentEnd ?_ j
  dsimp only
  split
  · exact owner
  · exact owner.fewer rfl (.refl _)

theorem State.tends_cancelJobs (i : Nat) (p : Job → Bool) (detach suppress : Bool) :
    (s.cancelJobs p detach suppress).Tends i (s.document i) :=
  s.cancelJobs_keeps (P := fun u => u.Tends i (s.document i)) (fun _ j o h => h.endJob j o)
    (fun _ _ hx h => h.fewer rfl (hx ▸ .refl _)) (fun _ _ => .inl (.refl _))

end Sys2Proof.Machine
end

-- ==== Proofs: the entries of a purged document ====
section
/-!
SUPPORT. Step 1 of a PURGE (R78): each outstanding entry is withdrawn, leaving its queue or its checkout list, and a DRAINING
destination whose list so empties is CLOSED (R121). One entry first; then entries one after another, by their positions.
-/

namespace Sys2Proof.Machine

/-! ## A destination whose items go -/

/-- The destination once the items of document `i` at the positions named in a state have left: the QUEUED ones its queue, the
CHECKED_OUT ones its checkout list; a DRAINING one whose list was so emptied is CLOSED. -/
def Destination.without (y : Destination) (i : Nat) (named : EntryState → Nat → Bool) : Destination :=
  { y with
    checkouts := y.checkouts.filter (fun c => !(decide (c.handle.index = i) && named .checkedOut c.position))
    urgent := y.urgent.filter (fun x => !(decide (x.handle.index = i) && named .queued x.position))
    normal := y.normal.filter (fun x => !(decide (x.handle.index = i) && named .queued x.position))
    state := if y.state = .draining ∧ (List.range 9).any (named .checkedOut) = true
        ∧ y.checkouts.filter (fun c => !(decide (c.handle.index = i) && named .checkedOut c.position)) = [] then .closed
      else y.state }

theorem filter_not_and_false {α : Type} (f : α → Bool) (g : α → Nat) (n : Nat → Bool) (h : ∀ q, n q = false) (l : List α) :
    l.filter (fun x => !(f x && n (g x))) = l := List.filter_eq_self.2 fun x _ => by simp [h]

theorem filter_not_and_or {α : Type} (f : α → Bool) (g : α → Nat) (m n : Nat → Bool) (l : List α) :
    (l.filter (fun x => !(f x && m (g x)))).filter (fun x => !(f x && n (g x)))
      = l.filter (fun x => !(f x && (m (g x) || n (g x)))) := by
  rw [List.filter_filter]
  refine List.filter_congr fun x _ => ?_
  cases f x <;> cases m (g x) <;> cases n (g x) <;> rfl

theorem Destination.without_none (y : Destination) (i : Nat) {named : EntryState → Nat → Bool}
    (queued : ∀ q, named .queued q = false) (out : ∀ q, named .checkedOut q = false) : y.without i named = y := by
  have unlisted : (List.range 9).any (named .checkedOut) = false := List.any_eq_false.2 fun q _ => by simp [out]
  unfold Destination.without
  rw [filter_not_and_false _ _ _ out, filter_not_and_false _ _ _ queued, filter_not_and_false _ _ _ queued, unlisted,
    if_neg (by simp)]

/-- A DRAINING destination is CLOSED by the first or by the second set of items that go, or by neither: the list `Q` left by both
is empty where the list `P` left by the first is, and is that list where the second names none of its items. -/
theorem closed_twice (st : DestState) (a b : Bool) {P Q : Prop} [Decidable P] [Decidable Q] (emptied : P → Q)
    (unnamed : b = false → Q → P) :
    (if (if st = .draining ∧ a = true ∧ P then DestState.closed else st) = .draining ∧ b = true ∧ Q then DestState.closed
      else if st = .draining ∧ a = true ∧ P then .closed else st)
      = if st = .draining ∧ (a || b) = true ∧ Q then .closed else st := by
  by_cases hp : st = .draining ∧ a = true ∧ P
  · obtain ⟨rfl, rfl, p⟩ := hp
    simp [p, emptied p]
  · rw [if_neg hp]
    cases b with
    | true => simp
    | false =>
      rw [if_neg (by simp), if_neg fun k => hp ⟨k.1, by simpa using k.2.1, unnamed rfl k.2.2⟩]

/-- Items that go one set after the other are as items that go together, where the second set names delivery positions alone. -/
theorem Destination.without_without (y : Destination) (i : Nat) (m n : EntryState → Nat → Bool)
    (listed : ∀ q, n .checkedOut q = true → q < 9) :
    (y.without i m).without i n = y.without i (fun st q => m st q || n st q) := by
  have any : ((List.range 9).any (m .checkedOut) || (List.range 9).any (n .checkedOut))
      = (List.range 9).any (fun q => m .checkedOut q || n .checkedOut q) := by
    rw [Bool.eq_iff_iff]
    simp only [Bool.or_eq_true, List.any_eq_true, and_or_left, exists_or]
  have left := filter_not_and_or (fun c : Checkout => decide (c.handle.index = i)) (fun c => c.position) (m .checkedOut)
    (n .checkedOut) y.checkouts
  unfold Destination.without
  simp only [filter_not_and_or, ← any, Destination.mk.injEq, and_true]
  refine closed_twice _ _ _ (fun emptied => ?_) (fun none => ?_)
  · rw [← left, emptied, List.filter_nil]
  · have unlisted (q : Nat) : n .checkedOut q = false :=
      Bool.eq_false_iff.2 fun h => List.any_eq_false.1 none q (List.mem_range.2 (listed q h)) h
    simp only [unlisted, Bool.or_false, imp_self]

/-! ## One entry -/

/-- The entry of a document at position `p`, one of `ps`, is for destination `x` and in a state. -/
def Document.named (d : Document) (ps : List Nat) (x : Nat) (st : EntryState) (p : Nat) : Bool :=
  ps.contains p && (d.entry p).any (fun e => decide (e.destination = x ∧ e.state = st))

/-- An entry after a PURGE (R78 step 1). -/
def Entry.purged (e : Entry) (now : Nat) : Entry := if e.outstanding then e.settledAs .withdrawn now else e

theorem Entry.outstanding_purged (e : Entry) (now : Nat) : (e.purged now).outstanding = false := by
  unfold Entry.purged
  split
  · rfl
  · rename_i h
    exact Bool.eq_false_iff.2 h

/-- What step 1 of a PURGE of document `i` does for its entries at positions `ps`: they are purged and their items gone, and nothing
else changes but what notices bring. -/
structure State.Purges (s t : State) (i : Nat) (ps : List Nat) : Prop where
  frame : t = { s with spu := t.spu, dqu := t.dqu, dt := { s.dt with documents := t.dt.documents } }
  documents : SameDocumentsBut s t i
  rest : t.document i = { s.document i with entries := (t.document i).entries }
  entry : ∀ p, (t.document i).entry p =
    if p ∈ ps then ((s.document i).entry p).map (fun e => e.purged s.tb.uptime) else (s.document i).entry p
  destination : ∀ x, t.destination x = (s.destination x).without i ((s.document i).named ps x)

theorem Document.named_nil (d : Document) (x : Nat) (st : EntryState) (p : Nat) : d.named [] x st p = false := rfl

variable (s : State)

theorem State.purges_nil (i : Nat) : s.Purges s i [] where
  frame := rfl
  documents := fun _ _ => rfl
  rest := rfl
  entry := fun p => by simp
  destination := fun x => ((s.destination x).without_none i (fun _ => rfl) (fun _ => rfl)).symm

/-- Positions purged one set after the other. -/
theorem State.Purges.trans {s t u : State} {i : Nat} {ps qs : List Nat} (h : s.Purges t i ps) (k : t.Purges u i qs)
    (apart : ∀ p ∈ qs, p ∉ ps) (listed : ∀ p ∈ qs, p < 9) : s.Purges u i (ps ++ qs) where
  frame := by rw [k.frame, h.frame]
  documents := fun j hj => (k.documents j hj).trans (h.documents j hj)
  rest := by rw [k.rest, h.rest]
  entry := fun p => by
    have now : t.tb = s.tb := by rw [h.frame]
    rw [k.entry, h.entry, now]
    by_cases hq : p ∈ qs
    · simp [hq, apart p hq]
    · simp [hq]
  destination := fun x => by
    have named (st : EntryState) (p : Nat) : ((s.document i).named ps x st p || (t.document i).named qs x st p)
        = (s.document i).named (ps ++ qs) x st p := by
      unfold Document.named
      by_cases hq : p ∈ qs
      · rw [h.entry, if_neg (apart p hq)]
        simp [hq, apart p hq]
      · simp [hq]
    rw [k.destination, h.destination, Destination.without_without]
    · simp only [named]
    · intro q hq
      refine listed q ?_
      simp only [Document.named, Bool.and_eq_true, List.contains_eq_mem, decide_eq_true_eq] at hq
      exact hq.1

theorem State.changeDest_frame (n : Nat) (st : DestState) : s.changeDest n st =
    { s.setDestination n { s.destination n with state := st } with spu := (s.changeDest n st).spu } := by
  unfold State.changeDest
  dsimp only
  split
  · rfl
  · exact (State.notices_send _ _ _ _).rest

/-- A destination is CLOSED where it is DRAINING and its checkout list is empty; nothing else changes but what the notice brings
(R121). -/
theorem State.closeIfDrained_frame (n : Nat) :
    s.closeIfDrained n = { s with spu := (s.closeIfDrained n).spu, dqu := (s.closeIfDrained n).dqu } := by
  by_cases drained : (s.destination n).state = .draining ∧ (s.destination n).checkouts = []
  · rw [show s.closeIfDrained n = s.changeDest n .closed from if_pos drained, s.changeDest_frame]
    rfl
  · rw [show s.closeIfDrained n = s from if_neg drained]

theorem State.destination_closeIfDrained_same (n : Nat) : (s.closeIfDrained n).destination n = { s.destination n with
    state := if (s.destination n).state = .draining ∧ (s.destination n).checkouts = [] then .closed
      else (s.destination n).state } := by
  by_cases drained : (s.destination n).state = .draining ∧ (s.destination n).checkouts = []
  · rw [show s.closeIfDrained n = s.changeDest n .closed from if_pos drained, s.changeDest_frame, if_pos drained]
    exact s.destination_setDestination_same n _
  · rw [show s.closeIfDrained n = s from if_neg drained, if_neg drained]

theorem State.destination_closeIfDrained_ne {n x : Nat} (h : x ≠ n) :
    (s.closeIfDrained n).destination x = s.destination x := by
  by_cases drained : (s.destination n).state = .draining ∧ (s.destination n).checkouts = []
  · rw [show s.closeIfDrained n = s.changeDest n .closed from if_pos drained, s.changeDest_frame]
    exact s.destination_setDestination_ne h _
  · rw [show s.closeIfDrained n = s from if_neg drained]

variable {i p : Nat} {e : Entry}

theorem Document.named_singleton {d : Document} (he : d.entry p = some e) (x : Nat) (st : EntryState) (q : Nat) :
    d.named [p] x st q = (decide (q = p) && decide (e.destination = x ∧ e.state = st)) := by
  unfold Document.named
  by_cases hq : q = p
  · subst hq
    simp [he]
  · simp [hq]

/-- No items go for an entry that is neither QUEUED nor CHECKED_OUT, or for another destination. -/
theorem Destination.without_unlisted (y : Destination) {d : Document} {x : Nat} (he : d.entry p = some e)
    (h : e.destination = x → ¬ e.state.Listed) : y.without i (d.named [p] x) = y := by
  refine y.without_none i (fun q => ?_) (fun q => ?_) <;>
    rw [Document.named_singleton he, Bool.and_eq_false_imp] <;> intro _ <;> rw [decide_eq_false_iff_not] <;> intro k
  · exact h k.1 (.inl k.2)
  · exact h k.1 (.inr k.2)

/-- The item of a QUEUED entry leaves its destination's queue. -/
theorem Destination.without_queued (y : Destination) {d : Document} (he : d.entry p = some e) (hs : e.state = .queued) :
    y.without i (d.named [p] e.destination) = { y with
      urgent := y.urgent.filter (fun x => decide (¬ (x.handle.index = i ∧ x.position = p)))
      normal := y.normal.filter (fun x => decide (¬ (x.handle.index = i ∧ x.position = p))) } := by
  unfold Destination.without
  simp [Document.named_singleton he, hs]

/-- The item of a CHECKED_OUT entry leaves its destination's checkout list, and the destination closes where it was DRAINING and
the list is now empty. -/
theorem Destination.without_checkedOut (y : Destination) {d : Document} (hp : p < 9) (he : d.entry p = some e)
    (hs : e.state = .checkedOut) {left : List Checkout}
    (hl : left = y.checkouts.filter (fun x => decide (¬ (x.handle.index = i ∧ x.position = p)))) :
    y.without i (d.named [p] e.destination) = { y with
      checkouts := left
      state := if y.state = .draining ∧ left = [] then .closed else y.state } := by
  have named : (List.range 9).any (d.named [p] e.destination .checkedOut) = true :=
    List.any_eq_true.2 ⟨p, List.mem_range.2 hp, by simp [Document.named_singleton he, hs]⟩
  have items : y.checkouts.filter (fun c => !(decide (c.handle.index = i) && d.named [p] e.destination .checkedOut c.position))
      = left := hl ▸ List.filter_congr fun c _ => by simp [Document.named_singleton he, hs]
  unfold Destination.without
  rw [named, items]
  simp [Document.named_singleton he, hs]

/-- An entry that is absent or settled is left as it is. -/
theorem State.purges_settled (h : ∀ e, (s.document i).entry p = some e → e.outstanding = false) : s.Purges s i [p] where
  frame := rfl
  documents := fun _ _ => rfl
  rest := rfl
  entry := fun q => by
    by_cases hq : q = p
    · subst hq
      cases he : (s.document i).entry q with
      | none => simp
      | some e => simp [Entry.purged, h e he]
    · simp [hq]
  destination := fun x => by
    cases he : (s.document i).entry p with
    | none =>
      have unnamed (st : EntryState) (q : Nat) : (s.document i).named [p] x st q = false := by
        unfold Document.named
        by_cases hq : q = p
        · simp [hq, he]
        · simp [hq]
      exact ((s.destination x).without_none i (unnamed _) (unnamed _)).symm
    | some e =>
      exact (Destination.without_unlisted _ he fun _ => (Entry.settled_of_not_outstanding (h e he)).not_listed).symm

/-- An outstanding entry is withdrawn, and its items go. -/
theorem State.purges_outstanding {t : State} (he : (s.document i).entry p = some e) (out : e.outstanding = true)
    (frame : t = { s with spu := t.spu, dqu := t.dqu, dt := (s.settleEntry i p e .withdrawn).dt })
    (destination : ∀ x, t.destination x = (s.destination x).without i ((s.document i).named [p] x)) : s.Purges t i [p] := by
  have document (j : Nat) : t.document j = (s.settleEntry i p e .withdrawn).document j := by rw [frame]; rfl
  have own : t.document i = (s.document i).setEntry p (some (e.settledAs .withdrawn s.tb.uptime)) :=
    (document i).trans (State.document_setDocument_same _ _ _)
  refine ⟨by rw [frame]; rfl, fun j hj => (document j).trans (State.document_setDocument_ne _ hj _), by rw [own]; rfl,
    fun q => ?_, destination⟩
  rw [own, Document.entry_setEntry]
  by_cases hq : q = p
  · subst hq
    simp [he, Entry.purged, out]
  · simp [hq]

/-- Step 1 of a PURGE for one entry (R78). -/
theorem State.purges_purgeEntry (hp : p < 9) : s.Purges (s.purgeEntry i p) i [p] := by
  cases he : (s.document i).entry p with
  | none =>
    rw [show s.purgeEntry i p = s by simp [State.purgeEntry, he]]
    exact s.purges_settled fun e k => by simp [he] at k
  | some e =>
    have settled (out : e.outstanding = false) : s.Purges s i [p] :=
      s.purges_settled fun f k => by rwa [← Option.some.inj (he.symm.trans k)]
    simp only [State.purgeEntry, he]
    cases hs : e.state with
    | delivered => exact settled (by simp [Entry.outstanding, hs])
    | undeliverable => exact settled (by simp [Entry.outstanding, hs])
    | withdrawn => exact settled (by simp [Entry.outstanding, hs])
    | waiting =>
      exact s.purges_outstanding he (by simp [Entry.outstanding, hs]) rfl fun x =>
        (Destination.without_unlisted _ he fun _ => by simp [EntryState.Listed, hs]).symm
    | queued =>
      refine s.purges_outstanding he (by simp [Entry.outstanding, hs]) rfl fun x => ?_
      show (s.leaveQueue e.destination i p).destination x = _
      by_cases hx : x = e.destination
      · subst hx
        rw [Destination.without_queued _ he hs]
        exact s.destination_setDestination_same _ _
      · rw [Destination.without_unlisted _ he fun k => absurd k.symm hx]
        exact s.destination_setDestination_ne hx _
    | checkedOut =>
      refine s.purges_outstanding he (by simp [Entry.outstanding, hs]) ?_ fun x => ?_
      · rw [State.closeIfDrained_frame]
        rfl
      · by_cases hx : x = e.destination
        · subst hx
          have left : ((s.leaveCheckouts e.destination i p).settleEntry i p e .withdrawn).destination e.destination = _ :=
            s.destination_setDestination_same _ _
          rw [State.destination_closeIfDrained_same, left, Destination.without_checkedOut _ (by omega) he hs rfl]
        · rw [Destination.without_unlisted _ he fun k => absurd k.symm hx, State.destination_closeIfDrained_ne _ hx]
          exact s.destination_setDestination_ne hx _

/-- Step 1 of a PURGE, entry by entry (R78). -/
theorem State.purges_entries (i : Nat) : s.Purges (positions.foldl (fun s p => s.purgeEntry i p) s) i positions := by
  have fold (ps : List Nat) (distinct : ps.Nodup) (listed : ∀ p ∈ ps, p < 9) (u : State) :
      u.Purges (ps.foldl (fun s p => s.purgeEntry i p) u) i ps := by
    induction ps generalizing u with
    | nil => exact u.purges_nil i
    | cons p ps ih =>
      obtain ⟨fresh, distinct⟩ := List.nodup_cons.1 distinct
      refine (u.purges_purgeEntry (listed p List.mem_cons_self)).trans
        (ih distinct (fun q hq => listed q (List.mem_cons_of_mem _ hq)) _) (fun q hq h => ?_)
        (fun q hq => listed q (List.mem_cons_of_mem _ hq))
      exact fresh (List.mem_singleton.1 h ▸ hq)
  exact fold positions (by decide) (by decide) s

end Sys2Proof.Machine
end

-- ==== Proofs: a document purged ====
section
/-!
SUPPORT. A PURGE's steps put together (R78): the entries withdrawn, the jobs that read the document cancelled, and the document freed
or PURGE_PENDING. The first step reaches no job and the second no destination, so that each leaves what the other has done.
-/

namespace Sys2Proof.Machine

/-! ## Steps 2 and 3 of a PURGE -/

theorem Document.outstandingSet_eq_nil {d : Document}
    (h : ∀ p ∈ positions, ∀ e, d.entry p = some e → e.outstanding = false) : d.outstandingSet = [] := by
  rw [Document.outstandingSet, List.map_eq_nil_iff, List.filter_eq_nil_iff]
  intro x hx
  obtain ⟨p, hp, hx⟩ := List.mem_filterMap.1 hx
  obtain ⟨e, he, rfl⟩ := Option.map_eq_some_iff.1 hx
  simp [h p hp e he]

variable (s : State)

/-- Step 3 of a PURGE by what step 2 has left (R78). -/
theorem State.purgeFinish_eq (i : Nat) : s.purgeFinish i =
    if (s.document i).state = .free then s
    else if s.activeJobs i = 0 then s.freeDocument i
    else s.setDocument i { s.document i with state := .purgePending } := by
  unfold State.purgeFinish
  cases hs : (s.document i).state <;> simp [hs]

theorem State.purgeFinish_frame (i : Nat) :
    (s.purgeFinish i).te = s.te ∧ (s.purgeFinish i).dqu = s.dqu ∧ SameStore s (s.purgeFinish i) := by
  have freed := s.frees_freeDocument i
  rw [State.purgeFinish_eq]
  split
  · exact ⟨rfl, rfl, .of_eq rfl rfl⟩
  split
  · exact ⟨freed.te, freed.dqu, freed.store⟩
  · exact ⟨rfl, rfl, .of_eq rfl rfl⟩

/-- After its PURGE a document is FREE with no job of it left, or PURGE_PENDING with its entries purged (R78). -/
def State.PurgedAs (t : State) (i now : Nat) (d : Document) : Prop :=
  (t.activeJobs i = 0 ∧ t.document i = d.freed) ∨ (t.activeJobs i ≠ 0
    ∧ t.document i = { d with state := .purgePending, entries := (t.document i).entries }
    ∧ ∀ p ∈ positions, (t.document i).entry p = (d.entry p).map (fun e => e.purged now))

theorem State.PurgedAs.outstanding {t : State} {i now : Nat} {d : Document} (h : t.PurgedAs i now d) :
    (t.document i).outstandingSet = [] := by
  rcases h with ⟨-, h⟩ | ⟨-, -, h⟩
  · rw [h]
    rfl
  · refine Document.outstandingSet_eq_nil fun p hp e he => ?_
    rw [h p hp] at he
    obtain ⟨f, -, rfl⟩ := Option.map_eq_some_iff.1 he
    exact f.outstanding_purged now

theorem State.PurgedAs.outcome {t : State} {i now : Nat} {d : Document} (h : t.PurgedAs i now d) :
    (t.document i).generation = d.generation
      ∧ (t.document i).state = (if t.activeJobs i = 0 then .free else .purgePending)
      ∧ ((t.document i).state = .free → t.document i = d.freed)
      ∧ ((t.document i).state = .purgePending →
        t.document i = { d with state := .purgePending, entries := (t.document i).entries }
          ∧ ∀ p e, 1 ≤ p → p ≤ 8 → d.entry p = some e → (t.document i).entry p = some (e.purged now)) := by
  rcases h with ⟨idle, h⟩ | ⟨busy, rest, entries⟩
  · rw [if_pos idle, h]
    exact ⟨rfl, rfl, fun _ => rfl, nofun⟩
  · rw [if_neg busy]
    have state : (t.document i).state = .purgePending := by rw [rest]
    refine ⟨by rw [rest], state, fun free => by simp [state] at free, fun _ => ⟨rest, fun p e low high he => ?_⟩⟩
    rw [entries p (mem_positions.2 ⟨low, high⟩), he, Option.map_some]

theorem State.purgedAs_purgeFinish {u : State} {i now : Nat} {d : Document} (inUse : d.state ≠ .free)
    (purged : ∀ p ∈ positions, (u.document i).entry p = (d.entry p).map (fun e => e.purged now))
    (rest : u.document i = { d with entries := (u.document i).entries }) {v : State} (h : v.Tends i (u.document i)) :
    (v.purgeFinish i).PurgedAs i now d := by
  have gone : (u.document i).freed = d.freed := by rw [rest]; rfl
  rcases h with h | ⟨h, idle⟩
  · have state : (v.document i).state ≠ .free := by rw [h.rest, rest]; exact inUse
    by_cases idle : v.activeJobs i = 0
    · have freed := v.frees_freeDocument i
      rw [State.purgeFinish_eq, if_neg state, if_pos idle]
      refine .inl ⟨?_, ?_⟩
      · rw [State.activeJobs, freed.te]
        exact idle
      · rw [freed.document, ← gone, ← h.freed]
        rfl
    · rw [State.purgeFinish_eq, if_neg state, if_neg idle]
      refine .inr ⟨idle, ?_, fun p hp => ?_⟩
      · rw [State.document_setDocument_same, h.rest, rest]
      · rw [State.document_setDocument_same, ← purged p hp]
        refine h.entry p fun e he out => ?_
        rw [purged p hp] at he
        obtain ⟨f, -, rfl⟩ := Option.map_eq_some_iff.1 he
        have := f.outstanding_purged now
        simp [Entry.outstanding, out] at this
  · have state : (v.document i).state = .free := by rw [h]; rfl
    rw [State.purgeFinish_eq, if_pos state]
    exact .inl ⟨idle, h.trans gone⟩

/-! ## A PURGE of a complete document -/

/-- Jobs of one bond read the same document. -/
theorem Job.reads_of_bond {j k : Job} (h : k.bond = j.bond) (i : Nat) : k.reads i = j.reads i := by
  rw [Job.reads_eq, Job.reads_eq, show k.kind = j.kind from congrArg Prod.fst h]

/-- Every job that reads a document and is left by the cancellation of those jobs is marked (R162). -/
theorem State.cancelled_of_reads {i : Nat} {j : Job} (h : j ∈ (s.cancelJobs (fun j => j.reads i) false false).te.jobs)
    (hr : j.reads i = true) : j.cancelled = true := by
  obtain ⟨k, -, hk⟩ := s.mem_cancelJobs h
  by_cases reads : k.reads i = true
  · rw [if_pos reads] at hk
    exact (congrArg (fun b => b.2.1) hk).symm
  · rw [if_neg reads] at hk
    exact absurd ((Job.reads_of_bond hk i).trans hr) reads

/-- What a PURGE does outside its document (R78): the items of its entries leave, the jobs that read it are cancelled, and the store
memory is not written. -/
theorem State.purgeDocument_effects (i : Nat) (inUse : (s.document i).state ≠ .free) :
    (s.purgeDocument i).PurgedAs i s.tb.uptime (s.document i)
      ∧ (∀ x, (s.purgeDocument i).destination x = (s.destination x).without i ((s.document i).named positions x))
      ∧ (∀ j ∈ (s.purgeDocument i).te.jobs, j.reads i = true → j.cancelled = true)
      ∧ SameStore s (s.purgeDocument i) := by
  have entries := s.purges_entries i
  unfold State.purgeDocument
  generalize positions.foldl (fun s p => s.purgeEntry i p) s = u at entries ⊢
  have engine := u.engine_cancelJobs (fun j => j.reads i) false false
  have tends := u.tends_cancelJobs i (fun j => j.reads i) false false
  have marked (j : Job) := u.cancelled_of_reads (i := i) (j := j)
  dsimp only
  generalize u.cancelJobs (fun j => j.reads i) false false = v at engine tends marked ⊢
  obtain ⟨te, dqu, store⟩ := v.purgeFinish_frame i
  refine ⟨State.purgedAs_purgeFinish inUse (fun p hp => by rw [entries.entry, if_pos hp]) entries.rest tends, fun x => ?_,
    fun j hj => marked j (te ▸ hj), ?_⟩
  · rw [← entries.destination, State.destination, dqu, engine.dqu, State.destination]
  · exact ((SameStore.of_eq (by rw [entries.frame]) (by rw [entries.frame])).trans engine.sameStore).trans store

theorem State.documentBlocks_congr {s t : State} {d : Document} (links : t.bsm.links = s.bsm.links)
    (pages : ∀ q ∈ d.pages, t.page q = s.page q) : t.documentBlocks d = s.documentBlocks d := by
  refine List.flatMap_congr fun q hq => ?_
  rw [State.pageChain, State.pageChain, pages q hq]
  cases s.page q with
  | none => rfl
  | some r => exact Bsm.chain_links links _ _

/-- With no job in the engine a PURGE frees its document, and touches no other and no reception. -/
theorem State.purgeDocument_idle (i : Nat) (inUse : (s.document i).state ≠ .free) (idle : s.te.jobs = []) :
    SameDocumentsBut s (s.purgeDocument i) i ∧ (s.purgeDocument i).iu = s.iu
      ∧ (s.purgeDocument i).bsm.free = s.bsm.free + (s.documentBlocks (s.document i)).length
      ∧ (s.purgeDocument i).bsm.reserved = s.bsm.reserved := by
  have entries := s.purges_entries i
  unfold State.purgeDocument
  generalize positions.foldl (fun s p => s.purgeEntry i p) s = u at entries ⊢
  obtain ⟨x, cancelled, jobs⟩ := u.cancelJobs_of_nil (by rw [entries.frame]; exact idle) (fun j => j.reads i) false false
  have frame : ({ u with te := x } : State)
      = { s with spu := u.spu, dqu := u.dqu, dt := { s.dt with documents := u.dt.documents }, te := x } := by
    rw [entries.frame]
  dsimp only
  rw [cancelled]
  have document (j : Nat) : ({ u with te := x } : State).document j = u.document j := rfl
  generalize ({ u with te := x } : State) = v at frame document ⊢
  have state : (v.document i).state ≠ .free := by rw [document, entries.rest]; exact inUse
  have unread : v.activeJobs i = 0 := by rw [frame, State.activeJobs, jobs]; rfl
  have blocks : v.documentBlocks (v.document i) = s.documentBlocks (s.document i) := by
    rw [document, entries.rest]
    exact State.documentBlocks_congr (by rw [frame]) fun q _ => by rw [frame]; rfl
  have freed := v.frees_freeDocument i
  rw [State.purgeFinish_eq, if_neg state, if_pos unread]
  refine ⟨fun j hj => ?_, freed.iu.trans (by rw [frame]), ?_, freed.reserved.trans (by rw [frame])⟩
  · rw [freed.documents j hj, document, entries.documents j hj]
  · rw [freed.free, blocks, frame]

end Sys2Proof.Machine
end

-- ==== Proofs: a reception broken off, and PURGE ====
section
/-!
SUPPORT. What breaking a reception off gives back (R39), and PURGE by the state of its document (R77, R78).
-/

namespace Sys2Proof.Machine

variable (s : State)

/-! ## A reception broken off -/

/-- From `s` to `t` what reception `c` holds has been given back: the blocks of its open page, that page's record, and the
reservation remaining (R35, R39). -/
structure State.GivesBack (s t : State) (c : Context) : Prop where
  frame : t = { s with spu := t.spu, bsm := t.bsm, dt := { s.dt with pages := t.dt.pages } }
  pages : ∀ q, (∀ p, c.openPage = some p → p.record ≠ q) → t.page q = s.page q
  free : t.bsm.free = s.bsm.free + c.openPage.elim 0 (fun p => p.blocks.length)
  reserved : t.bsm.reserved = s.bsm.reserved - c.reservation
  links : t.bsm.links = s.bsm.links
  store : t.bsm.store = s.bsm.store

theorem State.releaseBlocks_eq (bs : List Block) : ∃ (hold : Bool) (spu : Spu),
    s.releaseBlocks bs = { s with spu := spu, bsm := { s.bsm.pushAll bs with storeHold := hold } } := by
  obtain ⟨hold, spu, told, -⟩ := State.holdTest_eq { s with bsm := s.bsm.pushAll bs }
  exact ⟨hold, spu, told⟩

theorem State.givesBack (c : Context) : s.GivesBack ((s.discardOpenPage c).releaseReservation c.reservation) c := by
  obtain ⟨hold, spu, told, -⟩ := State.holdTest_eq { s.discardOpenPage c with
    bsm := { (s.discardOpenPage c).bsm with reserved := (s.discardOpenPage c).bsm.reserved - c.reservation } }
  rw [State.releaseReservation, told]
  unfold State.discardOpenPage
  cases hc : c.openPage with
  | none => exact ⟨rfl, fun _ _ => rfl, by rw [hc]; rfl, rfl, rfl, rfl⟩
  | some p =>
    obtain ⟨hold', spu', released⟩ := s.releaseBlocks_eq p.blocks
    obtain ⟨top, fresh, pushed⟩ := s.bsm.pushAll_eq p.blocks
    have free := s.bsm.free_pushAll p.blocks
    rw [pushed] at free
    rw [Option.elim_some, State.discardPage, released, pushed]
    exact ⟨rfl, fun q hq => State.page_setPage_ne _ (Ne.symm (hq p hc)) _, by rw [hc]; exact free, rfl, rfl, rfl⟩

/-- What ABORT_RECEPTION, and PURGE of a RECEIVING document, does (R39): its context and its document are FREE, its intake job is cut
off and cancelled, and the store memory is not written. -/
theorem State.abortReception_effects (n : Nat) (c : Context) :
    (s.abortReception n c).context n = none
      ∧ (s.abortReception n c).document c.handle.index = (s.document c.handle.index).freed
      ∧ (s.abortReception n c).te = (s.cancelJobs (fun j => j.feeds n) true false).te
      ∧ SameStore s (s.abortReception n c) := by
  unfold State.abortReception
  have engine := s.engine_cancelJobs (fun j => j.feeds n) true false
  have tends := s.tends_cancelJobs c.handle.index (fun j => j.feeds n) true false
  dsimp only
  generalize s.cancelJobs (fun j => j.feeds n) true false = u at engine tends ⊢
  have back := u.givesBack c
  generalize (u.discardOpenPage c).releaseReservation c.reservation = v at back ⊢
  have freed := (v.setContext n none).frees_freeDocument c.handle.index
  have document : (v.setContext n none).document c.handle.index = u.document c.handle.index := by rw [back.frame]; rfl
  refine ⟨?_, ?_, ?_, ?_⟩
  · rw [State.context, freed.iu]
    exact v.context_setContext_same n none
  · rw [freed.document, ← tends.freed, document]
    rfl
  · rw [freed.te, back.frame]
    rfl
  · exact (engine.sameStore.trans (.of_eq (t := v.setContext n none) back.store back.links)).trans freed.store

/-- With no job in the engine, and the open page's record none of the document's pages, breaking a reception off touches no other
document and no other reception. -/
theorem State.abortReception_idle (n : Nat) (c : Context) (idle : s.te.jobs = [])
    (apart : ∀ p, c.openPage = some p → p.record ∉ (s.document c.handle.index).pages) :
    SameDocumentsBut s (s.abortReception n c) c.handle.index
      ∧ (∀ m, m ≠ n → (s.abortReception n c).context m = s.context m)
      ∧ (s.abortReception n c).bsm.free = s.bsm.free + (c.openPage.elim 0 (fun p => p.blocks.length)
        + (s.documentBlocks (s.document c.handle.index)).length)
      ∧ (s.abortReception n c).bsm.reserved = s.bsm.reserved - c.reservation
      ∧ (s.abortReception n c).dqu = s.dqu := by
  unfold State.abortReception
  obtain ⟨x, cancelled, -⟩ := s.cancelJobs_of_nil idle (fun j => j.feeds n) true false
  dsimp only
  rw [cancelled]
  have back := State.givesBack { s with te := x } c
  generalize (State.discardOpenPage { s with te := x } c).releaseReservation c.reservation = v at back ⊢
  have freed := (v.setContext n none).frees_freeDocument c.handle.index
  have document (j : Nat) : (v.setContext n none).document j = s.document j := by rw [back.frame]; rfl
  have blocks : (v.setContext n none).documentBlocks ((v.setContext n none).document c.handle.index)
      = s.documentBlocks (s.document c.handle.index) := by
    rw [document]
    exact State.documentBlocks_congr back.links fun q hq => back.pages q fun p hp e => apart p hp (e ▸ hq)
  refine ⟨fun j hj => (freed.documents j hj).trans (document j), fun m hm => ?_, ?_, freed.reserved.trans back.reserved, ?_⟩
  · rw [State.context, freed.iu]
    refine (v.context_setContext_ne hm none).trans ?_
    rw [back.frame]
    rfl
  · rw [freed.free, blocks, ← Nat.add_assoc]
    exact congrArg (· + _) back.free
  · rw [freed.dqu, back.frame]
    rfl

/-- After the intake job of a reception is cancelled, every job left that fed it is cut off from it, and cancelled as far as those
cut off before were. -/
theorem State.detached_of_feeds {n : Nat} {j : Job} (h : j ∈ (s.cancelJobs (fun j => j.feeds n) true false).te.jobs)
    (hj : j.kind = .intake n) : j.detached = true
      ∧ ((∀ k ∈ s.te.jobs, k.kind = .intake n → k.detached = true → k.cancelled = true) → j.cancelled = true) := by
  obtain ⟨k, hk, bond⟩ := s.mem_cancelJobs h
  by_cases feeds : k.feeds n = true
  · rw [if_pos feeds] at bond
    have kind : k.kind = .intake n := (congrArg Prod.fst bond).trans hj
    have intake : k.isIntake = true := by rw [Job.isIntake, kind]
    refine ⟨?_, fun _ => (congrArg (fun b => b.2.1) bond).symm⟩
    have detached : (k.detached || (true && k.isIntake)) = j.detached := congrArg (fun b => b.2.2) bond
    rw [← detached, intake, Bool.true_and, Bool.or_true]
  · rw [if_neg feeds] at bond
    have kind : k.kind = .intake n := (congrArg Prod.fst bond).trans hj
    have detached : k.detached = true := by simpa [Job.feeds, kind] using feeds
    exact ⟨(congrArg (fun b => b.2.2) bond).symm.trans detached,
      fun marked => (congrArg (fun b => b.2.1) bond).symm.trans (marked k hk kind detached)⟩

/-! ## The command -/

variable {slot : Nat} {r : Record} {w1 : Word}

/-- PURGE of a document in use and complete, without legal hold (R77, R78). -/
theorem execPurge_complete (h : s.Takes slot 0x33 r) (hw : r.words = [w1]) (right : (s.rights slot).administer = true) {i : Nat}
    (hi : i = (decodeHandle w1).index) (hg : (decodeHandle w1).generation = (s.document i).generation)
    (complete : (s.document i).state = .queued ∨ (s.document i).state = .unrouted ∨ (s.document i).state = .done)
    (clear : (s.document i).legalHold = false) {t : State} (ht : t = (s.taken slot).purgeDocument i) :
    exec (.purge slot) s = .next (t.fillReservation slot (r.reply .ok
      [word (if (t.document i).state = .free then (s.document i).pages.length else 0),
        word (if (t.document i).state = .free then (s.documentBlocks (s.document i)).length else 0),
        word (s.document i).outstandingSet.length, word (s.te.jobs.filter (fun j => j.reads i && !j.cancelled)).length,
        word (t.document i).state.code])) := by
  have fresh : s.stale (decodeHandle w1) = false := by simp [State.stale, ← hi, hg]
  have reached : (s.taken slot).reached (fun j => j.reads i) = s.te.jobs.filter (fun j => j.reads i && !j.cancelled) := rfl
  show execPurge slot s = _
  rw [execPurge, s.command_of_takes h]
  simp only [hw, State.rights_taken, right, State.stale_taken, fresh, State.document_taken, ← hi, ← ht, clear, reached,
    State.documentBlocks_taken]
  rcases complete with hs | hs | hs <;> simp [hs, State.answerRecord]

/-- PURGE of a RECEIVING document without legal hold (R77, R39). -/
theorem execPurge_receiving (h : s.Takes slot 0x33 r) (hw : r.words = [w1]) (right : (s.rights slot).administer = true) {i : Nat}
    (hi : i = (decodeHandle w1).index) (hg : (decodeHandle w1).generation = (s.document i).generation)
    (receiving : (s.document i).state = .receiving) (clear : (s.document i).legalHold = false) {n : Nat} {c : Context}
    (hn : s.contextOf (decodeHandle w1) = some n) (hc : s.context n = some c) (own : c.handle.index = i) :
    exec (.purge slot) s = .next (((s.taken slot).abortReception n c).fillReservation slot (r.reply .ok
      [word (s.document i).pages.length,
        word (c.openPage.elim 0 (fun p => p.blocks.length) + (s.documentBlocks (s.document i)).length),
        word ((s.document i).entryList.filter (fun x => decide (x.2.state = .waiting))).length,
        word (if c.state = .intakeActive then 1 else 0), word 0])) := by
  have fresh : s.stale (decodeHandle w1) = false := by simp [State.stale, ← hi, hg]
  have blocks : (s.taken slot).abortBlocks c
      = c.openPage.elim 0 (fun p => p.blocks.length) + (s.documentBlocks (s.document i)).length := by
    rw [State.abortBlocks, own]
    rfl
  have active : bit (decide (c.state = .intakeActive)) = if c.state = .intakeActive then 1 else 0 := by simp [bit]
  show execPurge slot s = _
  rw [execPurge, s.command_of_takes h]
  simp only [hw, State.rights_taken, right, State.stale_taken, fresh, State.document_taken, ← hi, clear, receiving,
    State.contextOf_taken, hn, State.context_taken, hc, blocks, active]
  rfl

/-- A document that is FREE or PURGE_PENDING, or under legal hold, is not purged (R77). -/
theorem execPurge_refused (h : s.Takes slot 0x33 r) (hw : r.words = [w1]) (right : (s.rights slot).administer = true) {i : Nat}
    (hi : i = (decodeHandle w1).index) (hg : (decodeHandle w1).generation = (s.document i).generation) {status : Status}
    (why : status = .wrongState ∧ ((s.document i).state = .free ∨ (s.document i).state = .purgePending)
      ∨ status = .held ∧ (s.document i).legalHold = true ∧ ((s.document i).state = .receiving ∨ (s.document i).state = .queued
        ∨ (s.document i).state = .unrouted ∨ (s.document i).state = .done)) :
    exec (.purge slot) s = .next (s.replying slot (r.reply status [])) := by
  have fresh : s.stale (decodeHandle w1) = false := by simp [State.stale, ← hi, hg]
  show execPurge slot s = _
  rw [execPurge, s.command_of_takes h]
  simp only [hw, State.rights_taken, right, State.stale_taken, fresh, State.document_taken, ← hi]
  rcases why with ⟨rfl, hs | hs⟩ | ⟨rfl, held, hs | hs | hs | hs⟩
  · simp [hs, State.answerRecord, State.taken_fill]
  · simp [hs, State.answerRecord, State.taken_fill]
  all_goals simp [hs, held, State.answerRecord, State.taken_fill]

end Sys2Proof.Machine

open Sys2Proof.Machine

/-- Settles O37: the refusals; a complete document by what each step of its PURGE leaves; a RECEIVING one by what breaking its
reception off leaves. -/
theorem purge : Obligations.Purge := by
  intro s slot r w1 i d h hw right hi hd hg
  subst hd
  refine ⟨fun gone => execPurge_refused s h hw right hi hg (.inl ⟨rfl, gone⟩),
    fun held live => execPurge_refused s h hw right hi hg (.inr ⟨rfl, held, live⟩), fun complete clear => ?complete,
    fun n c blocks receiving clear hn hc own hb => ?receiving⟩
  case complete =>
    have inUse : (s.document i).state ≠ .free := by rcases complete with e | e | e <;> rw [e] <;> decide
    have run := execPurge_complete s h hw right hi hg complete clear rfl
    have steady := (s.steady_taken slot).trans ((s.taken slot).calm_purgeDocument i).steady
    obtain ⟨purged, destinations, marked, store⟩ := (s.taken slot).purgeDocument_effects i inUse
    have idle := (s.taken slot).purgeDocument_idle i inUse
    generalize (s.taken slot).purgeDocument i = t at run steady purged destinations marked store idle
    obtain ⟨generation, state, freed, pending⟩ := purged.outcome
    refine ⟨_, run, purged.outstanding, generation, state, freed, pending, fun x named left hnamed hleft => ?destination, marked,
      (steady.trans (State.steady_fillReservation _ slot _)).config, ⟨store.bytes, store.links⟩, State.getLast_fill _ _ _, idle⟩
    case destination =>
      have names (st : EntryState) : named st = (s.document i).named positions x st := by
        funext p
        rw [hnamed, Document.named, List.contains_eq_mem]
        simp only [mem_positions]
      refine (destinations x).trans ?_
      subst hleft
      simp only [Destination.without, names]
      rfl
  case receiving =>
    have run := execPurge_receiving s h hw right hi hg receiving clear hn hc own
    subst own hb
    obtain ⟨context, document, te, store⟩ := (s.taken slot).abortReception_effects n c
    have steady := (s.steady_taken slot).trans ((s.taken slot).steady_abortReception n c)
    exact ⟨_, run, context, document, State.getLast_fill _ _ _,
      fun j hj => (s.taken slot).detached_of_feeds (te ▸ hj),
      (steady.trans (State.steady_fillReservation _ slot _)).config, ⟨store.bytes, store.links⟩,
      (s.taken slot).abortReception_idle n c⟩
end

-- ==== Proofs: the routes and the routing settings ====
section
/-!
SUPPORT. A route as ROUTE_SET and SET_DEFAULT_ROUTE store it (R98), the route table entry by entry, and the commands that write
the routing settings (R100 to R103, R106, R107) and the retention (R88).
-/

namespace Sys2Proof.Machine

theorem isDigit_iff (c : Byte) : isDigit c = true ↔ 0x30 ≤ c.toNat ∧ c.toNat ≤ 0x39 := by
  simp [isDigit]

theorem all_isDigit {cs : List Byte} (h : ∀ c ∈ cs, 0x30 ≤ c.toNat ∧ c.toNat ≤ 0x39) : cs.all isDigit = true :=
  List.all_eq_true.2 fun c hc => (isDigit_iff c).2 (h c hc)

theorem all_isDigit_eq_false {cs : List Byte} (h : ∃ c ∈ cs, c.toNat < 0x30 ∨ 0x39 < c.toNat) : cs.all isDigit = false := by
  obtain ⟨c, hc, out⟩ := h
  exact List.all_eq_false.2 ⟨c, hc, fun digit => by have := (isDigit_iff c).1 digit; omega⟩

theorem routeOf_eq (business afterHours days start stop priority cls confidential : Word) :
    routeOf business afterHours days start stop priority cls confidential =
      ⟨business, afterHours, days.extractLsb' 0 7, min start.toNat 1439, min stop.toNat 1439,
        if priority = 1 then .urgent else .normal, min cls.toNat 7, decide (confidential = 1)⟩ := by
  simp only [routeOf, clamp_zero, decodePriority, decodeConfidential, toNat_eq_one_iff]

theorem word_toNat (w : Word) : word w.toNat = w :=
  BitVec.eq_of_toNat_eq (Nat.mod_eq_of_lt w.isLt)

theorem toNat_extractDays (w : Word) : (w.extractLsb' 0 7).toNat = w.toNat % 128 := by
  simp

/-- The setting a word up to 31 names is that destination (R107). -/
theorem decodeFallback_named {w : Word} (h : w.toNat ≤ 31) : decodeFallback w = some w.toNat :=
  if_pos (show w.toNat < 32 by omega)

theorem decodeFallback_none {w : Word} (h : 31 < w.toNat) : decodeFallback w = none :=
  if_neg (show ¬ w.toNat < 32 by omega)

theorem Destination.accepting_eq_true_iff (d : Destination) : d.accepting = true ↔ d.state = .opened ∨ d.state = .paused := by
  unfold Destination.accepting
  cases d.state <;> simp

theorem Destination.accepting_eq_false_iff (d : Destination) : d.accepting = false ↔ d.state = .closed ∨ d.state = .draining := by
  unfold Destination.accepting
  cases d.state <;> simp

variable (s : State) {slot : Nat} {r : Record}

/-- The cells of a canonical route table are the VALID entries. -/
theorem State.mem_routes_iff (h : s.rtu.routes.WF none) {i : Nat} {e : RouteEntry} :
    (i, some e) ∈ s.rtu.routes.cells ↔ s.routeEntry i = some e :=
  h.mem_iff.trans (and_iff_left (Option.some_ne_none e))

theorem State.heldElsewhere_iff (h : s.rtu.routes.WF none) (i : Nat) (digits : List Byte) :
    s.heldElsewhere i digits = true ↔ ∃ m e, m ≠ i ∧ s.routeEntry m = some e ∧ e.digits = digits := by
  simp only [State.heldElsewhere, List.any_eq_true, Bool.and_eq_true, decide_eq_true_eq, Option.any_eq_true]
  constructor
  · rintro ⟨⟨m, v⟩, hm, other, e, rfl, held⟩
    exact ⟨m, e, other, (s.mem_routes_iff h).1 hm, held⟩
  · rintro ⟨m, e, other, entry, held⟩
    exact ⟨(m, some e), (s.mem_routes_iff h).2 entry, other, e, rfl, held⟩

@[simp] theorem State.heldElsewhere_taken (i : Nat) (digits : List Byte) :
    (s.taken slot).heldElsewhere i digits = s.heldElsewhere i digits := rfl

/-- A routing setting written between a record's taking and its answer: nothing else changes but the slot's queues. -/
theorem State.fill_rtu (rtu : Rtu) (x : Reply) :
    State.fillReservation { s.taken slot with rtu := rtu } slot x = State.replying { s with rtu := rtu } slot x :=
  s.fill_eq_replying slot _ _ x rfl rfl rfl

theorem State.fill_setRouteEntry (i : Nat) (e : Option RouteEntry) (x : Reply) :
    ((s.taken slot).setRouteEntry i e).fillReservation slot x = (s.setRouteEntry i e).replying slot x :=
  s.fill_rtu _ x

theorem State.fill_dt (dt : Dt) (x : Reply) :
    State.fillReservation { s.taken slot with dt := dt } slot x = State.replying { s with dt := dt } slot x :=
  s.fill_eq_replying slot _ _ x rfl rfl rfl

variable {w1 w2 w3 w4 w5 w6 w7 w8 w9 : Word}

/-- ROUTE_SET of a slot holding ADMINISTER: its refusals in their order, and the entry replaced (R100 to R102). -/
theorem execRouteSet_of_takes {ws : List Word} {cs : List Byte} (h : s.Takes slot 0x40 r)
    (hw : r.words = w1 :: w2 :: w3 :: w4 :: w5 :: w6 :: w7 :: w8 :: w9 :: ws) (hcs : CountedAs ws cs)
    (right : (s.rights slot).administer = true) {i : Nat} (hi : i = min w1.toNat 1023) {x : Route}
    (hx : x = routeOf w2 w3 w4 w5 w6 w7 w8 w9) :
    exec (.routeSet slot) s = .next (
      if cs.isEmpty || !cs.all isDigit then s.replying slot (r.reply .badField [])
      else if tooLarge w2 || tooLarge w3 then s.replying slot (r.reply .setTooLarge [])
      else if s.heldElsewhere i (cs.take 16) then s.replying slot (r.reply .duplicatePrefix [])
      else (s.setRouteEntry i (some ⟨cs.take 16, x⟩)).replying slot (r.reply .ok
        [word i, word (bit (s.routeEntry i).isSome), word (min 16 cs.length), word (if 16 < cs.length then 1 else 0),
          word x.start, word x.stop, word x.retentionClass])) := by
  have whole : takeString ws = some (cs, []) := by simpa using takeString_of_countedAs hcs []
  subst hi hx
  show execRouteSet slot s = _
  rw [execRouteSet, s.command_of_takes h]
  simp only [hw, whole, State.rights_taken, right, Bool.not_true, Bool.false_eq_true, if_false, clamp_zero, digitLimit,
    State.heldElsewhere_taken, State.routeEntry_taken, List.length_take, bit_isCut]
  repeat' split
  all_goals simp only [State.answerRecord, State.taken_fill, State.fill_setRouteEntry]

/-- ROUTE_CLEAR of a slot holding ADMINISTER (R103). -/
theorem execRouteClear_of_takes (h : s.Takes slot 0x41 r) (hw : r.words = [w1]) (right : (s.rights slot).administer = true) :
    exec (.routeClear slot) s = .next ((s.setRouteEntry (min w1.toNat 1023) none).replying slot (r.reply .ok
      [word (min w1.toNat 1023), word (bit (s.routeEntry (min w1.toNat 1023)).isSome)])) := by
  show execRouteClear slot s = _
  rw [execRouteClear, s.command_of_takes h]
  simp [hw, right, State.answerRecord, State.fill_setRouteEntry]

/-- SET_DEFAULT_ROUTE of a slot holding ADMINISTER (R106). -/
theorem execSetDefaultRoute_of_takes (h : s.Takes slot 0x44 r) (hw : r.words = [w1, w2, w3, w4, w5, w6, w7, w8])
    (right : (s.rights slot).administer = true) {x : Route} (hx : x = routeOf w1 w2 w3 w4 w5 w6 w7 w8) :
    exec (.setDefaultRoute slot) s = .next (
      if tooLarge w1 || tooLarge w2 then s.replying slot (r.reply .setTooLarge [])
      else State.replying { s with rtu := { s.rtu with defaultRoute := x } } slot (r.reply .ok x.words)) := by
  subst hx
  show execSetDefaultRoute slot s = _
  rw [execSetDefaultRoute, s.command_of_takes h]
  simp only [hw, State.rights_taken, right, Bool.not_true, Bool.false_eq_true, if_false, State.taken_rtu]
  split
  · simp only [State.answerRecord, State.taken_fill]
  · simp only [State.answerRecord, State.fill_rtu]

/-- SET_FALLBACK of a slot holding ADMINISTER (R107): what the word names, where it is none or takes new work. -/
theorem execSetFallback_of_takes (h : s.Takes slot 0x45 r) (hw : r.words = [w1]) (right : (s.rights slot).administer = true)
    {f : Option Nat} (hf : decodeFallback w1 = f) :
    exec (.setFallback slot) s = .next (
      if f.any (fun d => !(s.destination d).accepting) then s.replying slot (r.reply .destUnavailable [])
      else State.replying { s with rtu := { s.rtu with fallback := f } } slot (r.reply .ok
        [word (f.getD 32), word (s.rtu.fallback.getD 32)])) := by
  show execSetFallback slot s = _
  rw [execSetFallback, s.command_of_takes h]
  simp only [hw, hf, State.rights_taken, right, Bool.not_true, Bool.false_eq_true, if_false, State.taken_rtu,
    State.destination_taken, fallbackWord]
  split
  · simp only [State.answerRecord, State.taken_fill]
  · simp only [State.answerRecord, State.fill_rtu]

/-- SET_RETENTION of a slot holding ADMINISTER (R88). -/
theorem execSetRetention_of_takes (h : s.Takes slot 0x35 r) (hw : r.words = [w1, w2])
    (right : (s.rights slot).administer = true) :
    exec (.setRetention slot) s = .next (State.replying
      { s with dt := { s.dt with retention := s.dt.retention.write 0 (min w1.toNat 7) (min w2.toNat 65535) } } slot
      (r.reply .ok [word (min w1.toNat 7), word (min w2.toNat 65535), word (s.retentionMinutes (min w1.toNat 7))])) := by
  show execSetRetention slot s = _
  rw [execSetRetention, s.command_of_takes h]
  simp only [hw, State.rights_taken, right, Bool.not_true, Bool.false_eq_true, if_false, clamp_zero, State.taken_dt,
    State.retentionMinutes_taken, State.answerRecord, State.fill_dt]

end Sys2Proof.Machine

open Sys2Proof.Machine

/-- Settles O39: the checks in their order; the cells the model searches are the VALID entries. -/
theorem routeSet : Obligations.RouteSet := by
  intro s slot r w1 w2 w3 w4 w5 w6 w7 w8 w9 ws cs i x h hw hcs right hi canonical hx
  have run := execRouteSet_of_takes s h hw hcs right hi (hx.trans (routeOf_eq ..).symm)
  refine ⟨fun bad => ?_, fun nonempty digits => ⟨fun large => ?_, fun fits fits' => ⟨fun held => ?_, fun free => ?_⟩⟩⟩
  · have refused : (cs.isEmpty || !cs.all isDigit) = true := by
      rcases bad with rfl | bad
      · rfl
      · simp [all_isDigit_eq_false bad]
    rwa [if_pos refused] at run
  all_goals
    have passed : ¬ (cs.isEmpty || !cs.all isDigit) = true := by simp [nonempty, all_isDigit digits]
    rw [if_neg passed] at run
  · have refused : (tooLarge w2 || tooLarge w3) = true := by simpa [tooLarge] using large
    rwa [if_pos refused] at run
  all_goals
    have small : ¬ (tooLarge w2 || tooLarge w3) = true := by simp [tooLarge, fits, fits']
    rw [if_neg small] at run
  · rwa [if_pos ((s.heldElsewhere_iff canonical i _).2 held)] at run
  · have unheld : ¬ s.heldElsewhere i (cs.take 16) = true := fun held => by
      obtain ⟨m, e, other, entry, same⟩ := (s.heldElsewhere_iff canonical i _).1 held
      exact free m e other entry same
    rwa [if_neg unheld, Nat.min_comm] at run

/-- Settles O40: each command by its equation. -/
theorem routingSettings : Obligations.RoutingSettings := by
  intro s slot r right
  refine ⟨fun w1 h hw => execRouteClear_of_takes s h hw right, ?default, ?fallback,
    fun w1 w2 h hw => execSetRetention_of_takes s h hw right⟩
  case default =>
    intro w1 w2 w3 w4 w5 w6 w7 w8 x h hw hx
    have run := execSetDefaultRoute_of_takes s h hw right (hx.trans (routeOf_eq ..).symm)
    refine ⟨fun large => ?_, fun fits fits' => ?_⟩
    · rwa [if_pos (by simpa [tooLarge] using large)] at run
    · rw [if_neg (by simp [tooLarge, fits, fits']), Route.words] at run
      subst hx
      rwa [toNat_extractDays] at run
  case fallback =>
    intro w1 h hw
    have run {f : Option Nat} (hf : decodeFallback w1 = f) := execSetFallback_of_takes s h hw right hf
    refine ⟨fun unset => run (decodeFallback_none unset), fun named usable => ?_, fun named closed => ?_⟩
    · have accepts := (Destination.accepting_eq_true_iff _).2 usable
      have stored := run (decodeFallback_named named)
      rwa [if_neg (by simp [accepts]), Option.getD_some, word_toNat] at stored
    · have refuses := (Destination.accepting_eq_false_iff _).2 closed
      have refused := run (decodeFallback_named named)
      rwa [if_pos (by simp [refuses])] at refused
end

-- ==== Proofs: resolution, and the routes read ====
section
/-!
SUPPORT. The search of the matching (R93): its result is a matching entry, and no matching entry is longer. The window
(R94), and the closed members of a set with and without a usable fallback (R95). The commands that read routes (R104, R105).
-/

namespace Sys2Proof.Machine

/-! ## Matching (R93) -/

theorem digitsMatch_iff (digits called : List Byte) : digitsMatch digits called = true ↔ digits <+: called := by
  induction digits generalizing called with
  | nil => simp [digitsMatch]
  | cons a as ih =>
    cases called with
    | nil => simp [digitsMatch]
    | cons b bs => simp [digitsMatch, ih]

/-- The number of digits of what the search has found so far; 0 where it has found nothing. -/
def foundLength (best : Option (Nat × RouteEntry)) : Nat := best.elim 0 (fun b => b.2.digits.length)

variable {called : List Byte}

/-- What the search ends with is what it had, or a matching entry that is longer. -/
theorem longestMatch_cases (cells : List (Nat × Option RouteEntry)) (best : Option (Nat × RouteEntry)) :
    longestMatch called cells best = best
      ∨ ∃ i e, longestMatch called cells best = some (i, e) ∧ (i, some e) ∈ cells ∧ e.digits <+: called
        ∧ foundLength best < e.digits.length := by
  induction cells generalizing best with
  | nil => exact .inl rfl
  | cons c rest ih =>
    obtain ⟨i, _ | e⟩ := c
    · exact (ih best).imp_right fun ⟨j, f, found, listed, hit⟩ => ⟨j, f, found, .tail _ listed, hit⟩
    · rw [longestMatch]
      split
      · rename_i better
        simp only [Bool.and_eq_true, decide_eq_true_eq, digitsMatch_iff] at better
        obtain ⟨hit, longer⟩ := better
        rcases ih (some (i, e)) with same | ⟨j, f, found, listed, hit', longer'⟩
        · exact .inr ⟨i, e, same, .head _, hit, longer⟩
        · exact .inr ⟨j, f, found, .tail _ listed, hit', longer.trans longer'⟩
      · exact (ih best).imp_right fun ⟨j, f, found, listed, hit⟩ => ⟨j, f, found, .tail _ listed, hit⟩

theorem foundLength_le_longestMatch (cells : List (Nat × Option RouteEntry)) (best : Option (Nat × RouteEntry)) :
    foundLength best ≤ foundLength (longestMatch called cells best) := by
  rcases longestMatch_cases (called := called) cells best with same | ⟨i, e, found, -, -, longer⟩
  · rw [same]
  · rw [found]
    exact longer.le

/-- No matching entry of the list is longer than what the search ends with. -/
theorem length_le_longestMatch {cells : List (Nat × Option RouteEntry)} {i : Nat} {e : RouteEntry} (listed : (i, some e) ∈ cells)
    (hit : e.digits <+: called) (best : Option (Nat × RouteEntry)) :
    e.digits.length ≤ foundLength (longestMatch called cells best) := by
  induction cells generalizing best with
  | nil => exact absurd listed List.not_mem_nil
  | cons c rest ih =>
    rcases List.mem_cons.1 listed with rfl | later
    · rw [longestMatch]
      split
      · exact foundLength_le_longestMatch rest (some (i, e))
      · rename_i short
        simp only [(digitsMatch_iff _ _).2 hit, Bool.true_and, decide_eq_true_eq, not_lt] at short
        exact short.trans (foundLength_le_longestMatch rest best)
    · obtain ⟨j, _ | f⟩ := c
      · exact ih later best
      · rw [longestMatch]
        split
        · exact ih later _
        · exact ih later best

variable (s : State)

/-- A resolution takes the longest matching VALID entry, or the default route where none with a digit matches (R93). -/
theorem State.matchRoute_cases (h : s.rtu.routes.WF none) (called : List Byte) :
    (s.matchRoute called = (.default, s.rtu.defaultRoute)
        ∧ ∀ i e, s.routeEntry i = some e → e.digits ≠ [] → ¬ e.digits <+: called)
      ∨ ∃ i e, s.matchRoute called = (.entry i, e.route) ∧ s.routeEntry i = some e ∧ e.digits ≠ [] ∧ e.digits <+: called
        ∧ ∀ j f, s.routeEntry j = some f → f.digits <+: called → f.digits.length ≤ e.digits.length := by
  cases called with
  | nil => exact .inl ⟨rfl, fun i e _ nonempty hit => nonempty (List.prefix_nil.1 hit)⟩
  | cons c cs =>
    have longest {j : Nat} {f : RouteEntry} (entry : s.routeEntry j = some f) (hit : f.digits <+: c :: cs) :=
      length_le_longestMatch ((s.mem_routes_iff h).2 entry) hit none
    rcases longestMatch_cases (called := c :: cs) s.rtu.routes.cells none with found | ⟨i, e, found, listed, hit, longer⟩
    · rw [found] at longest
      exact .inl ⟨by rw [State.matchRoute, found], fun i e entry nonempty hit =>
        nonempty (List.length_eq_zero_iff.1 (Nat.le_zero.1 (longest entry hit)))⟩
    · rw [found] at longest
      exact .inr ⟨i, e, by rw [State.matchRoute, found], (s.mem_routes_iff h).1 listed, List.length_pos_iff.1 longer, hit,
        fun j f => longest⟩

/-! ## The window (R94) and the replacement (R95) -/

theorem Route.windowHolds_iff (x : Route) (c : Clock) : x.windowHolds c = true ↔
    c.isSet = true ∧ x.days.getLsbD c.dayOfWeek = true ∧ x.start ≤ c.minute ∧ c.minute < x.stop := by
  simp [Route.windowHolds, and_assoc]

theorem setWord_eq_zero_iff (p : Nat → Bool) : setWord p = 0 ↔ ∀ d, d < 32 → p d = false := by
  constructor
  · intro empty d hd
    rw [← member_setWord p hd, empty]
    exact BitVec.getLsbD_zero
  · refine fun none => BitVec.eq_of_getLsbD_eq fun d hd => ?_
    exact (member_setWord p hd).trans ((none d hd).trans BitVec.getLsbD_zero.symm)

theorem State.usableFallback_eq_some {f : Nat} (h : s.rtu.fallback = some f) (usable : (s.destination f).accepting = true) :
    s.usableFallback = some f := by
  rw [State.usableFallback, h]
  exact if_pos usable

theorem State.usableFallback_eq_none (h : ∀ f, s.rtu.fallback = some f → (s.destination f).accepting = false) :
    s.usableFallback = none := by
  cases hu : s.usableFallback with
  | none => rfl
  | some f =>
    obtain ⟨hf, usable⟩ := s.usableFallback_accepting hu
    exact absurd usable (by simp [h f hf])

variable {w : Word} {d : Nat}

/-- Without a usable fallback the members that accept work stay, and the others are removed. -/
theorem State.replaceClosed_unusable (h : s.usableFallback = none) : s.replaceClosed w =
    ⟨setWord (fun d => member w d && (s.destination d).accepting), 0,
      setWord (fun d => member w d && !(s.destination d).accepting)⟩ := by
  rw [State.replaceClosed, h]

/-- With a usable fallback the members that do not accept work are replaced, and none is removed. -/
theorem State.replaced_usable {f : Nat} (h : s.usableFallback = some f) :
    (s.replaceClosed w).replaced = setWord (fun d => member w d && !(s.destination d).accepting)
      ∧ (s.replaceClosed w).removed = 0 := by
  rw [State.replaceClosed, h]
  dsimp only
  split
  · rename_i empty
    exact ⟨empty.symm, rfl⟩
  · exact ⟨rfl, rfl⟩

/-- A usable fallback joins the members that accept work, where some member does not. -/
theorem State.member_delivery_usable {f : Nat} (h : s.usableFallback = some f) (hd : d < 32) :
    member (s.replaceClosed w).delivery d = true ↔ (member w d = true ∧ (s.destination d).accepting = true)
      ∨ (d = f ∧ ∃ m, m < 32 ∧ member w m = true ∧ (s.destination m).accepting = false) := by
  have closed : (∃ m, m < 32 ∧ member w m = true ∧ (s.destination m).accepting = false)
      ↔ setWord (fun d => member w d && !(s.destination d).accepting) ≠ 0 := by
    rw [ne_eq, setWord_eq_zero_iff]
    simp
  rw [State.replaceClosed, h, closed]
  dsimp only
  split
  · rename_i empty
    simp [hd, empty]
  · rename_i nonempty
    simp only [member_setWord _ hd, Bool.or_eq_true, Bool.and_eq_true, decide_eq_true_eq, ne_eq, nonempty, not_false_eq_true,
      and_true]

theorem State.member_delivery (hd : d < 32) : member (s.replaceClosed w).delivery d = true ↔
    (member w d = true ∧ (s.destination d).accepting = true)
      ∨ (s.rtu.fallback = some d ∧ (s.destination d).accepting = true
        ∧ ∃ m, m < 32 ∧ member w m = true ∧ (s.destination m).accepting = false) := by
  cases hu : s.usableFallback with
  | none =>
    have unusable (hf : s.rtu.fallback = some d) (ha : (s.destination d).accepting = true) : False := by
      simp [s.usableFallback_eq_some hf ha] at hu
    rw [s.replaceClosed_unusable hu, member_setWord _ hd, Bool.and_eq_true]
    exact ⟨.inl, fun k => k.elim id fun ⟨hf, ha, _⟩ => (unusable hf ha).elim⟩
  | some f =>
    obtain ⟨hf, usable⟩ := s.usableFallback_accepting hu
    rw [s.member_delivery_usable hu hd, hf, Option.some_inj]
    refine or_congr_right ⟨?_, fun ⟨e, _, closed⟩ => ⟨e.symm, closed⟩⟩
    rintro ⟨rfl, closed⟩
    exact ⟨rfl, usable, closed⟩

theorem State.member_replaced {f : Nat} (h : s.usableFallback = some f) (hd : d < 32) :
    member (s.replaceClosed w).replaced d = true ↔ member w d = true ∧ (s.destination d).accepting = false := by
  rw [(s.replaced_usable h).1, member_setWord _ hd, Bool.and_eq_true, Bool.not_eq_true']

theorem State.member_removed (h : s.usableFallback = none) (hd : d < 32) :
    member (s.replaceClosed w).removed d = true ↔ member w d = true ∧ (s.destination d).accepting = false := by
  rw [s.replaceClosed_unusable h, member_setWord _ hd, Bool.and_eq_true, Bool.not_eq_true']

/-! ## The commands -/

variable {slot : Nat} {r : Record} {w1 : Word}

@[simp] theorem State.routeReadWords_taken (x : Route) : (s.taken slot).routeReadWords x = s.routeReadWords x := rfl

/-- ROUTE_GET of a slot holding ADMINISTER, for a route entry (R104): an EMPTY one reads as the power-on route. -/
theorem execRouteGet_entry (h : s.Takes slot 0x42 r) (hw : r.words = [w1]) (right : (s.rights slot).administer = true)
    (inRange : w1.toNat < 1024) {found : Option RouteEntry} (hf : s.routeEntry w1.toNat = found) :
    exec (.routeGet slot) s = .next (s.replying slot (r.reply .ok ([w1, word (bit found.isSome)]
      ++ s.routeReadWords (found.elim Route.powerOn RouteEntry.route) ++ countedString (found.elim [] RouteEntry.digits)))) := by
  show execRouteGet slot s = _
  rw [execRouteGet, s.command_of_takes h]
  simp only [hw, State.rights_taken, right, Bool.not_true, Bool.false_eq_true, if_false,
    if_pos (show w1.toNat < Config.routes from inRange), State.routeEntry_taken, hf, State.routeReadWords_taken]
  cases found <;> simp only [State.answerRecord, State.taken_fill] <;> rfl

/-- ROUTE_GET of a slot holding ADMINISTER, for the default route (R104). -/
theorem execRouteGet_default (h : s.Takes slot 0x42 r) (hw : r.words = [w1]) (right : (s.rights slot).administer = true)
    (beyond : 1024 ≤ w1.toNat) :
    exec (.routeGet slot) s = .next (s.replying slot (r.reply .ok
      ([word 1024, word 1] ++ s.routeReadWords s.rtu.defaultRoute ++ countedString []))) := by
  show execRouteGet slot s = _
  rw [execRouteGet, s.command_of_takes h]
  simp only [hw, State.rights_taken, right, Bool.not_true, Bool.false_eq_true, if_false,
    if_neg (show ¬ w1.toNat < Config.routes from Nat.not_lt.2 beyond), State.routeReadWords_taken, State.taken_rtu,
    State.answerRecord, State.taken_fill]

/-- ROUTE_LOOKUP of a slot holding ADMINISTER (R105): the words of the resolution, where the characters are digits. -/
theorem execRouteLookup_of_takes {cs : List Byte} (h : s.Takes slot 0x43 r) (hcs : CountedAs r.words cs)
    (right : (s.rights slot).administer = true) {x : Resolution} (hx : x = s.resolve (cs.take 16)) :
    exec (.routeLookup slot) s = .next (s.replying slot (
      if cs.all isDigit then r.reply .ok
        [word x.source.code, word (bit x.windowHeld), word (if x.windowHeld then 0 else 1), x.chosen, x.replacement.delivery,
          x.replacement.replaced, x.replacement.removed, word x.route.priority.code, word x.route.retentionClass,
          word (bit x.route.confidential), word (if 16 < cs.length then 1 else 0)]
      else r.reply .badField [])) := by
  have whole : takeString r.words = some (cs, []) := by simpa using takeString_of_countedAs hcs []
  have outside : bit (!x.windowHeld) = if x.windowHeld then 0 else 1 := by cases x.windowHeld <;> rfl
  rw [← outside]
  subst hx
  show execRouteLookup slot s = _
  rw [execRouteLookup, s.command_of_takes h]
  simp only [whole, State.rights_taken, right, Bool.not_true, Bool.false_eq_true, if_false, State.resolve_taken, digitLimit,
    bit_isCut]
  cases cs.all isDigit <;> simp [State.answerRecord, State.taken_fill]

end Sys2Proof.Machine

open Sys2Proof.Machine

/-- Settles O41: the words of each read; a canonical table has one cell for each VALID entry. -/
theorem routeReads : Obligations.RouteReads := by
  intro s slot r right
  refine ⟨fun w1 e h hw inRange entry => execRouteGet_entry s h hw right inRange entry,
    fun w1 h hw inRange empty => execRouteGet_entry s h hw right inRange empty,
    fun w1 d h hw beyond hd => hd ▸ execRouteGet_default s h hw right beyond, ?lookup, ?count⟩
  case lookup =>
    intro cs x h hcs hx
    have run := execRouteLookup_of_takes s h hcs right hx
    refine ⟨fun bad => ?_, fun digits => ?_⟩
    · rwa [if_neg (by simp [all_isDigit_eq_false bad])] at run
    · rwa [if_pos (all_isDigit digits)] at run
  case count =>
    intro canonical
    refine ⟨List.pairwise_map.2 (canonical.1.imp Nat.ne_of_lt), fun i => ?_⟩
    rw [Option.isSome_iff_exists, List.mem_map]
    constructor
    · rintro ⟨⟨j, v⟩, listed, rfl⟩
      obtain ⟨e, rfl⟩ := Option.ne_none_iff_exists'.1 (canonical.2 _ listed)
      exact ⟨e, (s.mem_routes_iff canonical).1 listed⟩
    · rintro ⟨e, entry⟩
      exact ⟨(i, some e), (s.mem_routes_iff canonical).2 entry, rfl⟩

/-- Settles O42: the source by what the search ends with, the set by the window, the members by the fallback. -/
theorem routeResolved : Obligations.RouteResolved := by
  rintro s called x canonical rfl
  refine ⟨?source, Route.windowHolds_iff _ _, rfl, fun d hd => s.member_delivery hd, fun f hf usable => ?replaced,
    fun unusable => ?removed⟩
  case source =>
    rcases s.matchRoute_cases canonical called with ⟨default, unmatched⟩ | ⟨i, e, found, entry, nonempty, hit, longest⟩
    · exact .inl ⟨congrArg Prod.fst default, congrArg Prod.snd default, unmatched⟩
    · exact .inr ⟨i, e, entry, nonempty, hit, congrArg Prod.fst found, congrArg Prod.snd found, longest⟩
  case replaced =>
    have joins := s.usableFallback_eq_some hf usable
    exact ⟨(s.replaced_usable joins).2, fun d hd => s.member_replaced joins hd⟩
  case removed =>
    have none := s.usableFallback_eq_none unusable
    exact ⟨congrArg Replacement.replaced (s.replaceClosed_unusable none), fun d hd => s.member_removed none hd⟩
end

-- ==== Proofs: destinations configured, opened and paused ====
section
/-!
SUPPORT. What the setting of WORK (R114) and a change of a destination's state (R115) leave of the part, slot by slot, and a
record answered after them; then DEST_CONFIG, DEST_OPEN and DEST_PAUSE (R117 to R119) by what each has done.
-/

namespace Sys2Proof.Machine

variable (s : State)

/-! ## WORK, and replies behind it -/

theorem State.signalWork_eq (n : Nat) : ∃ stations, s.signalWork n = { s with spu := { s.spu with stations := stations } } := by
  unfold State.signalWork
  dsimp only
  split
  · exact ⟨s.spu.stations, rfl⟩
  · split
    · exact ⟨_, rfl⟩
    · exact ⟨s.spu.stations, rfl⟩

/-- WORK is set at the slot that an OPEN or PAUSED destination is bound to, and nowhere else (R114). -/
theorem State.station_signalWork (n m : Nat) : (s.signalWork n).station m = { s.station m with
    work := (s.station m).work || decide ((s.destination n).bound = some m ∧ (s.destination n).accepting = true) } := by
  unfold State.signalWork
  dsimp only
  cases bound : (s.destination n).bound with
  | none => simp
  | some b =>
    dsimp only
    by_cases accepts : (s.destination n).accepting = true
    · rw [if_pos accepts, State.setWork, State.station_setStation]
      by_cases here : m = b
      · subst here
        simp [accepts]
      · simp [here, Ne.symm here]
    · simp [accepts]

theorem State.replies_signalWork (n m : Nat) : ((s.signalWork n).station m).replies = (s.station m).replies := by
  rw [State.station_signalWork]

theorem State.replies_fillReservation (slot m : Nat) (x : Reply) :
    ((s.fillReservation slot x).station m).replies = (s.station m).replies ++ if m = slot then [x] else [] := by
  rw [State.fillReservation, State.station_setStation]
  by_cases own : m = slot
  · rw [if_pos own, if_pos own, own]
  · rw [if_neg own, if_neg own, List.append_nil]

theorem State.work_taken (slot m : Nat) : ((s.taken slot).station m).work = (s.station m).work := by
  by_cases own : m = slot
  · rw [own, State.station_taken_same]
  · rw [State.station_taken_ne _ _ own]

/-- A record answered: the reply joins its slot's queue, and its reservation ends (R170). -/
theorem State.station_fill_of_taken {slot : Nat} {t : State} (x : Reply) {m : Nat} (w : Bool)
    (h : t.station m = { (s.taken slot).station m with work := w }) : (t.fillReservation slot x).station m = { s.station m with
      requests := if m = slot then (s.station m).requests.tail else (s.station m).requests
      replies := if m = slot then (s.station m).replies ++ [x] else (s.station m).replies
      work := w } := by
  rw [State.fillReservation, State.station_setStation]
  by_cases own : m = slot
  · subst own
    simp [h]
  · simp [own, h, s.station_taken_ne slot own]

/-! ## A change of state -/

/-- The note a destination's slot is sent on a change of state (R115). -/
def Destination.stateNote (d : Destination) (n : Nat) (st : DestState) : Reply :=
  notice .destState [word n, word st.code, word d.state.code, word d.queue.length, word d.checkouts.length]

/-- A destination has changed its state, and only notices have followed (R115). -/
theorem State.upTo_changeDest (n : Nat) (st : DestState) :
    UpToNotices (s.setDestination n { s.destination n with state := st }) (s.changeDest n st) := by
  unfold State.changeDest
  dsimp only
  split
  · exact .refl _
  · exact State.upTo_send _ _ _ _

theorem State.changeDest_unbound {n : Nat} (st : DestState) (h : (s.destination n).bound = none) :
    s.changeDest n st = s.setDestination n { s.destination n with state := st } := by
  unfold State.changeDest
  dsimp only
  rw [h]

/-- Where the bound slot has room and no slot is under reset, DEST_STATE joins its reply queue, and no other notice (R115, R175). -/
theorem State.changeDest_bound {n m : Nat} (st : DestState) (h : (s.destination n).bound = some m) (reset : s.spu.underReset = [])
    (room : s.replyRoom m = true) : s.changeDest n st =
      (s.setDestination n { s.destination n with state := st }).appendReply m ((s.destination n).stateNote n st) := by
  unfold State.changeDest
  dsimp only
  rw [h]
  exact State.send_one _ _ _ room (by simp [reset])

theorem State.replies_changeDest {n m : Nat} (st : DestState) (h : (s.destination n).bound = some m)
    (reset : s.spu.underReset = []) (room : s.replyRoom m = true) :
    ((s.changeDest n st).station m).replies = (s.station m).replies ++ [(s.destination n).stateNote n st] := by
  simp [s.changeDest_bound st h reset room, State.appendReply]

/-! ## Notices with WORK among them -/

/-- The relation reads the slots of its first state, not the table that holds them. -/
theorem UpToNotices.of_station {s s' t : State} (rest : s' = { s with spu := s'.spu })
    (under : s'.spu.underReset = s.spu.underReset) (fault : s'.spu.fault = s.spu.fault)
    (station : ∀ n, s'.station n = s.station n) (h : UpToNotices s t) : UpToNotices s' t := by
  refine ⟨?_, h.underReset.trans under.symm, fun f => h.fault (fault ▸ f), fun n => ?_⟩
  · rw [h.rest, rest]
  · rw [station]
    exact h.station n

/-- WORK set at a slot, or not, before the notices as behind them. -/
theorem UpToNotices.withWork {s t t' : State} (h : UpToNotices s t) (m : Nat) (w : Bool) (rest : t' = { t with spu := t'.spu })
    (under : t'.spu.underReset = t.spu.underReset) (fault : t'.spu.fault = t.spu.fault)
    (station : ∀ n, t'.station n = { t.station n with work := (t.station n).work || (decide (n = m) && w) }) :
    UpToNotices (s.setStation m { s.station m with work := (s.station m).work || w }) t' := by
  refine ⟨?_, under.trans h.underReset, fun f => fault ▸ h.fault f, fun n => ?_⟩
  · rw [rest, h.rest]
    rfl
  · obtain ⟨xs, lost, told⟩ := h.station n
    refine ⟨xs, lost, ?_⟩
    rw [station, told, State.station_setStation]
    by_cases here : n = m
    · subst here
      simp
    · simp [here]

/-- A destination opened, up to notices: its slot has WORK where the queue is not empty (R114, R118). -/
theorem State.upTo_destOpened {n m : Nat} {d : Destination} (hd : d = s.destination n) (bound : d.bound = some m) {u : State}
    (hu : u = s.setDestination n { d with state := .opened }) : UpToNotices
      (u.setStation m { u.station m with work := (u.station m).work || decide (d.urgent ++ d.normal ≠ []) })
      (s.destOpened n) := by
  subst hd hu
  have told := s.upTo_changeDest n .opened
  have now := told.destination n
  rw [State.destination_setDestination_same] at now
  have queue : ((s.changeDest n .opened).destination n).queue = (s.destination n).urgent ++ (s.destination n).normal := by
    rw [now]
    rfl
  unfold State.destOpened
  dsimp only
  rw [queue]
  split
  · rename_i empty
    refine told.withWork m _ rfl rfl rfl fun k => ?_
    simp [List.isEmpty_iff.1 empty]
  · rename_i waits
    obtain ⟨stations, signal⟩ := (s.changeDest n .opened).signalWork_eq n
    refine told.withWork m _ (by rw [signal]) (by rw [signal]) (by rw [signal]) fun k => ?_
    have waits : (s.destination n).urgent ++ (s.destination n).normal ≠ [] := fun none => waits (List.isEmpty_iff.2 none)
    have slot : decide (m = k) = decide (k = m) := decide_eq_decide.2 eq_comm
    rw [State.station_signalWork, now]
    simp [bound, Destination.accepting, waits, slot]

theorem State.destOpened_unbound {n : Nat} (h : (s.destination n).bound = none) :
    s.destOpened n = s.setDestination n { s.destination n with state := .opened } := by
  unfold State.destOpened
  rw [s.changeDest_unbound .opened h]
  dsimp only
  split
  · rfl
  · unfold State.signalWork
    rw [State.destination_setDestination_same]
    dsimp only
    rw [h]

theorem State.replies_destOpened {n m : Nat} (bound : (s.destination n).bound = some m) (reset : s.spu.underReset = [])
    (room : s.replyRoom m = true) :
    ((s.destOpened n).station m).replies = (s.station m).replies ++ [(s.destination n).stateNote n .opened] := by
  unfold State.destOpened
  dsimp only
  split
  · exact s.replies_changeDest .opened bound reset room
  · rw [State.replies_signalWork]
    exact s.replies_changeDest .opened bound reset room

/-- A record answered after WORK was set at a slot, or not, and notices had followed. -/
theorem State.upTo_answer_work {slot m : Nat} {w : Bool} {u b t : State} (x : Reply) (hu : u.spu = (s.taken slot).spu)
    (hb : b = { u with spu := (s.popped slot).spu })
    (h : UpToNotices (u.setStation m { u.station m with work := (u.station m).work || w }) t) :
    UpToNotices (b.setStation m { b.station m with work := (b.station m).work || w }) (t.fillReservation slot x) := by
  have taken (k : Nat) : u.station k = (s.taken slot).station k := by rw [State.station, hu, State.station]
  have popped (k : Nat) : b.station k = (s.popped slot).station k := by rw [hb]; rfl
  have reserved : ((b.setStation m { b.station m with work := (b.station m).work || w }).station slot).reserved
      = (s.station slot).reserved := by
    rw [State.station_setStation]
    split
    · rename_i own
      simp [popped, ← own, State.popped]
    · simp [popped, State.popped]
  refine (s.upTo_fill x reserved (h.of_station ?_ ?_ ?_ fun k => ?_)).1
  · rw [hb]
    rfl
  · rw [hb]
    show _ = u.spu.underReset
    rw [hu]
    rfl
  · rw [hb]
    show _ = u.spu.fault
    rw [hu]
    rfl
  · simp only [State.station_setStation, taken, popped, State.popped, s.taken_eq]
    by_cases own : k = slot <;> by_cases here : k = m
    · subst own here
      simp
    · subst own
      simp [here]
    · subst here
      simp [own]
    · simp [own, here]

/-! ## The commands -/

variable {s} {slot : Nat} {r : Record}

theorem decodeBound_eq (w : Word) : decodeBound w = if w.toNat < 16 then some w.toNat else none := rfl

/-- DEST_CONFIG of a slot that holds ADMINISTER: refused where the slot it names does not hold DELIVER, and carried out
otherwise. -/
theorem execDestConfig_of_takes {w1 w2 w3 w4 w5 : Word} {ws : List Word} {cs : List Byte} (h : s.Takes slot 0x50 r)
    (hw : r.words = w1 :: w2 :: w3 :: w4 :: w5 :: ws) (hcs : CountedAs ws cs) (right : (s.rights slot).administer = true)
    {n : Nat} (hn : n = min w1.toNat 31) {bound : Option Nat} (hb : bound = if w2.toNat < 16 then some w2.toNat else none)
    {d' : Destination} (hd : d' = (s.destination n).configured bound (max 10 (min w3.toNat 3600)) (max 1 (min w4.toNat 15))
      (max 1 (min w5.toNat 16)) (cs.take 16)) :
    exec (.destConfig slot) s = .next (
      if bound.any (fun m => !(s.rights m).deliver) then s.replying slot (r.reply .noRight [])
      else ((s.taken slot).bindDestination n d').fillReservation slot (r.reply .ok
        ([word n, word (bound.getD 16), word d'.holdTime, word d'.attemptLimit, word d'.checkoutLimit,
          word (if 16 < cs.length then 1 else 0), word d'.state.code] ++ countedString (cs.take 16)))) := by
  have whole : takeString ws = some (cs, []) := by simpa using takeString_of_countedAs hcs []
  subst hn hd
  show execDestConfig slot s = _
  rw [execDestConfig, s.command_of_takes h, hw]
  simp only [whole, State.rights_taken, State.destination_taken, right, Bool.not_true, Bool.false_eq_true, if_false, destOf_eq,
    decodeBound_eq, ← hb, boundWord, bit_isCut, labelLimit, clamp_eq (show 10 ≤ 3600 by decide),
    clamp_eq (show 1 ≤ 15 by decide), clamp_eq (show 1 ≤ 16 by decide)]
  split
  · exact congrArg Host.Outcome.next (s.taken_fill slot _)
  · rfl

variable {w1 : Word} {n : Nat} {d : Destination}

/-- DEST_OPEN of a CLOSED or PAUSED destination (R118): opened, and WORK set where its queue is not empty. -/
theorem execDestOpen_of_takes (h : s.Takes slot 0x51 r) (hw : r.words = [w1]) (right : (s.rights slot).administer = true)
    (hn : n = min w1.toNat 31) (state : (s.destination n).state = .closed ∨ (s.destination n).state = .paused) :
    exec (.destOpen slot) s = .next (((s.taken slot).destOpened n).fillReservation slot
      (r.reply .ok [word n, word (s.destination n).state.code, word 1])) := by
  have opened : (((s.taken slot).destOpened n).destination n).state = .opened := by
    have changed (u : State) : ((u.changeDest n .opened).destination n).state = .opened := by
      rw [(u.upTo_changeDest n .opened).destination, State.destination_setDestination_same]
    unfold State.destOpened
    dsimp only
    split
    · exact changed _
    · rw [State.destination, State.dqu_signalWork]
      exact changed _
  have run : exec (.destOpen slot) s = .next (((s.taken slot).destOpened n).fillReservation slot (r.reply .ok
      (((s.taken slot).destOpened n).destWords n (s.destination n).state))) := by
    subst hn
    show execDestOpen slot s = _
    rw [execDestOpen, s.command_of_takes h, hw]
    simp only [State.rights_taken, State.destination_taken, right, Bool.not_true, Bool.false_eq_true, if_false, destOf_eq]
    rcases state with state | state <;> rw [state] <;> rfl
  rwa [State.destWords, opened] at run

/-- DEST_OPEN of an OPEN or a DRAINING destination changes nothing (R118). -/
theorem execDestOpen_unchanged (h : s.Takes slot 0x51 r) (hw : r.words = [w1]) (right : (s.rights slot).administer = true)
    (hn : n = min w1.toNat 31) (hd : d = s.destination n) :
    (d.state = .opened → exec (.destOpen slot) s = .next (s.replying slot (r.reply .ok [word n, word 1, word 1])))
    ∧ (d.state = .draining → exec (.destOpen slot) s = .next (s.replying slot (r.reply .wrongState []))) := by
  subst hn hd
  have run : exec (.destOpen slot) s = _ := congrArg Host.Outcome.next (s.command_of_takes h _)
  refine ⟨fun opened => ?_, fun draining => ?_⟩
  · simpa [hw, right, destOf_eq, opened, State.answerRecord, State.taken_fill, State.destWords, DestState.code] using run
  · simpa [hw, right, destOf_eq, draining, State.answerRecord, State.taken_fill] using run

/-- DEST_PAUSE of an OPEN destination (R119). -/
theorem execDestPause_of_takes (h : s.Takes slot 0x52 r) (hw : r.words = [w1]) (right : (s.rights slot).administer = true)
    (hn : n = min w1.toNat 31) (state : (s.destination n).state = .opened) :
    exec (.destPause slot) s = .next (((s.taken slot).changeDest n .paused).fillReservation slot
      (r.reply .ok [word n, word 1, word 2])) := by
  have paused : (((s.taken slot).changeDest n .paused).destination n).state = .paused := by
    rw [((s.taken slot).upTo_changeDest n .paused).destination, State.destination_setDestination_same]
  subst hn
  show execDestPause slot s = _
  rw [execDestPause, s.command_of_takes h]
  simp [hw, right, destOf_eq, state, State.answerRecord, State.destWords, paused, DestState.code]

/-- DEST_PAUSE of a destination that is not OPEN changes nothing (R119). -/
theorem execDestPause_unchanged (h : s.Takes slot 0x52 r) (hw : r.words = [w1]) (right : (s.rights slot).administer = true)
    (hn : n = min w1.toNat 31) (hd : d = s.destination n) :
    (d.state = .paused → exec (.destPause slot) s = .next (s.replying slot (r.reply .ok [word n, word 2, word 2])))
    ∧ (d.state = .closed ∨ d.state = .draining →
        exec (.destPause slot) s = .next (s.replying slot (r.reply .wrongState []))) := by
  subst hn hd
  have run : exec (.destPause slot) s = _ := congrArg Host.Outcome.next (s.command_of_takes h _)
  refine ⟨fun paused => ?_, fun state => ?_⟩
  · simpa [hw, right, destOf_eq, paused, State.answerRecord, State.taken_fill, State.destWords, DestState.code] using run
  · rcases state with closed | draining
    · simpa [hw, right, destOf_eq, closed, State.answerRecord, State.taken_fill] using run
    · simpa [hw, right, destOf_eq, draining, State.answerRecord, State.taken_fill] using run

/-! ## DEST_CONFIG, slot by slot -/

/-- Slot `m` gets WORK from a binding to it where the queue is not empty and the destination OPEN or PAUSED (R114). -/
theorem State.station_bindDestination (s : State) (n m : Nat) (d : Destination) : (s.bindDestination n d).station m =
    { s.station m with work := (s.station m).work || decide (d.bound = some m ∧ d.bound ≠ (s.destination n).bound
      ∧ d.queue ≠ [] ∧ d.accepting = true) } := by
  unfold State.bindDestination
  dsimp only
  split
  · rename_i signal
    rw [State.station_signalWork, State.destination_setDestination_same, State.station_setDestination]
    simp [signal]
  · rename_i quiet
    have none : ¬ (d.bound = some m ∧ d.bound ≠ (s.destination n).bound ∧ d.queue ≠ [] ∧ d.accepting = true) :=
      fun ⟨_, new, waits, _⟩ => quiet ⟨new, waits⟩
    simp [none]

theorem State.bindDestination_eq (s : State) (n : Nat) (d : Destination) : ∃ stations, s.bindDestination n d =
    { s.setDestination n d with spu := { s.spu with stations := stations } } := by
  unfold State.bindDestination
  dsimp only
  split
  · exact State.signalWork_eq _ n
  · exact ⟨s.spu.stations, rfl⟩

end Sys2Proof.Machine

open Sys2Proof.Machine

/-- Settles O43: the destination as it is written, and each slot by what the binding and the reply make of it. -/
theorem destConfig : Obligations.DestConfig := by
  intro s slot r w1 w2 w3 w4 w5 ws cs n bound d d' x h hw hcs right hn hb hd hd' hx
  subst hd
  have configured : d' = (s.destination n).configured bound (max 10 (min w3.toNat 3600)) (max 1 (min w4.toNat 15))
      (max 1 (min w5.toNat 16)) (cs.take 16) := hd'
  have run := execDestConfig_of_takes h hw hcs right hn hb configured
  refine ⟨fun ⟨m, named, without⟩ => ?_, fun delivers => ?_⟩
  · rwa [if_pos (by simp [named, without])] at run
  · have allowed : ¬ bound.any (fun m => !(s.rights m).deliver) = true := by
      cases hbound : bound with
      | none => simp
      | some m => simp [delivers m hbound]
    rw [if_neg allowed, ← hx] at run
    obtain ⟨stations, bind⟩ := (s.taken slot).bindDestination_eq n d'
    have reads (m : Nat) : (((s.taken slot).bindDestination n d').fillReservation slot x).destination m
        = if m = n then d' else s.destination m := by
      rw [bind]
      exact State.destination_setDestination s n m d'
    refine ⟨_, run, (reads n).trans (if_pos rfl), fun m hm => (reads m).trans (if_neg (by simpa using hm)), fun m => ?_,
      ?_, ?_, ?_, ?_, ?_, ?_, ?_⟩
    · have signalled := (s.taken slot).station_bindDestination n m d'
      have here : d'.bound = bound := by rw [hd']
      have queue : d'.queue = (s.destination n).urgent ++ (s.destination n).normal := by rw [hd']; rfl
      simp only [here, queue, Destination.accepting_eq_true_iff, State.work_taken, State.destination_taken] at signalled
      exact s.station_fill_of_taken x _ signalled
    all_goals rw [bind]; rfl

/-- Settles O44: the change of state up to the notice it sends, WORK at an opening, and the reply queue of the bound slot. -/
theorem destOpenPause : Obligations.DestOpenPause := by
  intro s slot r w1 n d note hw right hn hd hnote
  have noted (st : DestState) : d.stateNote n st = note st.code := by
    rw [hnote, Destination.stateNote, Destination.queue, List.length_append]
    rfl
  subst hd
  refine ⟨fun h => ⟨fun state => ?opened, execDestOpen_unchanged h hw right hn rfl⟩,
    fun h => ⟨fun state => ?paused, execDestPause_unchanged h hw right hn rfl⟩⟩
  case opened =>
    refine ⟨_, execDestOpen_of_takes h hw right hn state, fun m b bound hb => ?_, fun unbound => ?_, fun m bound reset room => ?_,
      State.getLast_fill slot _ _⟩
    · exact s.upTo_answer_work (u := (s.taken slot).setDestination n { s.destination n with state := .opened }) _ rfl hb
        ((s.taken slot).upTo_destOpened rfl bound rfl)
    · rw [(s.taken slot).destOpened_unbound unbound]
      exact (s.upTo_answer (u := (s.taken slot).setDestination n { s.destination n with state := .opened }) _ rfl (.refl _)).1
    · rw [State.replies_fillReservation, (s.taken slot).replies_destOpened bound reset room, State.replies_taken,
        List.append_assoc, State.destination_taken, noted]
      rfl
  case paused =>
    refine ⟨_, execDestPause_of_takes h hw right hn state, ?_, fun m bound reset room => ?_, State.getLast_fill slot _ _⟩
    · exact (s.upTo_answer _ (by rfl) ((s.taken slot).upTo_changeDest n .paused)).1
    · rw [State.replies_fillReservation, (s.taken slot).replies_changeDest .paused bound reset room, State.replies_taken,
        List.append_assoc, State.destination_taken, noted]
      rfl
end

-- ==== Proofs: an entry that cannot stay ====
section
/-!
SUPPORT. An item that joins a queue (R112), by what every accessor reads after it, and the three cases of an entry that cannot
stay at its destination (R113, R120).
-/

namespace Sys2Proof.Machine

variable (s : State)

/-! ## Items that join -/

/-- An item stands behind those of its class (R112). -/
theorem Destination.joinTail_eq (d : Destination) (c : Priority) (x : QueueItem) : d.joinTail c x = { d with
    urgent := d.urgent ++ if c = .urgent then [x] else []
    normal := d.normal ++ if c = .normal then [x] else [] } := by
  cases c <;> simp [Destination.joinTail]

theorem State.joined_eq (n : Nat) (d : Destination) : ∃ stations, s.joined n d =
    { s.setDestination n d with spu := { s.spu with stations := stations } } := by
  unfold State.joined
  dsimp only
  split
  · exact State.signalWork_eq _ n
  · exact ⟨s.spu.stations, rfl⟩

/-- A join reaches the queue of its destination and the WORK flags, and nothing else. -/
theorem State.joinTail_eq (n i p : Nat) : ∃ stations, s.joinTail n i p =
    { s.setDestination n ((s.destination n).joinTail (s.document i).priority ⟨s.handleOf i, p⟩) with
      spu := { s.spu with stations := stations } } := s.joined_eq n _

theorem State.destination_joinTail (n i p m : Nat) : (s.joinTail n i p).destination m =
    if m = n then (s.destination n).joinTail (s.document i).priority ⟨s.handleOf i, p⟩ else s.destination m := by
  obtain ⟨stations, eq⟩ := s.joinTail_eq n i p
  rw [eq]
  exact s.destination_setDestination n m _

/-! ## The fallback -/

theorem Document.hasEntryFor_eq_false_iff (d : Document) (f : Nat) :
    d.hasEntryFor f = false ↔ ∀ x ∈ d.entryList, x.2.destination ≠ f := by
  simp [Document.hasEntryFor]

theorem State.moveCase_toFallback {i f : Nat} (fallback : s.rtu.fallback = some f) (usable : (s.destination f).accepting = true)
    (new : ∀ x ∈ (s.document i).entryList, x.2.destination ≠ f) : s.moveCase i = .toFallback f := by
  unfold State.moveCase
  rw [s.usableFallback_eq_some fallback usable]
  simp [(Document.hasEntryFor_eq_false_iff _ f).2 new]

theorem State.moveCase_withdrawn {i : Nat} (h : ∀ f, s.rtu.fallback = some f → (s.destination f).accepting = true →
    ∃ x ∈ (s.document i).entryList, x.2.destination = f) : s.moveCase i = .withdrawn := by
  unfold State.moveCase
  cases usable : s.usableFallback with
  | none => rfl
  | some f =>
    obtain ⟨fallback, accepts⟩ := State.usableFallback_accepting usable
    obtain ⟨x, listed, here⟩ := h f fallback accepts
    have has : (s.document i).hasEntryFor f = true := List.any_eq_true.2 ⟨x, listed, by simp [here]⟩
    simp [has]

theorem State.moveEntry_toFallback {i p f : Nat} {e : Entry} (h : s.moveCase i = .toFallback f) :
    s.moveEntry i p e = (s.setEntry i p (e.substituted f)).joinTail f i p := by
  rw [State.moveEntry, h]

theorem State.moveEntry_withdrawn {i p : Nat} {e : Entry} (h : s.moveCase i = .withdrawn) :
    s.moveEntry i p e = s.settleEntry i p e .withdrawn := by
  rw [State.moveEntry, h]

end Sys2Proof.Machine

open Sys2Proof.Machine

/-- Settles O46: the case by the fallback and the document's entries; a moved entry is written and then joins. -/
theorem moveEntry : Obligations.MoveEntry := by
  rintro s i p e d rfl
  refine ⟨fun f fallback usable new => ?moved, fun kept => ?withdrawn⟩
  case moved =>
    have accepts := (Destination.accepting_eq_true_iff _).2 usable
    rw [s.moveEntry_toFallback (s.moveCase_toFallback fallback accepts new)]
    set u := s.setEntry i p (e.substituted f)
    have written : u.document i = (s.document i).setEntry p (some (e.substituted f)) := s.document_setDocument_same i _
    have joined : (u.joinTail f i p).destination f =
        (s.destination f).joinTail (s.document i).priority ⟨⟨i, (s.document i).generation⟩, p⟩ := by
      rw [State.destination_joinTail, if_pos rfl, State.handleOf, written]
      rfl
    rw [joined, Destination.joinTail_eq]
    refine ⟨?_, fun urgent => by simp [urgent], fun normal => by simp [normal], fun m other => ?_, fun j other => ?_⟩
    · rw [State.document_joinTail, written, Document.entry_setEntry_same]
      rfl
    · rw [State.destination_joinTail, if_neg (by simpa using other)]
      rfl
    · rw [State.document_joinTail]
      exact s.document_setDocument_ne other _
  case withdrawn =>
    refine s.moveEntry_withdrawn (s.moveCase_withdrawn fun f fallback accepts => ?_)
    rcases kept with unset | ⟨g, set, closed | draining | listed⟩
    · simp [unset] at fallback
    · obtain rfl := Option.some.inj (set.symm.trans fallback)
      simp [Destination.accepting, closed] at accepts
    · obtain rfl := Option.some.inj (set.symm.trans fallback)
      simp [Destination.accepting, draining] at accepts
    · obtain rfl := Option.some.inj (set.symm.trans fallback)
      exact listed
end

-- ==== Proofs: a queue that names no delivery position ====
section
/-!
SUPPORT. DEST_CLOSE where the closing queue names a position outside 1 to 8 (R67), as no sound queue does. The entry there is
moved to the fallback, so that none is WITHDRAWN; but it is not in the delivery list, and its document settles with nothing
outstanding (R70). The UNROUTED_DOC notice (R71) then comes before DEST_STATE.
-/

namespace Sys2Proof.Machine

/-- A QUEUED document whose one entry, for destination 1, stands at position 9. -/
def offListDocument : Document :=
  { Document.free with state := .queued, entries := ⟨[(9, some ⟨1, none, .queued, 0, 0, none, none⟩)]⟩ }

/-- A READY part whose slot 0, holding ADMINISTER, closes destination 1: OPEN, bound to slot 0, with that entry in its queue. The
fallback is destination 2, OPEN. -/
def offListClosing : State := { State.reset with
  part := .ready
  spu := ⟨⟨[(0, { Station.first with requests := [⟨⟨0x53, 2, 0⟩, [1]⟩] })]⟩, false, []⟩
  dt := ⟨⟨[(0, offListDocument)]⟩, ⟨[]⟩, ⟨[]⟩⟩
  rtu := { State.reset.rtu with fallback := some 2 }
  dqu := ⟨⟨[(1, { Destination.powerOn with state := .opened, bound := some 0, normal := [⟨⟨0, 0⟩, 9⟩] }),
    (2, { Destination.powerOn with state := .opened })]⟩⟩ }

theorem offListClosing_takes : offListClosing.Takes 0 0x53 ⟨⟨0x53, 2, 0⟩, [1]⟩ := by decide

set_option maxRecDepth 4000 in
/-- The entry is counted as moved, and the notice of the document that settled is the first of slot 0's reply queue. -/
theorem offListClosing_run : ∃ t, exec (.destClose 0) offListClosing = .next t
    ∧ (t.station 0).replies.map (fun x => x.status) = [.unroutedDoc, .destState, .ok]
    ∧ (t.station 0).replies.getLast? = some ⟨.ok, 0x53, 0, [1, 1, 0, 1, 0]⟩ :=
  ⟨_, rfl, by decide, by decide⟩

end Sys2Proof.Machine

open Sys2Proof.Machine

/-- Refutes O45: no entry is WITHDRAWN, yet another notice of the bound slot comes before DEST_STATE. -/
theorem not_destClose : ¬ Obligations.DestClose := by
  intro h
  obtain ⟨-, -, closes⟩ := h offListClosing 0 ⟨⟨0x53, 2, 0⟩, [1]⟩ 1 1 (offListClosing.destination 1) _
    offListClosing_takes rfl (by decide) (by decide) rfl rfl
  obtain ⟨t, moved, withdrawn, run, -, -, -, -, count, -, -, -, told, -, -, -, -, -, -, last⟩ :=
    closes (by decide) (.inl (by decide))
  obtain ⟨t', run', order, reply⟩ := offListClosing_run
  obtain rfl : t' = t := Host.Outcome.next.inj (run'.symm.trans run)
  have none : withdrawn = 0 := by
    have one : moved + withdrawn = 1 := count
    have words := congrArg Reply.words (Option.some.inj (reply.symm.trans last))
    rcases Nat.eq_zero_or_pos withdrawn with none | some
    · exact none
    · obtain ⟨rfl, rfl⟩ : moved = 0 ∧ withdrawn = 1 := by omega
      exact absurd words (by decide)
  obtain ⟨ys, first⟩ := told none 0 (by decide) rfl (by decide)
  rw [first] at order
  exact absurd (List.cons.inj order).1 (by decide)
end

-- ==== Proofs: the placements of a REROUTE ====
section
/-!
SUPPORT. The placements of R123 decided at once: the destinations of the target set that have no entry take the open positions in
their order, and the others keep the place of their own entry. The placement one by one, which the part makes, comes to these.
-/

namespace Sys2Proof.Machine

/-! ## Own entries and open positions -/

/-- The entry a document has for a destination, the first where it has several, with its position. -/
def Document.ownEntry (d : Document) (m : Nat) : Option (Nat × Entry) :=
  d.entryList.find? (fun x => decide (x.2.destination = m))

/-- The positions that can take a new entry, in the order in which they are taken (R123): the empty ones, and then those that hold
an UNDELIVERABLE or WITHDRAWN entry whose destination is outside the target set. -/
def Document.openPositions (d : Document) (target : Word) : List Nat :=
  positions.filter (fun p => (d.entry p).isNone)
    ++ positions.filter (fun p => (d.entry p).any (fun e =>
      decide (e.state = .undeliverable ∨ e.state = .withdrawn) && !member target e.destination))

theorem Document.ownEntry_some {d : Document} {m p : Nat} {e : Entry} (h : d.ownEntry m = some (p, e)) :
    d.entry p = some e ∧ p ∈ positions ∧ e.destination = m := by
  have listed := List.mem_of_find?_eq_some h
  obtain ⟨q, hq, found⟩ := List.mem_filterMap.1 listed
  obtain ⟨f, hf, same⟩ := Option.map_eq_some_iff.1 found
  obtain ⟨rfl, rfl⟩ := Prod.mk.inj same
  exact ⟨hf, hq, by simpa using List.find?_some h⟩

theorem Document.outstandingSet_ne_nil {d : Document} {p : Nat} {e : Entry} (h : d.entry p = some e) (hp : p ∈ positions)
    (out : e.outstanding = true) : d.outstandingSet ≠ [] := by
  obtain ⟨h1, h8⟩ := mem_positions.1 hp
  refine List.ne_nil_of_mem (a := e.destination) (List.mem_map.2 ⟨(p, e), List.mem_filter.2 ⟨?_, out⟩, rfl⟩)
  exact Document.mem_entryList h h1 h8

theorem Document.newPosition_eq (d : Document) (target : Word) : d.newPosition target = (d.openPositions target).head? := by
  rw [Document.openPositions, List.head?_append, List.head?_filter, List.head?_filter, Document.newPosition]
  cases positions.find? (fun p => (d.entry p).isNone) <;> simp

theorem Document.nodup_openPositions (d : Document) (target : Word) : (d.openPositions target).Nodup := by
  have nodup : positions.Nodup := by decide
  refine (nodup.filter _).append (nodup.filter _) fun p empty held => ?_
  rw [List.mem_filter] at empty held
  cases found : d.entry p with
  | none => simp [found] at held
  | some e => simp [found] at empty

theorem Document.mem_openPositions {d : Document} {target : Word} {p : Nat} (h : p ∈ d.openPositions target) :
    p ∈ positions := by
  rw [Document.openPositions, List.mem_append, List.mem_filter, List.mem_filter] at h
  exact h.elim And.left And.left

/-- The place of an entry whose destination is in the target set is not open. -/
theorem Document.not_mem_openPositions {d : Document} {target : Word} {p : Nat} {e : Entry} (he : d.entry p = some e)
    (h : member target e.destination = true) : p ∉ d.openPositions target := by
  simp [Document.openPositions, he, h]

/-- A QUEUED entry takes its position from the open ones. -/
theorem Document.openPositions_setEntry (d : Document) (target : Word) (p : Nat) {e : Entry} (h : e.state = .queued) :
    (d.setEntry p (some e)).openPositions target = (d.openPositions target).filter (fun q => decide (q ≠ p)) := by
  rw [Document.openPositions, Document.openPositions, List.filter_append, List.filter_filter, List.filter_filter]
  congr 1 <;> refine List.filter_congr fun q _ => ?_ <;> rw [Document.entry_setEntry]
  · by_cases here : q = p <;> simp [here]
  · by_cases here : q = p <;> simp [here, h]

/-- An entry written in the place of none, or of one for another destination, leaves the entry for a third as it was. -/
theorem Document.ownEntry_setEntry (d : Document) {p m : Nat} {e : Entry} (other : e.destination ≠ m)
    (old : ∀ f, d.entry p = some f → f.destination ≠ m) : (d.setEntry p (some e)).ownEntry m = d.ownEntry m := by
  unfold Document.ownEntry Document.entryList
  induction positions with
  | nil => rfl
  | cons q l ih =>
    by_cases here : q = p
    · subst here
      cases found : d.entry q with
      | none => simpa [found, other] using ih
      | some f => simpa [found, other, old f found] using ih
    · simp only [List.filterMap_cons, Document.entry_setEntry_ne d here]
      cases d.entry q with
      | none => exact ih
      | some f =>
        simp only [Option.map_some, List.find?_cons]
        rw [ih]

/-! ## One placement -/

section Place

variable {d : Document} {target : Word} {m p : Nat} {original : Option Nat} {e : Entry}

theorem Document.place_own (h : d.ownEntry m = some (p, e)) : d.place target m original =
    if e.outstanding then some (d, .leftAlone) else some (d.setEntry p (some e.reset), .reset p) := by
  unfold Document.ownEntry at h
  unfold Document.place
  rw [h]

theorem Document.place_new (h : d.ownEntry m = none) : d.place target m original =
    (d.openPositions target).head?.map (fun p => (d.setEntry p (some (Entry.new m original .queued)), .created p)) := by
  unfold Document.ownEntry at h
  unfold Document.place
  rw [h, Document.newPosition_eq]
  cases (d.openPositions target).head? <;> rfl

end Place

/-! ## The placements together -/

/-- The placements of destinations whose entries are `own`, while positions `ps` are open. -/
def placements (own : Nat → Option (Nat × Entry)) : List Nat → List Nat → List (Nat × Placement)
  | [], _ => []
  | m :: ds, ps =>
    match own m with
    | some (p, e) => (m, if e.outstanding then .leftAlone else .reset p) :: placements own ds ps
    | none =>
      match ps with
      | [] => placements own ds []
      | p :: ps => (m, .created p) :: placements own ds ps

/-- The destinations without an entry. -/
def newcomers (own : Nat → Option (Nat × Entry)) (ds : List Nat) : List Nat := ds.filter (fun m => (own m).isNone)

/-- From `d` to `d'` placements have written their entries, and no other has changed (R124). -/
structure Document.Written (d d' : Document) (original : Nat → Option Nat) (xs : List (Nat × Placement)) : Prop where
  created : ∀ m p, (m, .created p) ∈ xs → d'.entry p = some (Entry.new m (original m) .queued)
  reset : ∀ m p, (m, .reset p) ∈ xs → d'.entry p = (d.entry p).map Entry.reset
  others : ∀ p, (∀ x ∈ xs, x.2.position ≠ some p) → d'.entry p = d.entry p

section Placements

variable {own : Nat → Option (Nat × Entry)} {ds ps : List Nat} {m p : Nat} {e : Entry}

theorem placements_own (h : own m = some (p, e)) : placements own (m :: ds) ps =
    (m, if e.outstanding then .leftAlone else .reset p) :: placements own ds ps := by
  simp only [placements, h]

theorem placements_new (h : own m = none) : placements own (m :: ds) (p :: ps) = (m, .created p) :: placements own ds ps := by
  rw [placements, h]

theorem placements_full (h : own m = none) : placements own (m :: ds) [] = placements own ds [] := by
  simp [placements, h]

theorem newcomers_own (h : own m = some (p, e)) : newcomers own (m :: ds) = newcomers own ds := by
  simp [newcomers, h]

theorem newcomers_new (h : own m = none) : newcomers own (m :: ds) = m :: newcomers own ds := by
  simp [newcomers, h]

/-- A new entry stands for each destination that has none, at the open positions in their order. -/
theorem mem_placements_created : (m, Placement.created p) ∈ placements own ds ps ↔ (m, p) ∈ (newcomers own ds).zip ps := by
  induction ds generalizing ps with
  | nil => simp [placements, newcomers]
  | cons k ds ih =>
    cases h : own k with
    | none =>
      rw [newcomers_new h]
      cases ps with
      | nil => simp [placements_full h, ih]
      | cons q ps => simp [placements_new h, ih]
    | some x =>
      obtain ⟨q, f⟩ := x
      rw [newcomers_own h, placements_own h, List.mem_cons, ih, or_iff_right]
      cases f.outstanding <;> simp

/-- The settled entry of a destination is reset in its place. -/
theorem mem_placements_reset : (m, Placement.reset p) ∈ placements own ds ps ↔
    m ∈ ds ∧ ∃ e, own m = some (p, e) ∧ e.outstanding = false := by
  induction ds generalizing ps with
  | nil => simp [placements]
  | cons k ds ih =>
    cases h : own k with
    | none =>
      have absent : m ∈ k :: ds ∧ (∃ e, own m = some (p, e) ∧ e.outstanding = false)
          ↔ m ∈ ds ∧ ∃ e, own m = some (p, e) ∧ e.outstanding = false := by
        refine and_congr_left fun ⟨e, held, _⟩ => List.mem_cons.trans (or_iff_right ?_)
        rintro rfl
        simp [h] at held
      rw [absent]
      cases ps with
      | nil => rw [placements_full h, ih]
      | cons q ps =>
        rw [placements_new h, List.mem_cons, ih]
        simp
    | some x =>
      obtain ⟨q, f⟩ := x
      rw [placements_own h, List.mem_cons, ih, List.mem_cons]
      by_cases here : m = k
      · subst here
        have held : (∃ e, own m = some (p, e) ∧ e.outstanding = false) ↔ p = q ∧ f.outstanding = false := by
          simp only [h, Option.some.injEq, Prod.mk.injEq, and_assoc, exists_and_left, exists_eq_left', eq_comm (a := q)]
        rw [held]
        cases out : f.outstanding <;> simp
      · simp [here]

/-- The positions of the placements: open ones, and those of own entries. -/
theorem position_of_mem_placements {x : Nat × Placement} (h : x ∈ placements own ds ps) (hp : x.2.position = some p) :
    x.1 ∈ ds ∧ ((x.1, p) ∈ (newcomers own ds).zip ps ∨ ∃ e, own x.1 = some (p, e) ∧ e.outstanding = false) := by
  obtain ⟨m, x⟩ := x
  cases x with
  | leftAlone => cases hp
  | reset q =>
    obtain rfl := Option.some.inj hp
    obtain ⟨named, settled⟩ := mem_placements_reset.1 h
    exact ⟨named, .inr settled⟩
  | created q =>
    obtain rfl := Option.some.inj hp
    have new := mem_placements_created.1 h
    exact ⟨(List.mem_filter.1 (List.of_mem_zip new).1).1, .inl new⟩

/-- Every destination is placed where the open positions suffice. -/
theorem fst_placements (h : (newcomers own ds).length ≤ ps.length) : (placements own ds ps).map Prod.fst = ds := by
  induction ds generalizing ps with
  | nil => rfl
  | cons k ds ih =>
    cases hk : own k with
    | none =>
      rw [newcomers_new hk] at h
      cases ps with
      | nil => exact absurd h (by simp)
      | cons q ps => rw [placements_new hk, List.map_cons, ih (by simpa using h)]
    | some x =>
      rw [newcomers_own hk] at h
      rw [placements_own hk, List.map_cons, ih h]

/-! ## The entries written -/

variable {d d' : Document} {target : Word} {original : Nat → Option Nat} {xs : List (Nat × Placement)}

theorem Document.written_nil (d : Document) (original : Nat → Option Nat) : d.Written d original [] :=
  ⟨fun _ _ h => (List.not_mem_nil h).elim, fun _ _ h => (List.not_mem_nil h).elim, fun _ _ => rfl⟩

theorem Document.Written.leftAlone (h : d.Written d' original xs) : d.Written d' original ((m, .leftAlone) :: xs) where
  created k p hm := h.created k p (by simpa using hm)
  reset k p hm := h.reset k p (by simpa using hm)
  others p hp := h.others p fun x hx => hp x (List.mem_cons_of_mem _ hx)

/-- One entry written ahead of the others, at a position of its own. -/
theorem Document.Written.cons {x : Placement} (h : (d.setEntry p (some e)).Written d' original xs) (hx : x.position = some p)
    (apart : ∀ y ∈ xs, y.2.position ≠ some p) (created : x = .created p → e = Entry.new m (original m) .queued)
    (reset : x = .reset p → (d.entry p).map Entry.reset = some e) : d.Written d' original ((m, x) :: xs) := by
  have written : d'.entry p = some e := (h.others p apart).trans (d.entry_setEntry_same p (some e))
  refine ⟨fun k q hm => ?_, fun k q hm => ?_, fun q hq => ?_⟩
  · rcases List.mem_cons.1 hm with here | later
    · obtain ⟨rfl, rfl⟩ := Prod.mk.inj here
      obtain rfl := Option.some.inj hx
      rw [written, created rfl]
    · exact h.created k q later
  · rcases List.mem_cons.1 hm with here | later
    · obtain ⟨rfl, rfl⟩ := Prod.mk.inj here
      obtain rfl := Option.some.inj hx
      rw [written, reset rfl]
    · have other : q ≠ p := by
        rintro rfl
        exact apart _ later rfl
      rw [h.reset k q later, Document.entry_setEntry_ne d other]
  · have other : q ≠ p := by
      rintro rfl
      exact hq _ List.mem_cons_self hx
    rw [h.others q fun y hy => hq y (List.mem_cons_of_mem _ hy), Document.entry_setEntry_ne d other]

/-- Destinations of the target set, each once, with the entries `own` that a document has for them and its open positions. -/
structure Document.Places (d : Document) (target : Word) (own : Nat → Option (Nat × Entry)) (ds ps : List Nat) : Prop where
  own : ∀ m ∈ ds, d.ownEntry m = own m
  positions : d.openPositions target = ps
  nodup : ds.Nodup
  targets : ∀ m ∈ ds, member target m = true

theorem Document.Places.tail (h : d.Places target own (m :: ds) ps) : d.Places target own ds ps where
  own k hk := h.own k (List.mem_cons_of_mem _ hk)
  positions := h.positions
  nodup := (List.nodup_cons.1 h.nodup).2
  targets k hk := h.targets k (List.mem_cons_of_mem _ hk)

/-- A QUEUED entry for the first destination, written in the place of none, of its own, or of one outside the target set: what the
others have and find is as it was, and none of them is placed there. -/
theorem Document.Places.setEntry (h : d.Places target own (m :: ds) ps) (dest : e.destination = m) (queued : e.state = .queued)
    (old : ∀ f, d.entry p = some f → f.destination = m ∨ member target f.destination = false) {qs : List Nat}
    (hqs : qs = ps.filter (fun q => decide (q ≠ p))) : (d.setEntry p (some e)).Places target own ds qs
      ∧ ∀ y ∈ placements own ds qs, y.2.position ≠ some p := by
  obtain ⟨new, -⟩ := List.nodup_cons.1 h.nodup
  have places : (d.setEntry p (some e)).Places target own ds qs := by
    refine ⟨fun k hk => ?_, ?_, h.tail.nodup, h.tail.targets⟩
    · have other : m ≠ k := fun same => new (same ▸ hk)
      refine (Document.ownEntry_setEntry d (dest ▸ other) fun f hf here => ?_).trans (h.tail.own k hk)
      rcases old f hf with same | outside
      · exact other (same.symm.trans here)
      · simp [here, h.tail.targets k hk] at outside
    · rw [d.openPositions_setEntry target p queued, h.positions, hqs]
  refine ⟨places, fun y hy position => ?_⟩
  obtain ⟨named, taken | ⟨f, held, -⟩⟩ := position_of_mem_placements hy position
  · have left := (List.of_mem_zip taken).2
    rw [hqs] at left
    simp at left
  · obtain ⟨entry, -, theirs⟩ := Document.ownEntry_some ((places.own _ named).trans held)
    rw [Document.entry_setEntry_same] at entry
    obtain rfl := Option.some.inj entry
    exact new ((dest.symm.trans theirs) ▸ named)

theorem Document.placeAll_cons {d1 : Document} {x : Placement} (h : d.place target m (original m) = some (d1, x)) :
    d.placeAll target original (m :: ds) = (d1.placeAll target original ds).map (fun y => (y.1, (m, x) :: y.2)) := by
  rw [Document.placeAll, h]
  dsimp only
  cases d1.placeAll target original ds <;> rfl

/-- The placements one by one are the placements together; where the open positions do not suffice there are none (R123). -/
theorem Document.Places.placeAll (h : d.Places target own ds ps) (original : Nat → Option Nat) :
    (ps.length < (newcomers own ds).length → d.placeAll target original ds = none)
    ∧ ((newcomers own ds).length ≤ ps.length → ∃ d', d.placeAll target original ds = some (d', placements own ds ps)
      ∧ d.Written d' original (placements own ds ps)) := by
  induction ds generalizing d ps with
  | nil => exact ⟨fun few => (Nat.not_lt_zero _ few).elim, fun _ => ⟨d, rfl, d.written_nil original⟩⟩
  | cons m ds ih =>
    have mine := h.own m List.mem_cons_self
    cases hm : own m with
    | none =>
      rw [hm] at mine
      have place := Document.place_new (target := target) (original := original m) mine
      rw [h.positions] at place
      rw [newcomers_new hm]
      cases ps with
      | nil =>
        refine ⟨fun _ => ?_, fun enough => absurd enough (by simp)⟩
        rw [Document.placeAll, place]
        rfl
      | cons p ps =>
        have rest : ps = (p :: ps).filter (fun q => decide (q ≠ p)) := by
          have apart := (List.nodup_cons.1 (h.positions ▸ d.nodup_openPositions target)).1
          rw [List.filter_cons_of_neg (by simp), List.filter_eq_self.2]
          refine fun q hq => decide_eq_true ?_
          rintro rfl
          exact apart hq
        have outside : ∀ f, d.entry p = some f → f.destination = m ∨ member target f.destination = false := fun f hf => by
          refine .inr (Bool.eq_false_iff.2 fun inside => d.not_mem_openPositions hf inside ?_)
          rw [h.positions]
          exact List.mem_cons_self
        obtain ⟨next, apart⟩ := h.setEntry (e := Entry.new m (original m) .queued) rfl rfl outside rest
        obtain ⟨few, enough⟩ := ih next
        rw [Document.placeAll_cons place, placements_new hm, List.length_cons, List.length_cons]
        refine ⟨fun lt => by rw [few (by omega)]; rfl, fun le => ?_⟩
        obtain ⟨d', all, written⟩ := enough (by omega)
        exact ⟨d', by rw [all]; rfl, written.cons rfl apart (fun _ => rfl) (fun same => by cases same)⟩
    | some x =>
      obtain ⟨p, e⟩ := x
      rw [hm] at mine
      obtain ⟨entry, -, dest⟩ := Document.ownEntry_some mine
      have place := Document.place_own (target := target) (original := original m) mine
      rw [newcomers_own hm, placements_own hm]
      cases out : e.outstanding with
      | true =>
        rw [out, if_pos rfl] at place
        obtain ⟨few, enough⟩ := ih h.tail
        rw [Document.placeAll_cons place]
        refine ⟨fun lt => by rw [few lt]; rfl, fun le => ?_⟩
        obtain ⟨d', all, written⟩ := enough le
        exact ⟨d', by rw [all]; rfl, written.leftAlone⟩
      | false =>
        rw [out, if_neg Bool.false_ne_true] at place
        have unopened : ps = ps.filter (fun q => decide (q ≠ p)) := by
          have closed := Document.not_mem_openPositions entry (dest ▸ h.targets m List.mem_cons_self)
          rw [h.positions] at closed
          refine (List.filter_eq_self.2 fun q hq => decide_eq_true ?_).symm
          rintro rfl
          exact closed hq
        obtain ⟨next, apart⟩ := h.setEntry (e := e.reset) dest rfl
          (fun f hf => .inl (Option.some.inj (hf.symm.trans entry) ▸ dest)) unopened
        obtain ⟨few, enough⟩ := ih next
        rw [Document.placeAll_cons place]
        refine ⟨fun lt => by rw [few lt]; rfl, fun le => ?_⟩
        obtain ⟨d', all, written⟩ := enough le
        exact ⟨d', by rw [all]; rfl, written.cons rfl apart (fun same => by cases same) (fun _ => by rw [entry]; rfl)⟩

/-- A destination's own entry stays as it is while it is outstanding, and is reset otherwise (R124). -/
theorem Document.Places.entry_own (h : d.Places target own ds ps) (written : d.Written d' original (placements own ds ps))
    (hm : m ∈ ds) (he : own m = some (p, e)) : d'.entry p = some (if e.outstanding then e else e.reset) := by
  obtain ⟨entry, -, dest⟩ := Document.ownEntry_some ((h.own m hm).trans he)
  cases out : e.outstanding with
  | false =>
    rw [written.reset m p (mem_placements_reset.2 ⟨hm, e, he, out⟩), entry]
    rfl
  | true =>
    refine (written.others p fun x hx position => ?_).trans entry
    obtain ⟨named, taken | ⟨f, held, settled⟩⟩ := position_of_mem_placements hx position
    · refine Document.not_mem_openPositions entry (dest ▸ h.targets m hm) ?_
      rw [h.positions]
      exact (List.of_mem_zip taken).2
    · have theirs := (Document.ownEntry_some ((h.own _ named).trans held)).1
      obtain rfl := Option.some.inj (entry.symm.trans theirs)
      simp [out] at settled

/-- A document with a placed destination has something outstanding. -/
theorem Document.Places.outstandingSet_ne_nil (h : d.Places target own ds ps)
    (written : d.Written d' original (placements own ds ps)) (enough : (newcomers own ds).length ≤ ps.length) (hm : m ∈ ds) :
    d'.outstandingSet ≠ [] := by
  cases held : own m with
  | none =>
    have new : m ∈ newcomers own ds := List.mem_filter.2 ⟨hm, by rw [held]; rfl⟩
    rw [← List.map_fst_zip enough] at new
    obtain ⟨⟨k, p⟩, taken, rfl⟩ := List.mem_map.1 new
    refine Document.outstandingSet_ne_nil (written.created k p (mem_placements_created.2 taken)) ?_ rfl
    exact Document.mem_openPositions (h.positions ▸ (List.of_mem_zip taken).2)
  | some x =>
    obtain ⟨p, e⟩ := x
    obtain ⟨-, position, -⟩ := Document.ownEntry_some ((h.own m hm).trans held)
    refine Document.outstandingSet_ne_nil (h.entry_own written hm held) position ?_
    cases out : e.outstanding
    · rfl
    · simpa using out

/-! ## The placements counted -/

theorem placedCount_cons (m : Nat) (x : Placement) (xs : List (Nat × Placement)) (kind : Placement → Bool) :
    placedCount ((m, x) :: xs) kind = placedCount xs kind + if kind x then 1 else 0 := by
  unfold placedCount
  cases h : kind x <;> simp [h]

/-- The placements of the kinds `alone`, `reset` and `created`: as many as destinations with an outstanding entry, with a settled
one, and with none. -/
theorem placedCount_placements {kind : Placement → Bool} (alone reset created : Bool) (ha : kind .leftAlone = alone)
    (hr : ∀ p, kind (.reset p) = reset) (hc : ∀ p, kind (.created p) = created) (h : (newcomers own ds).length ≤ ps.length) :
    placedCount (placements own ds ps) kind =
      (if alone then (ds.filter (fun m => (own m).any (fun x => x.2.outstanding))).length else 0)
        + (if reset then (ds.filter (fun m => (own m).any (fun x => !x.2.outstanding))).length else 0)
        + (if created then (newcomers own ds).length else 0) := by
  induction ds generalizing ps with
  | nil => simp [placements, placedCount, newcomers]
  | cons m ds ih =>
    cases hm : own m with
    | none =>
      rw [newcomers_new hm] at h ⊢
      cases ps with
      | nil => simp at h
      | cons p ps =>
        rw [placements_new hm, placedCount_cons, ih (by simpa using h), hc]
        cases created <;> simp [hm, Nat.add_assoc]
    | some x =>
      obtain ⟨p, e⟩ := x
      rw [newcomers_own hm] at h ⊢
      rw [placements_own hm, placedCount_cons, ih h]
      cases out : e.outstanding <;> simp only [if_true, Bool.false_eq_true, if_false, ha, hr] <;>
        simp only [List.filter_cons, hm, Option.any_some, out, Bool.not_true, Bool.not_false, if_true, Bool.false_eq_true, if_false,
          List.length_cons]
      · cases reset <;> simp; omega
      · cases alone <;> simp; omega

/-- Words 3 to 5 of the reply (R124). -/
theorem placedWords_placements (h : (newcomers own ds).length ≤ ps.length) : placedWords (placements own ds ps) =
    [word (ds.filter (fun m => (own m).any (fun x => x.2.outstanding))).length,
      word (ds.filter (fun m => (own m).any (fun x => !x.2.outstanding))).length, word (newcomers own ds).length] := by
  rw [placedWords, placedCount_placements true false false rfl (fun _ => rfl) (fun _ => rfl) h,
    placedCount_placements false true false rfl (fun _ => rfl) (fun _ => rfl) h,
    placedCount_placements false false true rfl (fun _ => rfl) (fun _ => rfl) h]
  simp

end Placements

end Sys2Proof.Machine
end

-- ==== Proofs: a document rerouted ====
section
/-!
SUPPORT. The placed entries join their queues (R124), each destination once; and the document settles only where nothing was
placed (R70). Then REROUTE (R123, R124) by the placements together.
-/

namespace Sys2Proof.Machine

variable (s : State)

/-! ## A document that settles, seen from the rest of the part -/

theorem State.settleIfEmpty_of_outstanding {i : Nat} (h : (s.document i).outstandingSet ≠ []) : s.settleIfEmpty i = s :=
  if_neg fun ⟨_, empty⟩ => h empty

/-- A document that settles leaves every other document as it was, and the store. -/
theorem State.settleIfEmpty_frame (i : Nat) :
    SameDocumentsBut s (s.settleIfEmpty i) i ∧ SameStore s (s.settleIfEmpty i) := by
  have through {d : Document} {t : State} (documents : SameDocumentsBut (s.setDocument i d) t i)
      (store : SameStore (s.setDocument i d) t) : SameDocumentsBut s t i ∧ SameStore s t :=
    ⟨fun j other => (documents j other).trans (s.document_setDocument_ne other d), store.bytes, store.links⟩
  unfold State.settleIfEmpty
  dsimp only
  split
  · unfold State.settle
    dsimp only
    split
    · have told (u : State) : UpToNotices u (u.sendUnrouted i 1) := u.upTo_send _ _ _
      exact through (fun j _ => (told _).document j) (.of_eq (by rw [(told _).bsm]) (by rw [(told _).bsm]))
    · unfold State.releaseTest
      split
      · have freed (u : State) := u.frees_freeDocument i
        exact through (freed _).documents (freed _).store
      · exact through (fun _ _ => rfl) (.of_eq rfl rfl)
  · exact ⟨fun _ _ => rfl, .of_eq rfl rfl⟩

/-! ## Joins, one after another -/

theorem State.joinPlaced_leftAlone {i m : Nat} {x : Placement} (h : x.position = none) : s.joinPlaced i (m, x) = s := by
  cases x with
  | leftAlone => rfl
  | reset p => cases h
  | created p => cases h

theorem State.joinPlaced_position {i m p : Nat} {x : Placement} (h : x.position = some p) :
    s.joinPlaced i (m, x) = s.joinTail m i p := by
  cases x with
  | leftAlone => cases h
  | reset q => obtain rfl := Option.some.inj h; rfl
  | created q => obtain rfl := Option.some.inj h; rfl

theorem State.work_joinTail_of_work {n i p b : Nat} (h : (s.station b).work = true) :
    ((s.joinTail n i p).station b).work = true := by
  unfold State.joinTail State.joined
  dsimp only
  split
  · rw [State.station_signalWork, State.station_setDestination, h]
    rfl
  · exact h

/-- An item that joins an empty queue sets WORK (R114). -/
theorem State.work_joinTail {n i p b : Nat} (empty : (s.destination n).queue = []) (bound : (s.destination n).bound = some b)
    (accepts : (s.destination n).accepting = true) : ((s.joinTail n i p).station b).work = true := by
  unfold State.joinTail State.joined
  dsimp only
  have settings := (s.destination n).joinTail_settings (s.document i).priority ⟨s.handleOf i, p⟩
  have state := (s.destination n).joinTail_state (s.document i).priority ⟨s.handleOf i, p⟩
  rw [if_pos (List.isEmpty_iff.2 empty), State.station_signalWork, State.destination_setDestination_same]
  simp only [Bool.or_eq_true, decide_eq_true_eq]
  exact .inr ⟨(congrArg DestSettings.bound settings).trans bound, Destination.accepting_of_state state accepts⟩

/-- The placed entries of document `i` join their queues. -/
def State.joinAll (s : State) (i : Nat) (xs : List (Nat × Placement)) : State := xs.foldl (fun s x => s.joinPlaced i x) s

theorem State.joinAll_eq (i : Nat) (xs : List (Nat × Placement)) : ∃ stations dqu, s.joinAll i xs =
    { s with dqu := dqu, spu := { s.spu with stations := stations } } := by
  unfold State.joinAll
  induction xs generalizing s with
  | nil => exact ⟨s.spu.stations, s.dqu, rfl⟩
  | cons x xs ih =>
    obtain ⟨stations, dqu, rest⟩ := ih (s.joinPlaced i x)
    refine ⟨stations, dqu, rest.trans ?_⟩
    cases position : x.2.position with
    | none => rw [s.joinPlaced_leftAlone (m := x.1) position]
    | some p =>
      obtain ⟨_, joined⟩ := s.joinTail_eq x.1 i p
      rw [s.joinPlaced_position (m := x.1) position, joined]
      rfl

theorem State.work_joinAll_of_work {i b : Nat} (xs : List (Nat × Placement)) (h : (s.station b).work = true) :
    ((s.joinAll i xs).station b).work = true := by
  unfold State.joinAll
  induction xs generalizing s with
  | nil => exact h
  | cons x xs ih =>
    refine ih (s.joinPlaced i x) ?_
    cases position : x.2.position with
    | none => rwa [s.joinPlaced_leftAlone (m := x.1) position]
    | some p =>
      rw [s.joinPlaced_position (m := x.1) position]
      exact s.work_joinTail_of_work h

/-- A destination at which nothing was placed keeps its queue. -/
theorem State.destination_joinAll_ne {i m : Nat} {xs : List (Nat × Placement)}
    (h : ∀ x, (m, x) ∈ xs → x.position = none) : (s.joinAll i xs).destination m = s.destination m := by
  unfold State.joinAll
  induction xs generalizing s with
  | nil => rfl
  | cons y xs ih =>
    refine (ih (s.joinPlaced i y) fun x hx => h x (List.mem_cons_of_mem _ hx)).trans ?_
    obtain ⟨k, y⟩ := y
    cases position : y.position with
    | none => rw [s.joinPlaced_leftAlone position]
    | some p =>
      rw [s.joinPlaced_position position, State.destination_joinTail, if_neg]
      rintro rfl
      simp [h y List.mem_cons_self] at position

/-- An entry placed at a destination that has no other stands at the tail of its class, WORK being set where the queue was empty. -/
theorem State.destination_joinAll {i m p : Nat} {x : Placement} {xs : List (Nat × Placement)} (once : (xs.map Prod.fst).Nodup)
    (hx : (m, x) ∈ xs) (position : x.position = some p) : (s.joinAll i xs).destination m =
      (s.destination m).joinTail (s.document i).priority ⟨s.handleOf i, p⟩
    ∧ ((s.destination m).accepting = true → ∀ b, (s.destination m).bound = some b → (s.destination m).queue = [] →
      ((s.joinAll i xs).station b).work = true) := by
  unfold State.joinAll
  induction xs generalizing s with
  | nil => exact (List.not_mem_nil hx).elim
  | cons y xs ih =>
    obtain ⟨apart, distinct⟩ := List.nodup_cons.1 once
    rw [List.foldl_cons]
    rcases List.mem_cons.1 hx with rfl | later
    · rw [s.joinPlaced_position position]
      refine ⟨(State.destination_joinAll_ne _ fun x hx => ?_).trans ((s.destination_joinTail m i p m).trans (if_pos rfl)),
        fun accepts b bound empty => State.work_joinAll_of_work _ xs (s.work_joinTail empty bound accepts)⟩
      exact (apart (List.mem_map.2 ⟨_, hx, rfl⟩)).elim
    · have other : m ≠ y.1 := fun same => apart (same ▸ List.mem_map.2 ⟨_, later, rfl⟩)
      obtain ⟨k, y⟩ := y
      obtain ⟨destination, work⟩ := ih (s.joinPlaced i (k, y)) distinct later
      have kept : (s.joinPlaced i (k, y)).destination m = s.destination m
          ∧ (s.joinPlaced i (k, y)).document i = s.document i := by
        cases first : y.position with
        | none => rw [s.joinPlaced_leftAlone first]; exact ⟨rfl, rfl⟩
        | some q =>
          rw [s.joinPlaced_position first, State.destination_joinTail, if_neg other, State.document_joinTail]
          exact ⟨rfl, rfl⟩
      rw [kept.1] at destination work
      rw [State.handleOf, kept.2] at destination
      exact ⟨destination, work⟩

/-! ## The document and its queues -/

theorem State.steady_joinAll (i : Nat) (xs : List (Nat × Placement)) : s.Steady (s.joinAll i xs) := by
  refine State.Steady.foldl _ (fun u x => ?_) xs s
  cases position : x.2.position with
  | none =>
    rw [u.joinPlaced_leftAlone (m := x.1) position]
    exact .refl u
  | some p =>
    rw [u.joinPlaced_position (m := x.1) position]
    exact u.steady_joinTail _ _ _

variable {s} in
/-- What a REROUTE does: the queues are those of the joins, the document settles where nothing of it is outstanding, and nothing
else changes but what then becomes of its blocks (R70, R124). -/
theorem State.rerouted_effects {i : Nat} {d : Document} {xs : List (Nat × Placement)} {t : State} (ht : t = s.rerouted i d xs) :
    s.Settles i d.requeued (t.document i) ∧ SameDocumentsBut s t i ∧ t.iu = s.iu ∧ t.te = s.te ∧ s.Steady t ∧ SameStore s t
      ∧ (∀ m, t.destination m = ((s.setDocument i d.requeued).joinAll i xs).destination m)
      ∧ (d.outstandingSet ≠ [] → t = (s.setDocument i d.requeued).joinAll i xs) := by
  obtain ⟨stations, dqu, eq⟩ := (s.setDocument i d.requeued).joinAll_eq i xs
  have joined := (s.steady_setDocument i d.requeued).trans (State.steady_joinAll _ i xs)
  replace ht : t = ((s.setDocument i d.requeued).joinAll i xs).settleIfEmpty i := ht
  generalize (s.setDocument i d.requeued).joinAll i xs = u at eq joined ht ⊢
  subst ht
  have document (j : Nat) : u.document j = if j = i then d.requeued else s.document j := by
    rw [eq]
    exact s.document_setDocument i j _
  have mine := (document i).trans (if_pos rfl)
  have moment (d₀ d₁ : Document) (h : u.Settles i d₀ d₁) : s.Settles i d₀ d₁ := by rwa [eq] at h
  have settles := u.settles_settleIfEmpty i (by rw [mine]; rfl)
  obtain ⟨others, store⟩ := u.settleIfEmpty_frame i
  have settling := u.traffic_settleIfEmpty i
  refine ⟨moment _ _ (mine ▸ settles), fun j other => (others j other).trans ((document j).trans (if_neg other)),
    settling.iu.trans (by rw [eq]; rfl), settling.changes.te.trans (by rw [eq]; rfl),
    joined.trans (u.steady_settleIfEmpty i), SameStore.trans (.of_eq (by rw [eq]; rfl) (by rw [eq]; rfl)) store,
    fun m => by rw [State.destination, u.dqu_settleIfEmpty i, State.destination],
    fun out => u.settleIfEmpty_of_outstanding (by rw [mine]; exact out)⟩

/-- A reply in its slot leaves WORK as it was. -/
theorem State.work_fillReservation (slot b : Nat) (x : Reply) :
    ((s.fillReservation slot x).station b).work = (s.station b).work := by
  rw [State.fillReservation, State.station_setStation]
  split
  · rename_i own
    rw [own]
  · rfl

theorem exists_mem_members {w : Word} (h : w ≠ 0) : ∃ m, m ∈ members w := by
  by_contra none
  refine h (BitVec.eq_of_getLsbD_eq fun m hm => ?_)
  refine Eq.trans ?_ BitVec.getLsbD_zero.symm
  exact Bool.eq_false_iff.2 fun named => none ⟨m, (mem_members w m).2 ⟨hm, named⟩⟩

/-! ## The command -/

variable {s} {slot : Nat} {r : Record} {w1 w2 : Word} {i : Nat} {d : Document}

/-- A REROUTE of a set of more than 8 members, of an empty one, or of a document in the wrong state. -/
theorem execReroute_refused (h : s.Takes slot 0x55 r) (hw : r.words = [w1, w2]) (right : (s.rights slot).administer = true)
    (hd : d = s.document (decodeHandle w1).index) (current : (decodeHandle w1).generation = d.generation) :
    (8 < (members w2).length → exec (.reroute slot) s = .next (s.replying slot (r.reply .setTooLarge [])))
    ∧ (w2 = 0 → exec (.reroute slot) s = .next (s.replying slot (r.reply .badField [])))
    ∧ (w2 ≠ 0 → (members w2).length ≤ 8 → d.state = .free ∨ d.state = .receiving ∨ d.state = .purgePending →
      exec (.reroute slot) s = .next (s.replying slot (r.reply .wrongState []))) := by
  subst hd
  have fresh : s.stale (decodeHandle w1) = false := by simp [State.stale, current]
  have run : exec (.reroute slot) s = _ := congrArg Host.Outcome.next (s.command_of_takes h _)
  simp only [hw, State.rights_taken, right, State.stale_taken, fresh, State.document_taken, Bool.not_true, Bool.false_eq_true,
    if_false] at run
  refine ⟨fun large => ?_, fun zero => ?_, fun nonzero small state => ?_⟩
  · simpa [tooLarge, large, State.answerRecord, State.taken_fill] using run
  · have small : tooLarge w2 = false := by subst zero; decide
    simp only [small, Bool.false_eq_true, if_false, if_pos zero] at run
    simpa [State.answerRecord, State.taken_fill] using run
  · have small : tooLarge w2 = false := by simpa [tooLarge] using small
    simp only [small, Bool.false_eq_true, if_false, if_neg nonzero] at run
    rcases state with state | state | state <;> simpa [state, State.answerRecord, State.taken_fill] using run

/-- A REROUTE of a complete document by its placements. -/
theorem execReroute_of_takes (h : s.Takes slot 0x55 r) (hw : r.words = [w1, w2]) (right : (s.rights slot).administer = true)
    (hi : i = (decodeHandle w1).index) (hd : d = s.document i) (current : (decodeHandle w1).generation = d.generation)
    (nonzero : w2 ≠ 0) (small : (members w2).length ≤ 8) (state : d.state = .queued ∨ d.state = .unrouted ∨ d.state = .done)
    {x : Replacement} (hx : x = s.replaceClosed w2) :
    (d.placeAll x.delivery (x.original w2) (members x.delivery) = none →
      exec (.reroute slot) s = .next (s.replying slot (r.reply .setTooLarge [])))
    ∧ ∀ d' xs t, d.placeAll x.delivery (x.original w2) (members x.delivery) = some (d', xs) →
      t = (s.taken slot).rerouted i d' xs → exec (.reroute slot) s = .next (t.fillReservation slot (r.reply .ok
        ([word d.state.code, word (t.document i).state.code] ++ placedWords xs
          ++ [x.replaced, x.removed, word (t.document i).outstandingSet.length]))) := by
  subst hi hd hx
  have fresh : s.stale (decodeHandle w1) = false := by simp [State.stale, current]
  have small : tooLarge w2 = false := by simpa [tooLarge] using small
  have run : exec (.reroute slot) s = _ := congrArg Host.Outcome.next (s.command_of_takes h _)
  simp only [hw, State.rights_taken, right, State.stale_taken, fresh, small, nonzero, State.document_taken, Bool.not_true,
    Bool.false_eq_true, if_false, State.replaceClosed_taken] at run
  refine ⟨fun none => ?_, fun d' xs t all ht => ?_⟩
  · rw [none] at run
    rcases state with state | state | state <;> simpa [state, State.answerRecord, State.taken_fill] using run
  · rw [all] at run
    subst ht
    rcases state with state | state | state <;> simpa [state, State.answerRecord] using run

end Sys2Proof.Machine

open Sys2Proof.Machine

/-- Settles O47: the placements together, their joins, and the document that settles. -/
theorem reroute : Obligations.Reroute := by
  intro s slot r w1 w2 D i d own fresh places h hw right hi hd current hD hown hfresh hplaces
  obtain ⟨large, zero, wrong⟩ := execReroute_refused h hw right (hi ▸ hd) current
  refine ⟨large, zero, wrong, fun nonzero small state => ?_⟩
  have target : d.Places D own (members D) places :=
    ⟨fun m _ => by rw [hown]; rfl, hplaces.symm, members_nodup D, fun m hm => ((mem_members D m).1 hm).2⟩
  obtain ⟨refused, run⟩ := execReroute_of_takes h hw right hi hd current nonzero small state rfl
  rw [← hD] at refused run
  obtain ⟨few, enough⟩ := target.placeAll ((s.replaceClosed w2).original w2)
  replace hfresh : fresh = newcomers own (members D) := hfresh
  rw [← hfresh] at few enough
  refine ⟨fun lt => refused (few lt), fun le => ?_⟩
  obtain ⟨d', all, written⟩ := enough le
  have le' : (newcomers own (members D)).length ≤ places.length := hfresh ▸ le
  generalize ht : (s.taken slot).rerouted i d' (placements own (members D) places) = t
  obtain ⟨settles, documents, iu, te, steady, store, queues, unsettled⟩ := State.rerouted_effects ht.symm
  have rest := congrArg Document.requeued (Document.placeAll_rest all)
  have waits (nonempty : ∃ m, m ∈ members D) : d'.outstandingSet ≠ [] :=
    nonempty.elim fun m hm => target.outstandingSet_ne_nil written le' hm
  have once : ((placements own (members D) places).map Prod.fst).Nodup := by
    rw [fst_placements le']
    exact members_nodup D
  refine ⟨_, d'.requeued, run _ _ t all ht.symm, rest, settles, fun nonempty => ?document, fun x hx => ?created,
    fun m hm p e he => ?own, fun p unnamed unowned => ?others, fun m p placed => ?joined, fun m old kept => ?unjoined, documents,
    fun nonempty => ?bsm, iu, te, ?config, ⟨store.bytes, store.links⟩, ?reply⟩
  case document => exact settles.1 (waits (exists_mem_members nonempty))
  case created => exact written.created x.1 x.2 (mem_placements_created.2 (hfresh ▸ hx))
  case own =>
    refine (target.entry_own written hm he).trans ?_
    cases e.outstanding <;> rfl
  case others =>
    refine written.others p fun x hx position => ?_
    obtain ⟨named, taken | ⟨e, held, -⟩⟩ := position_of_mem_placements hx position
    · exact unnamed _ (hfresh ▸ taken) rfl
    · exact unowned _ named _ held rfl
  case joined =>
    obtain ⟨x, hx, position, hm⟩ :
        ∃ x, (m, x) ∈ placements own (members D) places ∧ x.position = some p ∧ m ∈ members D := by
      rcases placed with new | reset
      · have created := mem_placements_created.2 (hfresh ▸ new)
        exact ⟨_, created, rfl, (position_of_mem_placements created rfl).1⟩
      · exact ⟨_, mem_placements_reset.2 reset, rfl, reset.1⟩
    obtain ⟨destination, work⟩ := State.destination_joinAll ((s.taken slot).setDocument i d'.requeued) (i := i) once hx position
    have accepts : (s.destination m).accepting = true := s.accepting_of_replaceClosed w2 (hD ▸ hm)
    refine ⟨(queues m).trans (destination.trans ?_), fun b bound empty => ?_⟩
    · rw [Destination.joinTail_eq, State.handleOf, State.document_setDocument_same, rest]
      rfl
    · rw [State.work_fillReservation, unsettled (waits ⟨m, hm⟩)]
      exact work accepts b bound empty
  case unjoined =>
    refine (queues m).trans (State.destination_joinAll_ne _ fun x hx => ?_)
    cases position : x.position with
    | none => rfl
    | some p =>
      obtain ⟨named, taken | ⟨e, held, settled⟩⟩ := position_of_mem_placements hx position
      · exact (old (hfresh ▸ (List.of_mem_zip taken).1)).elim
      · simp [kept named _ held] at settled
  case bsm =>
    obtain ⟨stations, dqu, joins⟩ :=
      ((s.taken slot).setDocument i d'.requeued).joinAll_eq i (placements own (members D) places)
    show t.bsm = s.bsm
    rw [unsettled (waits (exists_mem_members nonempty)), joins]
    rfl
  case config => exact ((s.steady_taken slot).trans (steady.trans (t.steady_fillReservation slot _))).config
  case reply =>
    rw [State.LastReply, State.getLast_fill, placedWords_placements le', ← hfresh]
    rfl
end

-- ==== Proofs: the checks of a checkout, and FETCH_PAGES ====
section
/-!
SUPPORT. The entry a checkout names, and the common checks of FETCH_PAGES, CONFIRM and RETURN by what they find (R131); then
FETCH_PAGES as the job that joins the engine (R132, R133).
-/

namespace Sys2Proof.Machine

/-- The entry found under a destination and a ticket (R131). -/
theorem Document.checkedOut_some {d : Document} {n k p : Nat} {e : Entry} (h : d.checkedOut n k = some (p, e)) :
    p ∈ positions ∧ d.entry p = some e ∧ e.destination = n ∧ e.state = .checkedOut ∧ e.ticket = k := by
  have listed := List.mem_of_find?_eq_some h
  obtain ⟨q, hq, held⟩ := List.mem_filterMap.1 listed
  obtain ⟨f, -, same⟩ := Option.map_eq_some_iff.1 held
  obtain ⟨rfl, rfl⟩ := Prod.mk.inj same
  have named := List.find?_some h
  rw [decide_eq_true_eq] at named
  exact ⟨hq, Document.entry_of_entryList listed, named⟩

theorem Document.checkedOut_eq_none {d : Document} {n k : Nat}
    (h : ∀ x ∈ d.entryList, ¬ (x.2.destination = n ∧ x.2.state = .checkedOut ∧ x.2.ticket = k)) : d.checkedOut n k = none :=
  List.find?_eq_none.2 fun x hx => by simpa using h x hx

section Checks

variable {s : State} {slot : Nat} {h : Handle} {n k : Nat}
  (right : (s.rights slot).deliver = true ∨ (s.rights slot).administer = true)
  (current : h.generation = (s.document h.index).generation)
include right current

/-- A command that names no checkout is refused, by its own field check first (R131). -/
theorem State.checkoutCheck_absent (none : (s.document h.index).checkedOut n k = none) (field : Option Status)
    (f : Nat → Entry → Handled) : s.checkoutCheck slot h n k field f = .refused (field.getD .notCheckedOut) := by
  have fresh : s.stale h = false := by simp [State.stale, current]
  have may : ((s.rights slot).deliver || (s.rights slot).administer) = true := by simpa using right
  unfold State.checkoutCheck
  simp only [may, fresh, none, Bool.not_true, Bool.false_eq_true, if_false]
  cases field <;> rfl

/-- A command that names a checkout it may act on is carried out where its field check passes and no job of the position is in the
engine (R131). -/
theorem State.checkoutCheck_found {p : Nat} {e : Entry} (found : (s.document h.index).checkedOut n k = some (p, e))
    (own : (s.rights slot).administer = true ∨ (s.checkoutOf n h.index p).any (fun x => decide (x.takingSlot = slot)) = true)
    (field : Option Status) (f : Nat → Entry → Handled) : s.checkoutCheck slot h n k field f =
      field.elim (if s.jobMark h.index p = true then .refused .transferActive else f p e) .refused := by
  have fresh : s.stale h = false := by simp [State.stale, current]
  have may : ((s.rights slot).deliver || (s.rights slot).administer) = true := by simpa using right
  have owner : ((s.rights slot).administer || (s.checkoutOf n h.index p).any (fun x => decide (x.takingSlot = slot))) = true := by
    rwa [Bool.or_eq_true]
  unfold State.checkoutCheck
  simp only [may, fresh, found, owner, Bool.not_true, Bool.false_eq_true, if_false]
  cases field <;> rfl

end Checks

variable {s : State} {slot : Nat} {r : Record} {w1 w2 w3 w4 w5 w6 : Word} {h : Handle} {n : Nat} {m : Document}

theorem firstPageCheck_none {d : Document} {first : Nat} (h1 : 1 ≤ first) (h2 : first ≤ d.pages.length) :
    firstPageCheck d first = none := if_neg (by omega)

theorem firstPageCheck_badField {d : Document} {first : Nat} (h : first = 0 ∨ d.pages.length < first) :
    firstPageCheck d first = some .badField := if_pos h

/-- The pages asked for, the count clamped (R132). -/
def Document.pageJob (m : Document) (h : Handle) (p ticket first count : Nat) : Delivery :=
  ⟨h, p, ticket, first, max 1 (min count (m.pages.length - first + 1)), first, 0, 0⟩

/-- FETCH_PAGES by what it names and by its first page (R131 to R133). -/
theorem execFetchPages_of_takes (takes : s.Takes slot 0x59 r) (hw : r.words = [w1, w2, w3, w4, w5, w6]) (hh : h = decodeHandle w1)
    (hm : m = s.document h.index) (right : (s.rights slot).deliver = true ∨ (s.rights slot).administer = true)
    (current : h.generation = m.generation) :
    (m.checkedOut (min w2.toNat 31) w3.toNat = none → exec (.fetchPages slot) s = .next (s.replying slot
      (r.reply ((firstPageCheck m w4.toNat).getD .notCheckedOut) [])))
    ∧ ∀ p e, m.checkedOut (min w2.toNat 31) w3.toNat = some (p, e) → ((s.rights slot).administer = true
        ∨ (s.checkoutOf (min w2.toNat 31) h.index p).any (fun x => decide (x.takingSlot = slot)) = true) →
      exec (.fetchPages slot) s = .next ((firstPageCheck m w4.toNat).elim
        (if s.jobMark h.index p = true then s.replying slot (r.reply .transferActive [])
          else if 32 ≤ s.te.jobs.length then s.replying slot (r.reply .engineFull [])
          else (s.taken slot).queueJob (Job.new (.delivery (m.pageJob h p w3.toNat w4.toNat w5.toNat)) slot r.header.tag w6))
        (fun status => s.replying slot (r.reply status []))) := by
  subst hh hm
  have right' : ((s.taken slot).rights slot).deliver = true ∨ ((s.taken slot).rights slot).administer = true := by
    rwa [State.rights_taken]
  have run : exec (.fetchPages slot) s = _ := congrArg Host.Outcome.next (s.command_of_takes takes _)
  simp only [hw, destOf_eq] at run
  refine ⟨fun none => ?_, fun p e found own => ?_⟩
  · rw [State.checkoutCheck_absent right' current none] at run
    exact run.trans (congrArg Host.Outcome.next (s.taken_fill slot _))
  · have ticket : e.ticket = w3.toNat := (Document.checkedOut_some found).2.2.2.2
    have count := clamp_eq (show 1 ≤ (s.document (decodeHandle w1).index).pages.length - w4.toNat + 1 by omega) w5.toNat
    rw [State.checkoutCheck_found right' current found (by rwa [State.rights_taken])] at run
    refine run.trans (congrArg Host.Outcome.next ?_)
    rw [State.document_taken]
    cases firstPageCheck (s.document (decodeHandle w1).index) w4.toNat with
    | some status => exact s.taken_fill slot _
    | none =>
      simp only [Option.elim_none, State.jobMark_taken, State.taken_te, Config.jobQueue, ticket, count]
      split
      · exact s.taken_fill slot _
      split
      · exact s.taken_fill slot _
      · simp only [State.answerRecord, Delivery.new, Document.pageJob]

end Sys2Proof.Machine

open Sys2Proof.Machine

/-- Settles O49: the common checks, and the job that is queued. -/
theorem fetchPages : Obligations.FetchPages := by
  intro s slot r w1 w2 w3 w4 w5 w6 h m takes hw hh hm right current
  obtain ⟨absent, found⟩ := execFetchPages_of_takes takes hw hh hm right current
  refine ⟨fun p e named own => ?_, fun unnamed => ?_⟩
  · have run := found p e named own
    refine ⟨fun bad => ?_, fun low high marked => ?_, fun low high clear full => ?_, fun low high clear room => ?_⟩
    · rwa [firstPageCheck_badField bad] at run
    · rwa [firstPageCheck_none low high, Option.elim_none, if_pos marked] at run
    · rwa [firstPageCheck_none low high, Option.elim_none, clear, if_neg (by decide), if_pos full] at run
    · rwa [firstPageCheck_none low high, Option.elim_none, clear, if_neg (by decide), if_neg (Nat.not_le.2 room)] at run
  · have run := absent (Document.checkedOut_eq_none unnamed)
    refine ⟨fun low high => ?_, fun bad => ?_⟩
    · rwa [firstPageCheck_none low high] at run
    · rwa [firstPageCheck_badField bad] at run
end

-- ==== Proofs: the end of a checkout ====
section
/-!
SUPPORT. The end of a checkout in two steps, the same for every command that ends one: its entry leaves the checkout list and is
written, joining a queue where it is QUEUED; then its document settles where nothing is outstanding (R70), and its destination closes
where it was DRAINING and has no checkout left (R121). With it what changes leave in a reply queue.
-/

namespace Sys2Proof.Machine

/-! ## Reply queues that changes leave -/

theorem State.Change.replies {s t : State} (h : s.Change t) (n : Nat) :
    ∃ ys, (t.station n).replies = (s.station n).replies ++ ys := by
  have same : ∃ ys, (s.station n).replies = (s.station n).replies ++ ys := ⟨[], (List.append_nil _).symm⟩
  cases h with
  | notified h =>
    cases h with
    | post m x _ => exact (s.upTo_appendReply m x).replies n
    | lost m => exact (s.upTo_setNoticeLost m).replies n
    | fault => exact same
  | flags m framing lost work =>
    rw [State.station_setStation]
    split
    · rename_i here
      exact here ▸ same
    · exact same
  | destination _ _ _ => exact same
  | inner _ _ _ _ _ _ => exact same

/-- Changes that leave the reservations and the requests alone add replies to the tail of a reply queue, and take none. -/
theorem State.Changes.replies {s t : State} (h : s.Changes t) (n : Nat) :
    ∃ ys, (t.station n).replies = (s.station n).replies ++ ys := by
  induction h with
  | refl => exact ⟨[], (List.append_nil _).symm⟩
  | tail _ k ih =>
    obtain ⟨xs, hx⟩ := ih
    obtain ⟨ys, hy⟩ := k.replies n
    exact ⟨xs ++ ys, by rw [hy, hx, List.append_assoc]⟩

theorem State.Got.changes {s t u : State} {m : Nat} {x : Reply} (h : s.Got t m x) (k : t.Changes u) : s.Got u m x := by
  obtain ⟨ys, hy⟩ := h
  obtain ⟨zs, hz⟩ := k.replies m
  exact ⟨ys ++ zs, by rw [hz, hy, List.append_assoc, List.cons_append]⟩

/-- What a slot got reads the same from a state with the same reply queue there. -/
theorem State.Got.of_replies {s s' t : State} {m : Nat} {x : Reply} (h : s.Got t m x)
    (same : (s.station m).replies = (s'.station m).replies) : s'.Got t m x := by
  obtain ⟨ys, hy⟩ := h
  exact ⟨ys, by rw [hy, same]⟩

/-! ## A document that settles and a destination that closes -/

/-- What follows the end of a checkout at destination `n`: document `i` settles where nothing of it is outstanding (R70), and `n` is
CLOSED where it is DRAINING and its checkout list empty (R121). -/
structure State.SettlesAndCloses (s t : State) (i n : Nat) : Prop where
  settled : (s.document i).state = .queued → s.Settles i (s.document i) (t.document i)
  kept : (s.document i).state ≠ .queued → t.document i = s.document i
  documents : SameDocumentsBut s t i
  closed : t.destination n = { s.destination n with
    state := if (s.destination n).state = .draining ∧ (s.destination n).checkouts = [] then .closed
      else (s.destination n).state }
  destinations : SameDestinationsBut s t [n]
  iu : t.iu = s.iu
  te : t.te = s.te
  store : SameStore s t
  waits : (s.document i).outstandingSet ≠ [] → t = s.closeIfDrained n

variable (s : State)

theorem State.settleIfEmpty_of_not_queued {i : Nat} (h : (s.document i).state ≠ .queued) : s.settleIfEmpty i = s :=
  if_neg fun queued => h queued.1

theorem State.settlesAndCloses (i n : Nat) : s.SettlesAndCloses ((s.settleIfEmpty i).closeIfDrained n) i n := by
  have frame := (s.settleIfEmpty i).closeIfDrained_frame n
  have document (j : Nat) : ((s.settleIfEmpty i).closeIfDrained n).document j = (s.settleIfEmpty i).document j := by
    rw [frame]
    rfl
  have destination (x : Nat) : (s.settleIfEmpty i).destination x = s.destination x := by
    rw [State.destination, s.dqu_settleIfEmpty i, State.destination]
  obtain ⟨others, store⟩ := s.settleIfEmpty_frame i
  refine ⟨fun queued => document i ▸ s.settles_settleIfEmpty i queued, fun other => ?_,
    fun j hj => (document j).trans (others j hj), ?_, fun x hx => ?_, ?_, ?_, store.trans ?_, fun waits => ?_⟩
  · rw [document, s.settleIfEmpty_of_not_queued other]
  · rw [State.destination_closeIfDrained_same, destination]
  · rw [State.destination_closeIfDrained_ne _ (by simpa using hx), destination]
  · rw [frame]
    exact (s.traffic_settleIfEmpty i).iu
  · rw [frame]
    exact (s.traffic_settleIfEmpty i).changes.te
  · exact .of_eq (by rw [frame]) (by rw [frame])
  · rw [s.settleIfEmpty_of_outstanding waits]

theorem State.changes_settlesAndCloses (i n : Nat) : s.Changes ((s.settleIfEmpty i).closeIfDrained n) :=
  ((State.traffic_closeIfDrained _ n).after (s.traffic_settleIfEmpty i)).changes

/-- A DRAINING destination without checkouts is CLOSED, and where its bound slot has room, DEST_STATE joins that slot's reply queue
(R115, R121). -/
theorem State.replies_closeIfDrained {n b : Nat} (draining : (s.destination n).state = .draining)
    (empty : (s.destination n).checkouts = []) (bound : (s.destination n).bound = some b) (reset : s.spu.underReset = [])
    (room : s.replyRoom b = true) : ((s.closeIfDrained n).station b).replies = (s.station b).replies ++
      [notice .destState [word n, word 0, word 3, word ((s.destination n).urgent.length + (s.destination n).normal.length),
        word 0]] := by
  have closes : s.closeIfDrained n = s.changeDest n .closed := if_pos ⟨draining, empty⟩
  rw [closes, s.replies_changeDest .closed bound reset room, Destination.stateNote, draining, empty, Destination.queue,
    List.length_append]
  rfl

/-- An entry leaves the checkout list of its destination, and no other list (R125). -/
theorem State.destination_leaveCheckouts (n i p x : Nat) : (s.leaveCheckouts n i p).destination x = { s.destination x with
    checkouts := (s.destination x).checkouts.filter (fun y =>
      decide (¬ (x = n ∧ y.handle.index = i ∧ y.position = p))) } := by
  unfold State.leaveCheckouts
  dsimp only
  rw [State.destination_setDestination]
  by_cases here : x = n
  · subst here
    simp
  · simp [here]

/-! ## The first step -/

/-- From `s` to `t` an entry has been written as `e'`: where it is QUEUED it has joined its destination's queue, and otherwise only
notices have followed. -/
structure State.WritesEntry (s t : State) (i p : Nat) (e' : Entry) : Prop where
  queued : e'.state = .queued → t = (s.setEntry i p e').joinTail e'.destination i p
  settled : e'.state ≠ .queued → UpToNotices (s.setEntry i p e') t

theorem State.station_joinTail (n i p m : Nat) :
    ∃ work, (s.joinTail n i p).station m = { s.station m with work := work } := by
  unfold State.joinTail State.joined
  dsimp only
  split
  · exact ⟨_, State.station_signalWork _ n m⟩
  · exact ⟨(s.station m).work, rfl⟩

/-- From `s` to `t` the checkout of entry `e` has left its list and the entry is `e'`, which stands in its queue where it is QUEUED;
nothing else has changed but what notices bring. -/
structure State.BroughtBack (s t : State) (i p : Nat) (e e' : Entry) : Prop where
  frame : t = { s with spu := t.spu, dqu := t.dqu, dt := { s.dt with documents := t.dt.documents } }
  document : t.document i = (s.document i).setEntry p (some e')
  documents : SameDocumentsBut s t i
  destination : ∀ x joined, joined = (if e'.state = .queued ∧ e'.destination = x then
      [(⟨⟨i, (s.document i).generation⟩, p⟩ : QueueItem)] else []) → t.destination x = { s.destination x with
    checkouts := (s.destination x).checkouts.filter (fun y =>
      decide (¬ (x = e.destination ∧ y.handle.index = i ∧ y.position = p)))
    urgent := (s.destination x).urgent ++ (if (s.document i).priority = .urgent then joined else [])
    normal := (s.destination x).normal ++ (if (s.document i).priority = .normal then joined else []) }
  work : ∀ b, e'.state = .queued → (s.destination e'.destination).accepting = true →
    (s.destination e'.destination).queue = [] → (s.destination e'.destination).bound = some b → (t.station b).work = true
  underReset : t.spu.underReset = s.spu.underReset
  station : e'.state = .queued → ∀ b, ∃ work, t.station b = { s.station b with work := work }

variable {s} in
theorem State.WritesEntry.broughtBack {t : State} {i p : Nat} {e e' : Entry}
    (h : (s.leaveCheckouts e.destination i p).WritesEntry t i p e') : s.BroughtBack t i p e e' := by
  set u := (s.leaveCheckouts e.destination i p).setEntry i p e' with hu
  have written : u.document i = (s.document i).setEntry p (some e') := State.document_setDocument_same _ i _
  have others (j : Nat) (hj : j ≠ i) : u.document j = s.document j := State.document_setDocument_ne _ hj _
  have left (x : Nat) := s.destination_leaveCheckouts e.destination i p x
  by_cases queued : e'.state = .queued
  · obtain rfl := h.queued queued
    obtain ⟨stations, joined⟩ := u.joinTail_eq e'.destination i p
    refine ⟨by rw [joined]; rfl, (u.document_joinTail _ i p i).trans written,
      fun j hj => (u.document_joinTail _ i p j).trans (others j hj), ?_, fun b _ accepts empty bound => ?_, by rw [joined]; rfl,
      fun _ b => u.station_joinTail _ i p b⟩
    · rintro x _ rfl
      have mine : (u.document i).priority = (s.document i).priority ∧ u.handleOf i = ⟨i, (s.document i).generation⟩ := by
        rw [State.handleOf, written]
        exact ⟨rfl, rfl⟩
      have kept (y : Nat) : u.destination y = (s.leaveCheckouts e.destination i p).destination y := rfl
      rw [State.destination_joinTail, mine.1, mine.2, kept, kept]
      by_cases here : x = e'.destination
      · subst here
        rw [if_pos rfl, left, Destination.joinTail_eq]
        simp only [queued, and_self, if_true]
      · rw [if_neg here, left]
        simp [Ne.symm here]
    · have same : u.destination e'.destination = _ := left e'.destination
      refine u.work_joinTail ?_ ?_ ?_
      · rw [same]
        exact empty
      · rw [same]
        exact bound
      · rw [same]
        exact accepts
  · have told := h.settled queued
    refine ⟨by rw [told.rest]; rfl, (told.document i).trans written, fun j hj => (told.document j).trans (others j hj), ?_,
      fun b k => absurd k queued, told.underReset, fun k => absurd k queued⟩
    rintro x _ rfl
    refine (told.destination x).trans ((left x).trans ?_)
    simp [queued]

/-! ## Both steps -/

theorem State.work_closeIfDrained (n b : Nat) : ((s.closeIfDrained n).station b).work = (s.station b).work := by
  by_cases drained : (s.destination n).state = .draining ∧ (s.destination n).checkouts = []
  · obtain ⟨xs, lost, told⟩ := (s.upTo_changeDest n .closed).station b
    rw [show s.closeIfDrained n = s.changeDest n .closed from if_pos drained, told]
    rfl
  · rw [show s.closeIfDrained n = s from if_neg drained]

/-- From `s` to `t` the checkout of entry `e` at position `p` of document `i` has ended, and the entry is `e'`, which has joined the
tail of its class where it is QUEUED; the document has settled and the destination closed where that was due. -/
structure State.CheckoutEnds (s t : State) (i p : Nat) (e e' : Entry) : Prop where
  settled : (s.document i).state = .queued → s.Settles i ((s.document i).setEntry p (some e')) (t.document i)
  kept : (s.document i).state ≠ .queued → t.document i = (s.document i).setEntry p (some e')
  documents : SameDocumentsBut s t i
  destination : ∀ x left joined, left = (s.destination x).checkouts.filter (fun y =>
      decide (¬ (x = e.destination ∧ y.handle.index = i ∧ y.position = p))) →
    joined = (if e'.state = .queued ∧ e'.destination = x then [⟨⟨i, (s.document i).generation⟩, p⟩] else []) →
    t.destination x = { s.destination x with
      checkouts := left
      urgent := (s.destination x).urgent ++ (if (s.document i).priority = .urgent then joined else [])
      normal := (s.destination x).normal ++ (if (s.document i).priority = .normal then joined else [])
      state := if x = e.destination ∧ (s.destination x).state = .draining ∧ left = [] then .closed
        else (s.destination x).state }
  iu : t.iu = s.iu
  te : t.te = s.te
  store : SameStore s t
  bsm : ((s.document i).setEntry p (some e')).outstandingSet ≠ [] → t.bsm = s.bsm

section Ends

variable {s} {t u : State} {i p : Nat} {e e' : Entry}

/-- While something of the document is outstanding, nothing follows but the closing of the destination. -/
theorem State.BroughtBack.waits (h : s.BroughtBack u i p e e') (n : Nat)
    (out : ((s.document i).setEntry p (some e')).outstandingSet ≠ []) :
    (u.settleIfEmpty i).closeIfDrained n = u.closeIfDrained n :=
  (u.settlesAndCloses i n).waits (by rwa [h.document])

theorem State.BroughtBack.ends (h : s.BroughtBack u i p e e') :
    s.CheckoutEnds ((u.settleIfEmpty i).closeIfDrained e.destination) i p e e' := by
  have ends := u.settlesAndCloses i e.destination
  have waits := h.waits e.destination
  generalize (u.settleIfEmpty i).closeIfDrained e.destination = t at ends waits
  have state : (u.document i).state = (s.document i).state := by rw [h.document]; rfl
  have moment (d d' : Document) (k : u.Settles i d d') : s.Settles i d d' := by rwa [h.frame] at k
  refine ⟨fun queued => ?_, fun other => (ends.kept (by rwa [state])).trans h.document,
    fun j hj => (ends.documents j hj).trans (h.documents j hj), ?_, ends.iu.trans (by rw [h.frame]), ends.te.trans (by rw [h.frame]),
    SameStore.trans (.of_eq (by rw [h.frame]) (by rw [h.frame])) ends.store, fun out => ?_⟩
  · have settled := moment _ _ (ends.settled (state.trans queued))
    rwa [h.document] at settled
  · intro x left joined hleft hjoined
    have now := h.destination x joined hjoined
    rw [← hleft] at now
    by_cases here : x = e.destination
    · subst here
      rw [ends.closed, now]
      simp
    · rw [ends.destinations x (by simpa using here), now]
      simp [here]
  · rw [waits out, State.closeIfDrained_frame, h.frame]

/-- A DRAINING destination whose last checkout ends elsewhere than in its own queue is CLOSED, and its bound slot is sent DEST_STATE
where it has room (R115, R121). -/
theorem State.BroughtBack.got_closed (h : s.BroughtBack u i p e e') {n b : Nat} (hn : n = e.destination)
    (elsewhere : ¬ (e'.state = .queued ∧ e'.destination = n))
    (station : ∃ work, u.station b = { s.station b with work := work }) (draining : (s.destination n).state = .draining)
    (empty : (s.destination n).checkouts.filter (fun y => decide (¬ (y.handle.index = i ∧ y.position = p))) = [])
    (bound : (s.destination n).bound = some b) (reset : s.spu.underReset = []) (room : s.replyRoom b = true) :
    s.Got (u.closeIfDrained n) b (notice .destState [word n, word 0, word 3,
      word ((s.destination n).urgent.length + (s.destination n).normal.length), word 0]) := by
  obtain ⟨work, station⟩ := station
  have here := h.destination n [] (if_neg elsewhere).symm
  simp only [hn, true_and, ite_self, List.append_nil] at here
  rw [← hn, empty] at here
  have told := u.replies_closeIfDrained (n := n) (b := b) (by rw [here]; exact draining) (by rw [here])
    (by rw [here]; exact bound) (h.underReset.trans reset) (by rw [State.replyRoom, station]; exact room)
  rw [here, station] at told
  exact ⟨[], told⟩

/-- An end that leaves the entry in no queue touches no destination but its own. -/
theorem State.CheckoutEnds.destination_settled (h : s.CheckoutEnds t i p e e') (settled : e'.state ≠ .queued) {n : Nat}
    (hn : n = e.destination) {left : List Checkout}
    (hleft : left = (s.destination n).checkouts.filter (fun y => decide (¬ (y.handle.index = i ∧ y.position = p)))) :
    t.destination n = { s.destination n with
      checkouts := left
      state := if (s.destination n).state = .draining ∧ left = [] then .closed else (s.destination n).state }
    ∧ SameDestinationsBut s t [n] := by
  have unqueued (x : Nat) : ([] : List QueueItem) = if e'.state = .queued ∧ e'.destination = x then
      [⟨⟨i, (s.document i).generation⟩, p⟩] else [] := by simp [settled]
  subst hn hleft
  refine ⟨?_, fun x hx => ?_⟩
  · rw [h.destination e.destination _ _ rfl (unqueued _)]
    simp
  · have other : x ≠ e.destination := by simpa using hx
    rw [h.destination x _ _ rfl (unqueued _)]
    simp [other]

end Ends

end Sys2Proof.Machine
end

-- ==== Proofs: a checkout confirmed ====
section
/-!
SUPPORT. CONFIRM (R135) as the end of a checkout whose entry is DELIVERED, so that its document can only become DONE.
-/

namespace Sys2Proof.Machine

theorem Document.countIn_ne_zero {d : Document} {p : Nat} {e : Entry} (hp : p ∈ positions) (he : d.entry p = some e) :
    d.countIn e.state ≠ 0 := by
  obtain ⟨low, high⟩ := mem_positions.1 hp
  have listed := Document.mem_entryList he low high
  exact Nat.ne_of_gt (List.length_pos_of_mem (List.mem_filter.2 ⟨listed, decide_eq_true rfl⟩))

theorem State.ends_confirmed (s : State) (i p : Nat) (e : Entry) :
    s.CheckoutEnds (s.confirmed i p e) i p e (e.settledAs .delivered s.tb.uptime) :=
  State.BroughtBack.ends (State.WritesEntry.broughtBack ⟨nofun, fun _ => .refl _⟩)

/-- Where something else of the document is outstanding, a destination that closes sends DEST_STATE first (R115, R121). -/
theorem State.got_confirmed_closed (s : State) {i p n b : Nat} {e : Entry} (hn : n = e.destination)
    (draining : (s.destination n).state = .draining)
    (empty : (s.destination n).checkouts.filter (fun y => decide (¬ (y.handle.index = i ∧ y.position = p))) = [])
    (out : ((s.document i).setEntry p (some (e.settledAs .delivered s.tb.uptime))).outstandingSet ≠ [])
    (bound : (s.destination n).bound = some b) (reset : s.spu.underReset = []) (room : s.replyRoom b = true) :
    s.Got (s.confirmed i p e) b (notice .destState [word n, word 0, word 3,
      word ((s.destination n).urgent.length + (s.destination n).normal.length), word 0]) := by
  subst hn
  have written : (s.leaveCheckouts e.destination i p).WritesEntry ((s.leaveCheckouts e.destination i p).settleEntry i p e .delivered)
      i p (e.settledAs .delivered s.tb.uptime) := ⟨nofun, fun _ => .refl _⟩
  rw [State.confirmed, written.broughtBack.waits _ out]
  exact written.broughtBack.got_closed rfl nofun ⟨_, rfl⟩ draining empty bound reset room

variable {s} {slot : Nat} {r : Record} {w1 w2 w3 : Word} {h : Handle} {n : Nat} {m : Document}

/-- CONFIRM by what it names (R131, R135). -/
theorem execConfirm_of_takes (takes : s.Takes slot 0x5A r) (hw : r.words = [w1, w2, w3]) (hh : h = decodeHandle w1)
    (hn : n = min w2.toNat 31) (right : (s.rights slot).deliver = true ∨ (s.rights slot).administer = true)
    (hm : m = s.document h.index) (current : h.generation = m.generation) :
    (m.checkedOut n w3.toNat = none → exec (.confirm slot) s = .next (s.replying slot (r.reply .notCheckedOut [])))
    ∧ ∀ p e, m.checkedOut n w3.toNat = some (p, e) → ((s.rights slot).administer = true
        ∨ (s.checkoutOf n h.index p).any (fun x => decide (x.takingSlot = slot)) = true) → ∀ t,
      t = (s.taken slot).confirmed h.index p e → exec (.confirm slot) s = .next (
        if s.jobMark h.index p = true then s.replying slot (r.reply .transferActive [])
        else t.fillReservation slot (r.reply .ok [word 4, word (t.document h.index).state.code,
          word (t.document h.index).outstandingSet.length, word (t.destination n).state.code])) := by
  subst hh hm hn
  have right' : ((s.taken slot).rights slot).deliver = true ∨ ((s.taken slot).rights slot).administer = true := by
    rwa [State.rights_taken]
  have run : exec (.confirm slot) s = _ := congrArg Host.Outcome.next (s.command_of_takes takes _)
  simp only [hw, destOf_eq] at run
  refine ⟨fun none => ?_, fun p e found own t ht => ?_⟩
  · rw [State.checkoutCheck_absent right' current none] at run
    exact run.trans (congrArg Host.Outcome.next (s.taken_fill slot _))
  · have dest : e.destination = min w2.toNat 31 := (Document.checkedOut_some found).2.2.1
    rw [State.checkoutCheck_found right' current found (by rwa [State.rights_taken]), ← ht, dest] at run
    refine run.trans (congrArg Host.Outcome.next ?_)
    rw [Option.elim_none, State.jobMark_taken]
    split
    · exact s.taken_fill slot _
    · rfl

end Sys2Proof.Machine

open Sys2Proof.Machine

/-- Settles O50: the common checks, and the end of the checkout by the entry it leaves. -/
theorem confirm : Obligations.Confirm := by
  intro s slot r w1 w2 w3 h n p e m m' left takes hw hh hn right hm current hm' hleft
  obtain ⟨absent, found⟩ := execConfirm_of_takes takes hw hh hn right hm current
  refine ⟨absent, fun named marked own => ?_, fun ⟨_, _, named, own, clear⟩ => ?_⟩
  · exact (found p e named own _ rfl).trans (congrArg Host.Outcome.next (if_pos marked))
  · subst hm
    have run := found p e named own _ rfl
    rw [clear, if_neg (by decide)] at run
    obtain ⟨listed, -, dest, -, -⟩ := Document.checkedOut_some named
    have ends := (s.taken slot).ends_confirmed h.index p e
    have closed (b : Nat) := (s.taken slot).got_confirmed_closed (i := h.index) (p := p) (b := b) (e := e) dest.symm
    have steady (x : Reply) := ((s.calm_taken slot).steady.trans ((s.taken slot).calm_confirmed h.index p e).steady).trans
      (State.steady_fillReservation _ slot x)
    generalize (s.taken slot).confirmed h.index p e = t at run ends closed steady
    obtain ⟨destination, destinations⟩ := ends.destination_settled nofun dest.symm hleft
    have delivered : m'.countIn .delivered ≠ 0 := by
      rw [hm']
      exact Document.countIn_ne_zero listed (Document.entry_setEntry_same _ _ _)
    have settles (queued : (s.document h.index).state = .queued) : s.Settles h.index m' (t.document h.index) := by
      rw [hm']
      exact ends.settled queued
    have kept (other : (s.document h.index).state ≠ .queued) : t.document h.index = m' := (ends.kept other).trans hm'.symm
    have same : m'.retentionClass = (s.document h.index).retentionClass ∧ m'.legalHold = (s.document h.index).legalHold := by
      rw [hm']
      exact ⟨rfl, rfl⟩
    refine ⟨_, run, destination, destinations, ends.documents, ends.iu, ends.te, (steady _).config,
      ⟨ends.store.bytes, ends.store.links⟩, fun stays => ?_, fun queued empty kept => ?_, fun queued empty brief clear idle => ?_,
      State.getLast_fill slot _ _, fun b draining empty out bound reset room => ?_⟩
    · by_cases queued : (s.document h.index).state = .queued
      · exact (settles queued).1 (stays.resolve_left fun k => k queued)
      · exact kept queued
    · obtain ⟨done, -⟩ := (settles queued).2.2 empty delivered
      rw [← same.1, ← same.2] at kept
      rw [← same.1]
      exact done kept
    · obtain ⟨-, freed⟩ := (settles queued).2.2 empty delivered
      rw [← same.1] at brief
      rw [← same.2] at clear
      exact congrArg Document.state (freed brief clear idle)
    · have told := closed b draining (hleft.symm.trans empty) (hm' ▸ out) bound reset room
      exact (told.fillReservation slot _).of_replies (s.replies_taken slot b)
end

-- ==== Proofs: a checkout that comes back ====
section
/-!
SUPPORT. The end of a checkout by RETURN or by hold expiry (R136): which way it comes back, what that makes of its entry, and the
notices that go out.
-/

namespace Sys2Proof.Machine

/-! ## What becomes of the entry -/

/-- The entry of a checkout that comes back in one of the ways R136 names. -/
def Entry.cameBack (e : Entry) (now : Nat) : CameBack → Entry
  | .requeued => e.requeued
  | .moved (.toFallback f) => e.substituted f
  | .moved .withdrawn => e.settledAs .withdrawn now
  | .undeliverable => e.settledAs .undeliverable now

theorem Entry.state_cameBack (e : Entry) (now : Nat) (c : CameBack) : (e.cameBack now c).state = c.entryState := by
  unfold Entry.cameBack
  split <;> rfl

theorem Entry.destination_cameBack (e : Entry) (now : Nat) (c : CameBack) : (e.cameBack now c).destination = c.destination e := by
  unfold Entry.cameBack
  split <;> rfl

variable (s : State)

/-! ## Which way it comes back -/

theorem State.comeBackCase_undeliverable {i : Nat} {e : Entry} (h : (s.destination e.destination).attemptLimit ≤ e.attempts) :
    s.comeBackCase i e = .undeliverable := if_pos h

theorem State.comeBackCase_requeued {i : Nat} {e : Entry} (h : e.attempts < (s.destination e.destination).attemptLimit)
    (accepts : (s.destination e.destination).accepting = true) : s.comeBackCase i e = .requeued :=
  (if_neg (Nat.not_le.2 h)).trans (if_pos accepts)

theorem State.comeBackCase_moved {i : Nat} {e : Entry} (h : e.attempts < (s.destination e.destination).attemptLimit)
    (refuses : (s.destination e.destination).accepting = false) : s.comeBackCase i e = .moved (s.moveCase i) :=
  (if_neg (Nat.not_le.2 h)).trans (if_neg (Bool.eq_false_iff.1 refuses))

/-- The fallback to which an entry is moved is OPEN or PAUSED (R113). -/
theorem State.moveCase_accepting {i f : Nat} (h : s.moveCase i = .toFallback f) : (s.destination f).accepting = true := by
  unfold State.moveCase at h
  split at h
  · cases h
  · rename_i g usable
    split at h
    · cases h
    · cases h
      exact (State.usableFallback_accepting usable).2

/-- A checkout that comes back QUEUED stands at an OPEN or PAUSED destination. -/
theorem State.accepting_cameBack {i : Nat} {e : Entry} (now : Nat)
    (h : (e.cameBack now (s.comeBackCase i e)).state = .queued) :
    (s.destination (e.cameBack now (s.comeBackCase i e)).destination).accepting = true := by
  by_cases limit : (s.destination e.destination).attemptLimit ≤ e.attempts
  · rw [s.comeBackCase_undeliverable limit] at h
    cases h
  · have below := Nat.not_le.1 limit
    cases accepts : (s.destination e.destination).accepting with
    | true => rwa [s.comeBackCase_requeued below accepts]
    | false =>
      rw [s.comeBackCase_moved below accepts] at h ⊢
      cases moves : s.moveCase i with
      | toFallback f => exact s.moveCase_accepting moves
      | withdrawn =>
        rw [moves] at h
        cases h

/-! ## The first step -/

/-- The checkout of entry `e` is brought back, before what follows its end (R136). -/
def State.bringBack (s : State) (i p : Nat) (e : Entry) (reason : Nat) : State :=
  match s.comeBackCase i e with
  | .undeliverable => (s.leaveCheckouts e.destination i p).makeUndeliverable i p e reason
  | .requeued => ((s.leaveCheckouts e.destination i p).setEntry i p e.requeued).joinTail e.destination i p
  | .moved _ => (s.leaveCheckouts e.destination i p).moveEntry i p e

theorem State.comeBack_eq (i p : Nat) (e : Entry) (reason : Nat) : s.comeBack i p e reason =
    ((s.bringBack i p e reason).settleIfEmpty i).closeIfDrained e.destination := rfl

/-- A checkout that leaves its list does not touch where an entry can go. -/
theorem State.moveCase_leaveCheckouts (n i p j : Nat) : (s.leaveCheckouts n i p).moveCase j = s.moveCase j := by
  have accepts (f : Nat) : ((s.leaveCheckouts n i p).destination f).accepting = (s.destination f).accepting := by
    rw [State.destination_leaveCheckouts]
    rfl
  have usable : (s.leaveCheckouts n i p).usableFallback = s.usableFallback := by
    unfold State.usableFallback
    simp only [accepts]
    rfl
  unfold State.moveCase
  rw [usable]
  rfl

theorem State.writesEntry_bringBack (i p : Nat) (e : Entry) (reason : Nat) : (s.leaveCheckouts e.destination i p).WritesEntry
    (s.bringBack i p e reason) i p (e.cameBack s.tb.uptime (s.comeBackCase i e)) := by
  have moves := s.moveCase_leaveCheckouts e.destination i p i
  unfold State.bringBack
  by_cases limit : (s.destination e.destination).attemptLimit ≤ e.attempts
  · rw [s.comeBackCase_undeliverable limit]
    exact ⟨nofun, fun _ => State.upTo_send _ _ _ _⟩
  · have below := Nat.not_le.1 limit
    cases accepts : (s.destination e.destination).accepting with
    | true =>
      rw [s.comeBackCase_requeued below accepts]
      exact ⟨fun _ => rfl, fun h => absurd rfl h⟩
    | false =>
      rw [s.comeBackCase_moved below accepts]
      cases case : s.moveCase i with
      | toFallback f => exact ⟨fun _ => State.moveEntry_toFallback _ (moves.trans case), fun h => absurd rfl h⟩
      | withdrawn =>
        refine ⟨nofun, fun _ => ?_⟩
        dsimp only
        rw [State.moveEntry_withdrawn _ (moves.trans case)]
        exact .refl _

/-! ## The second step -/

theorem State.moveCase_eq_toFallback {i f : Nat} (usable : s.usableFallback = some f)
    (new : ∀ y ∈ (s.document i).entryList, y.2.destination ≠ f) : s.moveCase i = .toFallback f :=
  let ⟨fallback, accepts⟩ := State.usableFallback_accepting usable
  s.moveCase_toFallback fallback accepts new

theorem State.moveCase_eq_withdrawn {i : Nat} (h : s.usableFallback = none
    ∨ ∃ f, s.usableFallback = some f ∧ ∃ y ∈ (s.document i).entryList, y.2.destination = f) : s.moveCase i = .withdrawn :=
  s.moveCase_withdrawn fun f fallback accepts => by
    have usable := s.usableFallback_eq_some fallback accepts
    rcases h with none | ⟨g, some, listed⟩
    · simp [usable] at none
    · obtain rfl := Option.some.inj (some.symm.trans usable)
      exact listed

/-- What an end of a checkout of entry `e`, now `e'`, leaves of the part (R136). -/
structure State.Returned (s t : State) (i p : Nat) (e e' : Entry) : Prop where
  back : s.ComesBack t i p e e'
  documents : SameDocumentsBut s t i
  iu : t.iu = s.iu
  te : t.te = s.te
  config : SameConfig s t
  store : SameStore s t
  bsm : ((s.document i).setEntry p (some e')).outstandingSet ≠ [] → t.bsm = s.bsm

theorem State.returned_comeBack {i p : Nat} {e e' : Entry} (reason : Nat) (listed : p ∈ positions)
    (he : e' = e.cameBack s.tb.uptime (s.comeBackCase i e)) : s.Returned (s.comeBack i p e reason) i p e e' := by
  have brought := (s.writesEntry_bringBack i p e reason).broughtBack
  rw [← he] at brought
  have ends := brought.ends
  have accepts (queued : e'.state = .queued) : (s.destination e'.destination).accepting = true := by
    subst he
    exact s.accepting_cameBack _ queued
  refine ⟨⟨fun limit => ?_, fun below accepts => ?_, fun below refuses f usable new => ?_, fun below refuses stays => ?_,
    ends.settled, ends.kept, ends.destination, fun b queued empty bound => ?_⟩,
    ends.documents, ends.iu, ends.te, (s.steady_comeBack i p e reason).config, ends.store, ends.bsm⟩
  · rw [he, s.comeBackCase_undeliverable limit]
    rfl
  · rw [he, s.comeBackCase_requeued below accepts]
    rfl
  · rw [he, s.comeBackCase_moved below refuses, s.moveCase_eq_toFallback usable new]
    rfl
  · rw [he, s.comeBackCase_moved below refuses, s.moveCase_eq_withdrawn stays]
    rfl
  · rw [s.comeBack_eq, brought.waits _ (Document.outstandingSet_ne_nil (Document.entry_setEntry_same _ p _) listed
      (by simp [Entry.outstanding, queued])), State.work_closeIfDrained]
    exact brought.work b queued (accepts queued) empty bound

/-! ## Notices of the end of a checkout -/

/-- The notice of an entry that has come to its attempt limit (R138). -/
def State.undeliverableNote (s : State) (i p : Nat) (e : Entry) (reason : Nat) : Reply :=
  notice .undeliverable [word (i + 65536 * (s.document i).generation), word e.destination, word p, word e.attempts, word reason,
    optWord e.original]

/-- At the attempt limit each ADMINISTER slot with room is sent UNDELIVERABLE (R138). -/
theorem State.got_makeUndeliverable {i p a : Nat} {e : Entry} (reason : Nat) (reset : s.spu.underReset = []) (ha : a < 16)
    (right : (s.rights a).administer = true) (room : s.replyRoom a = true) :
    s.Got (s.makeUndeliverable i p e reason) a (s.undeliverableNote i p e reason) := by
  have named : a ∈ (s.settleEntry i p e .undeliverable).administrators := by
    refine List.mem_filter.2 ⟨List.mem_range.2 ha, right⟩
  have got := (s.settleEntry i p e .undeliverable).got_send .undeliverable
    [(s.handleOf i).word, word e.destination, word p, word e.attempts, word reason, optWord e.original] reset room named
  exact got

theorem State.got_comeBack_undeliverable {i p a : Nat} {e : Entry} (reason : Nat)
    (limit : (s.destination e.destination).attemptLimit ≤ e.attempts) (reset : s.spu.underReset = []) (ha : a < 16)
    (right : (s.rights a).administer = true) (room : s.replyRoom a = true) :
    s.Got (s.comeBack i p e reason) a (s.undeliverableNote i p e reason) := by
  have first : s.bringBack i p e reason = (s.leaveCheckouts e.destination i p).makeUndeliverable i p e reason := by
    unfold State.bringBack
    rw [s.comeBackCase_undeliverable limit]
  rw [s.comeBack_eq, first]
  exact State.Got.changes ((s.leaveCheckouts e.destination i p).got_makeUndeliverable reason reset ha right room)
    (State.changes_settlesAndCloses _ i e.destination)

/-- Where the entry is QUEUED again, the destination's closing is all that follows. -/
theorem State.comeBack_queued {i p : Nat} {e : Entry} (reason : Nat) (listed : p ∈ positions)
    (queued : (e.cameBack s.tb.uptime (s.comeBackCase i e)).state = .queued) :
    s.comeBack i p e reason = (s.bringBack i p e reason).closeIfDrained e.destination := by
  exact (s.writesEntry_bringBack i p e reason).broughtBack.waits _
    (Document.outstandingSet_ne_nil (Document.entry_setEntry_same _ p _) listed (by simp [Entry.outstanding, queued]))

end Sys2Proof.Machine
end

-- ==== Proofs: RETURN, and the expiry of a hold ====
section
/-!
SUPPORT. The end of a checkout seen from the state before its record was taken, or before its expiry was announced: taking a record
and sending notices touch nothing that decides what comes back. Then RETURN (R137) and HOLD_EXPIRY (R139).
-/

namespace Sys2Proof.Machine

variable {s t u : State} {i p : Nat} {e e' : Entry}

/-! ## Seen from other slots -/

/-- The station slots do not decide what an end of a checkout leaves. -/
theorem State.Returned.of_spu (h : u.Returned t i p e e') (eq : u = { s with spu := u.spu }) (config : SameConfig s u) :
    s.Returned t i p e e' := by
  have before := h.config
  have all : SameConfig s t := ⟨before.settings.trans config.settings, fun n => (before.station n).trans (config.station n),
    fun n => (before.destination n).trans (config.destination n)⟩
  clear before config
  generalize u.spu = spu at eq
  subst eq
  obtain ⟨back, documents, iu, te, -, store, bsm⟩ := h
  exact ⟨⟨back.undeliverable, back.requeued, back.moved, back.withdrawn, back.settled, back.kept, back.destination, back.work⟩,
    documents, iu, te, all, ⟨store.bytes, store.links⟩, bsm⟩

/-- A record answered after the end of a checkout. -/
theorem State.Returned.fillReservation (h : s.Returned t i p e e') (slot : Nat) (x : Reply) :
    s.Returned (t.fillReservation slot x) i p e e' := by
  obtain ⟨back, documents, iu, te, config, store, bsm⟩ := h
  have answered := (t.steady_fillReservation slot x).config
  refine ⟨⟨back.undeliverable, back.requeued, back.moved, back.withdrawn, back.settled, back.kept, back.destination,
    fun b queued empty bound => ?_⟩, documents, iu, te, ⟨answered.settings.trans config.settings,
      fun n => (answered.station n).trans (config.station n), fun n => (answered.destination n).trans (config.destination n)⟩,
    ⟨store.bytes, store.links⟩, bsm⟩
  rw [State.work_fillReservation]
  exact back.work b queued empty bound

theorem UpToNotices.comeBackCase (h : UpToNotices s t) (i : Nat) (e : Entry) : t.comeBackCase i e = s.comeBackCase i e := by
  rw [h.rest]
  rfl

@[simp] theorem State.comeBackCase_taken (slot : Nat) : (s.taken slot).comeBackCase i e = s.comeBackCase i e := rfl

/-! ## The queue it joined, and the destination that closes -/

/-- The queue that a checkout joins is longer by one (R112). -/
theorem State.ComesBack.queue_length (h : s.ComesBack t i p e e') (queued : e'.state = .queued) :
    (t.destination e'.destination).queue.length
      = (s.destination e'.destination).urgent.length + (s.destination e'.destination).normal.length + 1 := by
  rw [h.destination e'.destination _ _ rfl rfl]
  simp only [Destination.queue, queued, and_self, if_true, List.length_append]
  cases (s.document i).priority <;> simp <;> omega

theorem State.joinedCount_eq (t : State) (c : CameBack) (e : Entry) : t.joinedCount c e =
    if c.entryState = .queued then word (t.destination (c.destination e)).queue.length else 0xFFFFFFFF := by
  unfold State.joinedCount
  cases c.entryState <;> rfl

/-- A DRAINING destination whose last checkout moves to the fallback is CLOSED, and its bound slot is sent DEST_STATE first where it
has room (R115, R121). -/
theorem State.got_comeBack_closed {n b : Nat} (reason : Nat) (hn : n = e.destination) (listed : p ∈ positions)
    (draining : (s.destination n).state = .draining)
    (queued : (e.cameBack s.tb.uptime (s.comeBackCase i e)).state = .queued)
    (empty : (s.destination n).checkouts.filter (fun y => decide (¬ (y.handle.index = i ∧ y.position = p))) = [])
    (bound : (s.destination n).bound = some b) (reset : s.spu.underReset = []) (room : s.replyRoom b = true) :
    s.Got (s.comeBack i p e reason) b (notice .destState [word n, word 0, word 3,
      word ((s.destination n).urgent.length + (s.destination n).normal.length), word 0]) := by
  have brought := (s.writesEntry_bringBack i p e reason).broughtBack
  have accepts := s.accepting_cameBack s.tb.uptime queued
  rw [s.comeBack_queued reason listed queued, ← hn]
  refine brought.got_closed hn (fun here => ?_) (brought.station queued b) draining empty bound reset room
  rw [here.2, Destination.accepting, draining] at accepts
  cases accepts

/-- Where the entry is QUEUED again at its own destination, nothing is sent. -/
theorem State.replies_comeBack_requeued (s : State) {i p : Nat} {e : Entry} (reason : Nat) (listed : p ∈ positions)
    (below : e.attempts < (s.destination e.destination).attemptLimit)
    (accepts : (s.destination e.destination).accepting = true) (b : Nat) :
    ((s.comeBack i p e reason).station b).replies = (s.station b).replies := by
  have requeued := s.comeBackCase_requeued (i := i) below accepts
  have queued : (e.cameBack s.tb.uptime (s.comeBackCase i e)).state = .queued := by rw [requeued]; rfl
  have brought := (s.writesEntry_bringBack i p e reason).broughtBack
  rw [s.comeBack_queued reason listed queued]
  generalize s.bringBack i p e reason = u at brought
  obtain ⟨work, station⟩ := brought.station queued b
  have stays : ¬ ((u.destination e.destination).state = .draining ∧ (u.destination e.destination).checkouts = []) := by
    rw [brought.destination e.destination _ rfl]
    rintro ⟨draining, -⟩
    replace draining : (s.destination e.destination).state = .draining := draining
    simp [Destination.accepting, draining] at accepts
  rw [show u.closeIfDrained e.destination = u from if_neg stays, station]

/-! ## RETURN -/

variable {slot : Nat} {r : Record} {w1 w2 w3 w4 : Word} {h : Handle} {n : Nat} {m : Document}

/-- RETURN by what it names (R131, R137). -/
theorem execReturn_of_takes (takes : s.Takes slot 0x5B r) (hw : r.words = [w1, w2, w3, w4]) (hh : h = decodeHandle w1)
    (hn : n = min w2.toNat 31) (right : (s.rights slot).deliver = true ∨ (s.rights slot).administer = true)
    (hm : m = s.document h.index) (current : h.generation = m.generation) :
    (m.checkedOut n w3.toNat = none → exec (.returnCheckout slot) s = .next (s.replying slot (r.reply .notCheckedOut [])))
    ∧ ∀ p e, m.checkedOut n w3.toNat = some (p, e) → ((s.rights slot).administer = true
        ∨ (s.checkoutOf n h.index p).any (fun x => decide (x.takingSlot = slot)) = true) → ∀ c t,
      c = s.comeBackCase h.index e → t = (s.taken slot).comeBack h.index p e (returnReason w4) →
      exec (.returnCheckout slot) s = .next (
        if s.jobMark h.index p = true then s.replying slot (r.reply .transferActive [])
        else t.fillReservation slot (r.reply .ok [word c.entryState.code, word (c.destination e), word e.attempts,
          word (t.document h.index).state.code, t.joinedCount c e])) := by
  subst hh hm hn
  have right' : ((s.taken slot).rights slot).deliver = true ∨ ((s.taken slot).rights slot).administer = true := by
    rwa [State.rights_taken]
  have run : exec (.returnCheckout slot) s = _ := congrArg Host.Outcome.next (s.command_of_takes takes _)
  simp only [hw, destOf_eq] at run
  refine ⟨fun none => ?_, fun p e found own c t hc ht => ?_⟩
  · rw [State.checkoutCheck_absent right' current none] at run
    exact run.trans (congrArg Host.Outcome.next (s.taken_fill slot _))
  · rw [State.checkoutCheck_found right' current found (by rwa [State.rights_taken]), ← ht, State.comeBackCase_taken, ← hc] at run
    refine run.trans (congrArg Host.Outcome.next ?_)
    rw [Option.elim_none, State.jobMark_taken]
    split
    · exact s.taken_fill slot _
    · rfl

theorem returnReason_eq (w : Word) : returnReason w = if w = 1 then 1 else 0 := by
  unfold returnReason
  simp only [toNat_eq_one_iff]

/-! ## The expiry of a hold -/

theorem exec_holdExpiry (he : (s.document i).entry p = some e) : exec (.holdExpiry i p) s = .next
    (if s.holdExpired i p e = true then (s.sendExpired i p e).comeBack i p e 2 else s) := by
  show execHoldExpiry i p s = _
  rw [execHoldExpiry, he]

theorem State.upTo_sendExpired (s : State) (i p : Nat) (e : Entry) : UpToNotices s (s.sendExpired i p e) := by
  unfold State.sendExpired
  split
  · exact .refl s
  · exact s.upTo_send _ _ _

theorem State.replies_appendReply (s : State) (n : Nat) (x : Reply) :
    ((s.appendReply n x).station n).replies = (s.station n).replies ++ [x] := by
  rw [State.appendReply, State.station_setStation_same]

/-- The notice of an expiry, sent where its taking slot has room (R139). -/
theorem State.sendExpired_eq {x : Checkout} {c : CameBack} (hx : s.checkoutOf e.destination i p = some x)
    (hc : c = s.comeBackCase i e) (room : s.replyRoom x.takingSlot = true) (reset : s.spu.underReset = []) :
    s.sendExpired i p e = s.appendReply x.takingSlot (notice .checkoutExpired
      [x.handle.word, word e.destination, word x.ticket, word c.outcome, word (c.destination e)]) := by
  unfold State.sendExpired
  rw [hx, hc]
  exact s.send_one _ _ room (by simp [reset])

/-- The outcome a CHECKOUT_EXPIRED notice gives, by the entry after (R139). -/
theorem State.outcome_comeBackCase (s : State) (i : Nat) (e : Entry) {e' : Entry} (now : Nat)
    (h : e' = e.cameBack now (s.comeBackCase i e)) : (s.comeBackCase i e).outcome =
      if e'.state = .undeliverable then 3 else if e'.state = .withdrawn then 2
      else if e'.destination = e.destination then 0 else 1 := by
  subst h
  by_cases limit : (s.destination e.destination).attemptLimit ≤ e.attempts
  · rw [s.comeBackCase_undeliverable limit]
    rfl
  · have below := Nat.not_le.1 limit
    cases accepts : (s.destination e.destination).accepting with
    | true =>
      rw [s.comeBackCase_requeued below accepts]
      exact (if_pos rfl).symm
    | false =>
      rw [s.comeBackCase_moved below accepts]
      cases moves : s.moveCase i with
      | withdrawn => rfl
      | toFallback f =>
        have usable := s.moveCase_accepting moves
        have elsewhere : f ≠ e.destination := fun same => by simp [← same, usable] at accepts
        exact (if_neg elsewhere).symm

theorem State.holdExpired_iff (s : State) (i p : Nat) (e : Entry) : s.holdExpired i p e = true ↔ s.part = .ready
    ∧ e.state = .checkedOut ∧ (∃ t, e.deadline = some t ∧ t ≤ s.tb.uptime) ∧ s.jobMark i p = false := by
  have due : e.deadline.any (fun t => decide (t ≤ s.tb.uptime)) = true ↔ ∃ t, e.deadline = some t ∧ t ≤ s.tb.uptime := by
    cases e.deadline <;> simp
  simp [State.holdExpired, due, and_assoc]

end Sys2Proof.Machine

open Sys2Proof.Machine

/-- Settles O51: the common checks; what the end of the checkout leaves, its notices, and the reply by the entry after. -/
theorem returnCheckout : Obligations.Return := by
  intro s slot r w1 w2 w3 w4 h n m d takes hw hh hn right hm current hd
  obtain ⟨absent, found⟩ := execReturn_of_takes takes hw hh hn right hm current
  refine ⟨absent, fun p e named own => ⟨fun marked => ?_, fun clear => ?_⟩⟩
  · exact (found p e named own _ _ rfl rfl).trans (congrArg Host.Outcome.next (if_pos marked))
  · have run := found p e named own _ _ rfl rfl
    rw [clear, if_neg (by decide), returnReason_eq] at run
    obtain ⟨listed, -, dest, -, -⟩ := Document.checkedOut_some named
    subst hm hd
    generalize hc : s.comeBackCase h.index e = c at run
    generalize hr : (if w4 = 1 then 1 else 0) = reason at run ⊢
    generalize ht : (s.taken slot).comeBack h.index p e reason = t at run
    have returned : s.Returned t h.index p e (e.cameBack s.tb.uptime c) := ht ▸
      ((s.taken slot).returned_comeBack reason listed (by rw [State.comeBackCase_taken, hc]; rfl)).of_spu rfl
        (s.steady_taken slot).config
    have answered := returned.fillReservation slot (r.reply .ok [word c.entryState.code, word (c.destination e),
      word e.attempts, word (t.document h.index).state.code, t.joinedCount c e])
    refine ⟨_, e.cameBack s.tb.uptime c, run, answered.back, answered.documents, answered.iu, answered.te, answered.config,
      answered.store, answered.bsm, fun limit reset a ha admin room => ?_, fun draining queued empty b bound reset room => ?_, ?_⟩
    · have got := (s.taken slot).got_comeBack_undeliverable (i := h.index) (p := p) (e := e) reason
        (by rw [dest]; exact limit) reset ha (by rwa [State.rights_taken]) room
      rw [ht, State.undeliverableNote, dest] at got
      exact (got.fillReservation slot _).of_replies (s.replies_taken slot a)
    · have got := State.got_comeBack_closed (s := s.taken slot) reason dest.symm listed draining
        (by rw [State.comeBackCase_taken, hc]; exact queued) empty bound reset room
      rw [ht] at got
      exact (got.fillReservation slot _).of_replies (s.replies_taken slot b)
    · rw [State.LastReply, State.getLast_fill, State.joinedCount_eq]
      have length := returned.back.queue_length
      rw [Entry.state_cameBack, Entry.destination_cameBack] at length
      rw [Entry.state_cameBack, Entry.destination_cameBack]
      split
      · rename_i queued
        rw [length queued]
        rfl
      · rfl

/-- Settles O52: the announcement, and the end of the checkout behind it; otherwise the condition of the expiry fails. -/
theorem holdExpiry : Obligations.HoldExpiry := by
  refine ⟨fun s i p deadline e m d ready hm low high he out due passed clear hd => ?_, fun s i p unmet => ?_⟩
  · subst hm hd
    have listed : p ∈ positions := mem_positions.2 ⟨low, high⟩
    have expired : s.holdExpired i p e = true := (s.holdExpired_iff i p e).2 ⟨ready, out, ⟨deadline, due, passed⟩, clear⟩
    have run := exec_holdExpiry he
    rw [if_pos expired] at run
    have told := s.upTo_sendExpired i p e
    set v := s.sendExpired i p e with hv
    have ends : v.Returned (v.comeBack i p e 2) i p e _ := v.returned_comeBack 2 listed rfl
    rw [told.comeBackCase, told.tb] at ends
    have returned := ends.of_spu told.rest (s.calm_sendExpired i p e).steady.config
    generalize he' : e.cameBack s.tb.uptime (s.comeBackCase i e) = e' at returned
    have later := (v.traffic_comeBack i p e 2).changes
    refine ⟨_, e', run, returned.back, returned.documents, returned.iu, returned.te, returned.config, returned.store,
      returned.bsm, fun x hx room reset => ?_⟩
    have note := s.outcome_comeBackCase i e s.tb.uptime he'.symm
    have sent := State.sendExpired_eq hx rfl room reset
    rw [note, ← Entry.destination_cameBack e s.tb.uptime, he'] at sent
    rw [← hv] at sent
    have announced := (congrArg (fun u : State => (u.station x.takingSlot).replies) sent).trans (s.replies_appendReply _ _)
    refine ⟨?_, fun limit a ha other admin room => ?_⟩
    · obtain ⟨ys, more⟩ := later.replies x.takingSlot
      refine ⟨ys, by rw [more, announced, List.append_assoc]; rfl, fun below accepts => ?_⟩
      have kept := v.replies_comeBack_requeued (i := i) (p := p) (e := e) 2 listed (by rwa [told.destination])
        (by rwa [told.destination]) x.takingSlot
      exact List.append_right_eq_self.1 (more.symm.trans kept)
    · have station : v.station a = s.station a := by
        rw [sent, State.appendReply, State.station_setStation_ne _ other]
      have got := v.got_comeBack_undeliverable (i := i) (p := p) (e := e) (a := a) 2 (by rwa [told.destination])
        (told.underReset.trans reset) ha (by rwa [told.rights]) (by rwa [State.replyRoom, station])
      rw [State.undeliverableNote, told.document] at got
      exact got.of_replies (congrArg Station.replies station)
  · cases he : (s.document i).entry p with
    | none =>
      show execHoldExpiry i p s = _
      rw [execHoldExpiry, he]
    | some e =>
      rw [exec_holdExpiry he, if_neg]
      rw [s.holdExpired_iff]
      rintro ⟨ready, out, ⟨t, due, passed⟩, clear⟩
      rcases unmet with h | h | h
      · exact h ready
      · simp [clear] at h
      · exact absurd (h e t he out due) (Nat.not_lt.2 passed)
end

-- ==== Proofs: a job of an entry that is no delivery position ====
section
/-!
SUPPORT. WITHDRAW of a document with a checkout at a position outside 1 to 8 (R67), as no sound part has. Its last outstanding
delivery withdrawn, the document settles; but the jobs that end with the cancelled ones may be of the checkout off the list, whose
deadline is set anew (R134), and so the document is not that of its own entry withdrawn.
-/

namespace Sys2Proof.Machine

/-- A QUEUED document with a checkout at position 1, for destination 1, and one at position 9, for destination 2. -/
def offListCheckout : Document := { Document.free with
  state := .queued
  entries := ⟨[(1, some ⟨1, none, .checkedOut, 1, 1, none, none⟩), (9, some ⟨2, none, .checkedOut, 1, 1, none, none⟩)]⟩ }

/-- A job of slot 0, already cancelled, for the checkout at position 9. -/
def offListJob : Job := { Job.new (.delivery ⟨⟨0, 0⟩, 9, 1, 1, 1, 1, 0, 0⟩) 0 0 0 with cancelled := true, suppressed := true }

/-- A READY part in which slot 0, holding ADMINISTER, withdraws the delivery of that document to destination 1. -/
def offListWithdrawal : State := { State.reset with
  part := .ready
  spu := ⟨⟨[(0, { Station.first with requests := [⟨⟨0x5C, 3, 0⟩, [0, 1]⟩] })]⟩, false, []⟩
  dt := ⟨⟨[(0, offListCheckout)]⟩, ⟨[]⟩, ⟨[]⟩⟩
  dqu := ⟨⟨[(1, { Destination.powerOn with state := .opened, checkouts := [⟨⟨0, 0⟩, 1, 0, 1⟩] }),
    (2, { Destination.powerOn with state := .opened, checkouts := [⟨⟨0, 0⟩, 9, 0, 1⟩] })]⟩⟩
  te := { Te.powerOn with jobs := [offListJob] } }

theorem offListWithdrawal_takes : offListWithdrawal.Takes 0 0x5C ⟨⟨0x5C, 3, 0⟩, [0, 1]⟩ := by decide

set_option maxRecDepth 4000 in
/-- The document has settled with a new deadline at position 9. -/
theorem offListWithdrawal_run : ∃ t, exec (.withdraw 0) offListWithdrawal = .next t
    ∧ (t.document 0).entry 9 = some ⟨2, none, .checkedOut, 1, 1, some 300000, none⟩ :=
  ⟨_, rfl, by decide⟩

end Sys2Proof.Machine

open Sys2Proof.Machine

/-- Refutes O53: nothing in the delivery list is outstanding, yet the document that settles has another entry changed. -/
theorem not_withdraw : ¬ Obligations.Withdraw := by
  intro h
  obtain ⟨-, -, settles⟩ := h offListWithdrawal 0 ⟨⟨0x5C, 3, 0⟩, [0, 1]⟩ 0 1 ⟨0, 0⟩ 1 offListCheckout _ _ _
    offListWithdrawal_takes rfl (by decide) (by decide) (by decide) rfl rfl rfl rfl rfl
  obtain ⟨t, run, ⟨-, unrouted, -⟩, -⟩ := settles 1 ⟨1, none, .checkedOut, 1, 1, none, none⟩ _ rfl (by decide) (by decide) rfl
  obtain ⟨t', run', changed⟩ := offListWithdrawal_run
  obtain rfl : t = t' := Host.Outcome.next.inj (run.symm.trans run')
  have kept : (t.document 0).entry 9 = some ⟨2, none, .checkedOut, 1, 1, none, none⟩ := by
    rw [unrouted (by decide) (by decide)]
    rfl
  exact absurd (kept.symm.trans changed) (by decide)
end

-- ==== Proofs: the heads that TAKE gives up, and the one it checks out ====
section
/-!
SUPPORT. TAKE at the head of a queue (R127 to R129): a head that leaves it; the spent heads given up one after another, each with its
document's settling; and the first entry behind them, checked out. Then the command by its checks.
-/

namespace Sys2Proof.Machine

/-! ## The head of a queue -/

/-- The destination once the first `k` items of its queue have left. -/
def Destination.behind (d : Destination) (k : Nat) : Destination :=
  { d with urgent := d.urgent.drop k, normal := d.normal.drop (k - d.urgent.length) }

theorem Destination.queue_behind (d : Destination) (k : Nat) : (d.behind k).queue = d.queue.drop k :=
  (List.drop_append).symm

theorem Destination.behind_zero (d : Destination) : d.behind 0 = d := by simp [Destination.behind]

theorem Destination.behind_behind (d : Destination) (k l : Nat) : (d.behind k).behind l = d.behind (k + l) := by
  have rest : k - d.urgent.length + (l - (d.urgent.length - k)) = k + l - d.urgent.length := by omega
  simp [Destination.behind, List.drop_drop, rest]

theorem Destination.behind_all (d : Destination) {k : Nat} (h : d.queue.length ≤ k) :
    d.behind k = { d with urgent := [], normal := [] } := by
  rw [Destination.queue, List.length_append] at h
  rw [Destination.behind, List.drop_eq_nil_of_le (by omega), List.drop_eq_nil_of_le (by omega)]

/-- With its head the queue loses an urgent item where there is one, and a normal item otherwise. -/
theorem Destination.behind_one (d : Destination) : d.behind 1 = { d with
    urgent := if d.urgent = [] then [] else d.urgent.tail
    normal := if d.urgent = [] then d.normal.tail else d.normal } := by
  unfold Destination.behind
  cases d.urgent <;> simp

/-- Only the head of the queue is the item of its document and position. -/
def QueueItem.Alone (x : QueueItem) (rest : List QueueItem) : Prop :=
  ∀ y ∈ rest, ¬ (y.handle.index = x.handle.index ∧ y.position = x.position)

theorem QueueItem.Alone.filter_eq {x : QueueItem} {rest : List QueueItem} (h : x.Alone rest) :
    rest.filter (fun y => decide (¬ (y.handle.index = x.handle.index ∧ y.position = x.position))) = rest :=
  List.filter_eq_self.2 fun y hy => decide_eq_true (h y hy)

variable (s : State)

/-- The head leaves its queue, and the items behind it keep their order (R112). -/
theorem State.leaveQueue_head {n : Nat} {x : QueueItem} {rest : List QueueItem} (hq : (s.destination n).queue = x :: rest)
    (h : x.Alone rest) :
    s.leaveQueue n x.handle.index x.position = s.setDestination n ((s.destination n).behind 1) := by
  unfold State.leaveQueue
  dsimp only
  congr 1
  rw [Destination.queue] at hq
  unfold Destination.behind
  cases urgent : (s.destination n).urgent with
  | nil =>
    rw [urgent, List.nil_append] at hq
    simp only [hq, List.filter_cons]
    simpa using h.filter_eq
  | cons y ys =>
    rw [urgent, List.cons_append] at hq
    obtain ⟨rfl, rfl⟩ := List.cons.inj hq
    have first := QueueItem.Alone.filter_eq (x := y) fun z hz => h z (List.mem_append_left _ hz)
    have second := QueueItem.Alone.filter_eq (x := y) fun z hz => h z (List.mem_append_right _ hz)
    rw [second, List.filter_cons, first]
    simp

/-! ## A spent head given up -/

theorem Document.mem_positions_of_entryList {d : Document} {y : Nat × Entry} (hy : y ∈ d.entryList) : y.1 ∈ positions := by
  obtain ⟨p, hp, held⟩ := List.mem_filterMap.1 hy
  obtain ⟨e, -, rfl⟩ := Option.map_eq_some_iff.1 held
  exact hp

theorem State.Settles.congr {s t : State} {i : Nat} {d d' : Document} (h : t.Settles i d d') (tb : t.tb = s.tb)
    (retention : t.dt.retention = s.dt.retention) (te : t.te = s.te) : s.Settles i d d' := by
  simp only [State.Settles, State.retentionMinutes, State.activeJobs, tb, retention, te] at h ⊢
  exact h

/-- From `s` to `t` the items `spent` at the head of a queue have been given up (R129): each entry is UNDELIVERABLE, and its document
settles where nothing of it is outstanding (R70). -/
structure State.GivesUp (s t : State) (n : Nat) (spent : List QueueItem) : Prop where
  destination : t.destination n = (s.destination n).behind spent.length
  destinations : SameDestinationsBut s t [n]
  settled : ∀ x ∈ spent, ∀ e, (s.document x.handle.index).entry x.position = some e → s.Settles x.handle.index
    ((s.document x.handle.index).setEntry x.position (some (e.settledAs .undeliverable s.tb.uptime)))
    (t.document x.handle.index)
  documents : ∀ j, (∀ x ∈ spent, x.handle.index ≠ j) → t.document j = s.document j
  iu : t.iu = s.iu
  te : t.te = s.te
  store : SameStore s t
  steady : s.Steady t

theorem State.givesUp_nil (n : Nat) : s.GivesUp s n [] where
  destination := (Destination.behind_zero _).symm
  destinations := fun _ _ => rfl
  settled := fun _ hx => absurd hx List.not_mem_nil
  documents := fun _ _ => rfl
  iu := rfl
  te := rfl
  store := .of_eq rfl rfl
  steady := .refl s

theorem State.GivesUp.cons {s t u : State} {n : Nat} {x : QueueItem} {spent : List QueueItem} (h : s.GivesUp t n [x])
    (k : t.GivesUp u n spent) (apart : ∀ y ∈ spent, y.handle.index ≠ x.handle.index) : s.GivesUp u n (x :: spent) where
  destination := by
    rw [k.destination, h.destination, Destination.behind_behind]
    exact congrArg _ (Nat.add_comm 1 spent.length)
  destinations := fun m hm => (k.destinations m hm).trans (h.destinations m hm)
  settled := fun y hy e he => by
    rcases List.mem_cons.1 hy with rfl | later
    · rw [k.documents _ apart]
      exact h.settled y List.mem_cons_self e he
    · have same := h.documents y.handle.index fun z hz => by
        rw [List.mem_singleton.1 hz]
        exact (apart y later).symm
      have tb : t.tb = s.tb := congrArg Settings.tb h.steady.config.settings
      have settled := k.settled y later e (by rwa [same])
      rw [same, tb] at settled
      exact settled.congr tb (congrArg Settings.retention h.steady.config.settings) h.te
  documents := fun j hj => (k.documents j fun y hy => hj y (List.mem_cons_of_mem _ hy)).trans
    (h.documents j fun y hy => hj y (List.mem_singleton.1 hy ▸ List.mem_cons_self))
  iu := k.iu.trans h.iu
  te := k.te.trans h.te
  store := h.store.trans k.store
  steady := h.steady.trans k.steady

/-- A head given up, but for its document's settling: it has left the queue, its entry is UNDELIVERABLE, and notices have followed
(R129, R138). -/
theorem State.upTo_dropHead {n : Nat} {x : QueueItem} {rest : List QueueItem} {e : Entry}
    (hq : (s.destination n).queue = x :: rest) (h : x.Alone rest) : UpToNotices
      ((s.setDestination n ((s.destination n).behind 1)).setDocument x.handle.index
        ((s.document x.handle.index).setEntry x.position (some (e.settledAs .undeliverable s.tb.uptime))))
      ((s.leaveQueue n x.handle.index x.position).makeUndeliverable x.handle.index x.position e 3) := by
  rw [s.leaveQueue_head hq h]
  exact State.upTo_send _ _ _ _

/-- While another delivery of the document is outstanding, nothing of it settles. -/
theorem State.upTo_dropHead_of_waits {n : Nat} {x : QueueItem} {rest : List QueueItem} {e : Entry} {y : Nat × Entry}
    (hq : (s.destination n).queue = x :: rest) (h : x.Alone rest) (hy : y ∈ (s.document x.handle.index).entryList)
    (other : y.1 ≠ x.position) (out : y.2.outstanding = true) : UpToNotices
      ((s.setDestination n ((s.destination n).behind 1)).setDocument x.handle.index
        ((s.document x.handle.index).setEntry x.position (some (e.settledAs .undeliverable s.tb.uptime))))
      (s.dropHead n x e) := by
  have told := s.upTo_dropHead (e := e) hq h
  unfold State.dropHead
  rwa [State.settleIfEmpty_of_outstanding]
  rw [told.document, State.document_setDocument_same]
  refine Document.outstandingSet_ne_nil (e := y.2) ?_ (Document.mem_positions_of_entryList hy) out
  rw [Document.entry_setEntry_ne _ other]
  exact Document.entry_of_entryList hy

theorem State.steady_dropHead (n : Nat) (x : QueueItem) (e : Entry) : s.Steady (s.dropHead n x e) :=
  ((s.steady_leaveQueue _ _ _).trans (State.steady_makeUndeliverable _ _ _ _ _)).trans (State.steady_settleIfEmpty _ _)

theorem State.givesUp_dropHead {n : Nat} {x : QueueItem} {rest : List QueueItem} {e : Entry}
    (hq : (s.destination n).queue = x :: rest) (h : x.Alone rest) (queued : (s.document x.handle.index).state = .queued)
    (he : (s.document x.handle.index).entry x.position = some e) : s.GivesUp (s.dropHead n x e) n [x] := by
  have told := s.upTo_dropHead (e := e) hq h
  have steady := s.steady_dropHead n x e
  unfold State.dropHead at steady ⊢
  generalize (s.leaveQueue n x.handle.index x.position).makeUndeliverable x.handle.index x.position e 3 = u at told steady ⊢
  have document (j : Nat) : u.document j = if j = x.handle.index then
      (s.document x.handle.index).setEntry x.position (some (e.settledAs .undeliverable s.tb.uptime)) else s.document j :=
    (told.document j).trans (State.document_setDocument _ _ _ _)
  have destination (m : Nat) : u.destination m = if m = n then (s.destination n).behind 1 else s.destination m :=
    (told.destination m).trans (s.destination_setDestination _ _ _)
  have own := (document x.handle.index).trans (if_pos rfl)
  have settles := u.settles_settleIfEmpty x.handle.index (by rw [own]; exact queued)
  rw [own] at settles
  obtain ⟨others, store⟩ := u.settleIfEmpty_frame x.handle.index
  have traffic := u.traffic_settleIfEmpty x.handle.index
  have dqu := u.dqu_settleIfEmpty x.handle.index
  refine ⟨?_, fun m hm => ?_, fun y hy f hf => ?_, fun j hj => ?_, traffic.iu.trans told.iu, traffic.changes.te.trans told.te,
    SameStore.trans (.of_eq (by rw [told.bsm]; rfl) (by rw [told.bsm]; rfl)) store, steady⟩
  · rw [State.destination, dqu]
    exact (destination n).trans (if_pos rfl)
  · rw [State.destination, dqu]
    exact (destination m).trans (if_neg (by simpa using hm))
  · obtain rfl := List.mem_singleton.1 hy
    obtain rfl := Option.some.inj (he.symm.trans hf)
    exact settles.congr told.tb (by rw [told.dt]; rfl) told.te
  · have other : j ≠ x.handle.index := (hj x List.mem_cons_self).symm
    exact (others j other).trans ((document j).trans (if_neg other))

/-! ## The spent heads, one after another -/

/-- The queue of a destination names different documents, each QUEUED with an entry at the position named. -/
structure State.Lined (s : State) (n : Nat) (l : List QueueItem) : Prop where
  queue : (s.destination n).queue = l
  apart : (l.map (fun x => x.handle.index)).Nodup
  held : ∀ x ∈ l, (s.document x.handle.index).state = .queued ∧ ∃ e, (s.document x.handle.index).entry x.position = some e

section Lined

variable {s} {t : State} {n : Nat} {x : QueueItem} {l rest : List QueueItem}

theorem State.QueueSound.lined (h : s.QueueSound (s.destination n)) : s.Lined n (s.destination n).queue := by
  obtain ⟨apart, items⟩ := h
  refine ⟨rfl, apart, fun x hx => ?_⟩
  obtain ⟨-, queued, -, -, entry, -⟩ := items x hx
  refine ⟨queued, ?_⟩
  cases he : (s.document x.handle.index).entry x.position with
  | none => simp [he] at entry
  | some e => exact ⟨e, rfl⟩

theorem State.Lined.disjoint (h : s.Lined n (l ++ rest)) : ∀ x ∈ l, ∀ y ∈ rest, x.handle.index ≠ y.handle.index := by
  have apart := h.apart
  rw [List.map_append] at apart
  exact fun x hx y hy => (List.nodup_append.1 apart).2.2 _ (List.mem_map.2 ⟨x, hx, rfl⟩) _ (List.mem_map.2 ⟨y, hy, rfl⟩)

theorem State.Lined.alone (h : s.Lined n (x :: l)) : x.Alone l := fun y hy same =>
  State.Lined.disjoint (l := [x]) h x List.mem_cons_self y hy same.1.symm

theorem State.GivesUp.document_behind (k : s.GivesUp t n l) (h : s.Lined n (l ++ rest)) {y : QueueItem} (hy : y ∈ rest) :
    t.document y.handle.index = s.document y.handle.index := k.documents _ fun x hx => h.disjoint x hx y hy

/-- The items behind those given up stay as they are. -/
theorem State.Lined.behind (h : s.Lined n (l ++ rest)) (k : s.GivesUp t n l) : t.Lined n rest where
  queue := by rw [k.destination, Destination.queue_behind, h.queue, List.drop_left]
  apart := by
    have apart := h.apart
    rw [List.map_append] at apart
    exact (List.nodup_append.1 apart).2.1
  held := fun y hy => by
    rw [k.document_behind h hy]
    exact h.held y (List.mem_append_right _ hy)

/-- The search for a head below 15 ends at such a head, and at an empty queue. -/
theorem State.dropSpent_stop (fuel : Nat) (h : ∀ x e, (s.destination n).queue.head? = some x →
    (s.document x.handle.index).entry x.position = some e → e.attempts < 15) : State.dropSpent n fuel s = s := by
  cases fuel with
  | zero => rfl
  | succ fuel =>
    unfold State.dropSpent
    split
    · rfl
    · rename_i x hx
      split
      · rfl
      · rename_i e he
        exact if_neg (by simpa [Entry.spent] using h x e hx he)

theorem State.dropSpent_head {e : Entry} (fuel : Nat) (hq : (s.destination n).queue = x :: l)
    (he : (s.document x.handle.index).entry x.position = some e) (spent : 15 ≤ e.attempts) :
    State.dropSpent n (fuel + 1) s = State.dropSpent n fuel (s.dropHead n x e) := by
  have gone : e.spent = true := decide_eq_true spent
  rw [State.dropSpent, hq, List.head?_cons]
  simp only [State.itemEntry, he, gone, if_true]

/-- Every spent head is given up, and the first entry below 15 stays (R129). -/
theorem State.Lined.dropSpent {spent : List QueueItem} (h : s.Lined n (spent ++ rest)) {fuel : Nat} (enough : spent.length ≤ fuel)
    (used : ∀ x ∈ spent, ∀ e, (s.document x.handle.index).entry x.position = some e → 15 ≤ e.attempts)
    (below : ∀ x e, rest.head? = some x → (s.document x.handle.index).entry x.position = some e → e.attempts < 15) :
    s.GivesUp (State.dropSpent n fuel s) n spent := by
  induction spent generalizing s fuel with
  | nil =>
    rw [State.dropSpent_stop fuel (by rw [h.queue]; exact below)]
    exact s.givesUp_nil n
  | cons x spent ih =>
    obtain ⟨fuel, rfl⟩ := Nat.exists_eq_add_of_le' (Nat.lt_of_lt_of_le (Nat.succ_pos _) enough)
    obtain ⟨queued, e, he⟩ := h.held x List.mem_cons_self
    rw [State.dropSpent_head fuel h.queue he (used x List.mem_cons_self e he)]
    have first := s.givesUp_dropHead h.queue h.alone queued he
    replace h : s.Lined n ([x] ++ (spent ++ rest)) := h
    refine first.cons (ih (h.behind first) (by simpa using enough) (fun y hy f hf => ?_) (fun y f hy hf => ?_))
      fun y hy => (h.disjoint x List.mem_cons_self y (List.mem_append_left _ hy)).symm
    · rw [first.document_behind h (List.mem_append_left _ hy)] at hf
      exact used y (List.mem_cons_of_mem _ hy) f hf
    · rw [first.document_behind h (List.mem_append_right _ (List.mem_of_head? hy))] at hf
      exact below y f hy hf

end Lined

/-! ## The head checked out -/

/-- The head of the queue is checked out (R128). -/
theorem State.takeHead_eq {slot n : Nat} {x : QueueItem} {rest : List QueueItem} {e : Entry}
    (hq : (s.destination n).queue = x :: rest) (h : x.Alone rest) : s.takeHead slot n x e =
      (s.setDestination n { (s.destination n).behind 1 with
        checkouts := (s.destination n).checkouts ++ [⟨x.handle, x.position, slot, e.attempts + 1⟩] }).setDocument x.handle.index
        ((s.document x.handle.index).setEntry x.position (some (e.taken s.tb.uptime (s.destination n).holdTime))) := by
  unfold State.takeHead State.joinCheckouts
  rw [s.leaveQueue_head hq h]
  show State.setDocument ((s.setDestination n _).setDestination n _) _ _ = _
  rw [State.setDestination_twice]
  have here : ∀ u : State, ((s.setDestination n ((s.destination n).behind 1)).setEntry x.handle.index x.position
      (e.taken s.tb.uptime (s.destination n).holdTime)).destination n = (s.destination n).behind 1 := fun _ =>
    s.destination_setDestination_same n _
  rw [here s]
  rfl

theorem State.takeFrom_empty {slot n : Nat} (h : (s.destination n).queue = []) :
    s.takeFrom slot n = .replied .empty [word n] s := by
  rw [State.takeFrom, h]
  rfl

theorem State.takeFrom_head {slot n : Nat} {x : QueueItem} {rest : List QueueItem} {e : Entry} {m : Document}
    (hq : (s.destination n).queue = x :: rest) (h : x.Alone rest) (hm : m = s.document x.handle.index)
    (he : m.entry x.position = some e) : s.takeFrom slot n = .replied .ok
      [x.handle.word, word n, word (e.attempts + 1), word m.priority.code, word m.pages.length, word (s.documentBytes m),
        word rest.length] (s.takeHead slot n x e) := by
  subst hm
  have left : ((s.takeHead slot n x e).destination n).queue = rest := by
    rw [s.takeHead_eq hq h, State.destination_setDocument, State.destination_setDestination_same]
    exact (Destination.queue_behind _ 1).trans (by rw [hq]; rfl)
  rw [State.takeFrom, hq, List.head?_cons]
  simp only [State.itemEntry, he, left]

/-- From `s` to `t` the head of a queue, if any, has been checked out, and nothing else has changed (R128). -/
structure State.ChecksOut (s t : State) (n : Nat) (head : List QueueItem) : Prop where
  destinations : SameDestinationsBut s t [n]
  documents : ∀ j, (∀ x ∈ head, x.handle.index ≠ j) → t.document j = s.document j
  iu : t.iu = s.iu
  te : t.te = s.te
  bsm : t.bsm = s.bsm
  spu : t.spu = s.spu
  pages : t.dt.pages = s.dt.pages
  steady : s.Steady t

theorem State.checksOut_takeHead {slot n : Nat} {x : QueueItem} {rest : List QueueItem} {e : Entry}
    (hq : (s.destination n).queue = x :: rest) (h : x.Alone rest) : s.ChecksOut (s.takeHead slot n x e) n [x] := by
  have steady := s.steady_takeHead slot n x e
  rw [s.takeHead_eq hq h] at steady ⊢
  refine ⟨fun m hm => ?_, fun j hj => ?_, rfl, rfl, rfl, rfl, rfl, steady⟩
  · exact s.destination_setDestination_ne (by simpa using hm) _
  · exact State.document_setDocument_ne _ (hj x List.mem_cons_self).symm _

theorem State.documentBytes_of_pages {s t : State} (h : t.dt.pages = s.dt.pages) (d : Document) :
    t.documentBytes d = s.documentBytes d := by
  simp only [State.documentBytes, State.page, h]

variable {s} {slot : Nat} {r : Record} {w1 : Word} {n : Nat} {d : Destination}

/-- What TAKE makes of a queue whose head is not spent: EMPTY, or its head checked out (R128). -/
theorem State.Lined.takeFrom {rest : List QueueItem} (h : s.Lined n rest) (slot : Nat) : ∃ status words t,
    s.takeFrom slot n = .replied status words t ∧ s.ChecksOut t n (rest.take 1)
      ∧ (rest = [] → t.destination n = s.destination n ∧ status = .empty ∧ words = [word n])
      ∧ ∀ x left e m, rest = x :: left → m = s.document x.handle.index → m.entry x.position = some e →
        t.document x.handle.index = m.setEntry x.position (some (e.taken s.tb.uptime (s.destination n).holdTime))
          ∧ t.destination n = { (s.destination n).behind 1 with
            checkouts := (s.destination n).checkouts ++ [⟨x.handle, x.position, slot, e.attempts + 1⟩] }
          ∧ status = .ok ∧ words = [x.handle.word, word n, word (e.attempts + 1), word m.priority.code, word m.pages.length,
            word (s.documentBytes m), word left.length] := by
  cases rest with
  | nil =>
    exact ⟨_, _, s, s.takeFrom_empty h.queue, ⟨fun _ _ => rfl, fun _ _ => rfl, rfl, rfl, rfl, rfl, rfl, .refl s⟩,
      fun _ => ⟨rfl, rfl, rfl⟩, fun _ left _ _ absent => absurd absent.symm (List.cons_ne_nil _ left)⟩
  | cons x left =>
    obtain ⟨-, e, he⟩ := h.held x List.mem_cons_self
    refine ⟨_, _, _, s.takeFrom_head h.queue h.alone rfl he, s.checksOut_takeHead h.queue h.alone,
      fun absent => absurd absent (List.cons_ne_nil x left), ?_⟩
    intro y left' f m hrest hm hf
    obtain ⟨rfl, rfl⟩ := List.cons.inj hrest
    subst hm
    obtain rfl := Option.some.inj (he.symm.trans hf)
    rw [s.takeHead_eq h.queue h.alone]
    exact ⟨State.document_setDocument_same _ _ _, s.destination_setDestination_same _ _, rfl, rfl⟩

/-- TAKE of a slot that may take from the destination (R127). -/
theorem execTake_of_takes (takes : s.Takes slot 0x58 r) (hw : r.words = [w1]) (hn : n = min w1.toNat 31) (hd : d = s.destination n)
    (right : (s.rights slot).administer = true ∨ ((s.rights slot).deliver = true ∧ d.bound = some slot)) :
    (d.state ≠ .opened → exec (.take slot) s = .next (s.replying slot (r.reply .destUnavailable [])))
    ∧ (d.state = .opened → d.checkoutLimit ≤ d.checkouts.length →
      exec (.take slot) s = .next (s.replying slot (r.reply .checkoutLimit [])))
    ∧ (d.state = .opened → d.checkouts.length < d.checkoutLimit → exec (.take slot) s = .next ((s.taken slot).answerRecord slot r
      ((State.dropSpent n d.queue.length (s.taken slot)).takeFrom slot n))) := by
  subst hn hd
  have may : (s.rights slot).mayTake = true := by
    rcases right with right | ⟨right, -⟩ <;> simp [Rights.mayTake, right]
  have own : (!(s.rights slot).administer && !s.boundTo slot (min w1.toNat 31)) = false := by
    rcases right with right | ⟨-, bound⟩
    · simp [right]
    · simp [State.boundTo, bound]
  have run : exec (.take slot) s = _ := congrArg Host.Outcome.next (s.command_of_takes takes _)
  simp only [hw, destOf_eq, State.rights_taken, State.destination_taken, State.boundTo_taken, may, own, Bool.not_true,
    Bool.false_eq_true, if_false] at run
  refine ⟨fun shut => ?_, fun opened full => ?_, fun opened room => ?_⟩
  · rw [if_pos shut] at run
    exact run.trans (congrArg Host.Outcome.next (s.taken_fill slot _))
  · rw [if_neg (not_not_intro opened), if_pos full] at run
    exact run.trans (congrArg Host.Outcome.next (s.taken_fill slot _))
  · rwa [if_neg (not_not_intro opened), if_neg (Nat.not_le.2 room)] at run

/-- The first head given up: each ADMINISTER slot with room is sent UNDELIVERABLE (R129, R138). -/
theorem State.Lined.got_dropSpent {spent rest : List QueueItem} {x : QueueItem} {e : Entry} {fuel a : Nat}
    (h : s.Lined n (spent ++ rest)) (hx : spent.head? = some x) (enough : spent.length ≤ fuel)
    (he : (s.document x.handle.index).entry x.position = some e) (used : 15 ≤ e.attempts) (reset : s.spu.underReset = [])
    (ha : a < 16) (admin : (s.rights a).administer = true) (room : s.replyRoom a = true) :
    s.Got (State.dropSpent n fuel s) a (s.undeliverableNote x.handle.index x.position e 3) := by
  obtain ⟨later, rfl⟩ : ∃ later, spent = x :: later := List.head?_eq_some_iff.1 hx
  obtain ⟨fuel, rfl⟩ := Nat.exists_eq_add_of_le' (Nat.lt_of_lt_of_le (Nat.succ_pos _) enough)
  rw [State.dropSpent_head fuel h.queue he used]
  have got := (s.leaveQueue n x.handle.index x.position).got_makeUndeliverable (i := x.handle.index) (p := x.position) (e := e)
    3 reset ha admin room
  exact (got.changes (State.traffic_settleIfEmpty _ _).changes).changes (State.traffic_dropSpent _ n fuel).changes

end Sys2Proof.Machine

open Sys2Proof.Machine

/-- Settles O48: the checks, the spent heads given up, and what then stands at the head of the queue. -/
theorem take : Obligations.Take := by
  intro s slot r w1 n d takes hw hn hd right
  obtain ⟨shut, full, run⟩ := execTake_of_takes takes hw hn hd right
  refine ⟨shut, full, fun opened room => ?_⟩
  replace run := run opened room
  subst hd
  refine ⟨fun urgent normal => ?empty, fun x rest e m hq hm he below once => ?head, fun x e m hq hm he used waits => ?lone,
    fun spent rest hq sound used below => ?spent⟩
  case empty =>
    have vacant : ((s.taken slot).destination n).queue = [] := by
      rw [State.destination_taken, Destination.queue, urgent, normal]
      rfl
    rw [State.dropSpent_stop _ (fun x e hx _ => by rw [vacant] at hx; cases hx), State.takeFrom_empty _ vacant] at run
    exact run.trans (congrArg Host.Outcome.next (s.taken_fill slot _))
  case head =>
    subst hm
    replace hq : ((s.taken slot).destination n).queue = x :: rest := hq
    have stop : ∀ y f, ((s.taken slot).destination n).queue.head? = some y →
        ((s.taken slot).document y.handle.index).entry y.position = some f → f.attempts < 15 := fun y f hy hf => by
      rw [hq] at hy
      obtain rfl := Option.some.inj hy
      obtain rfl := Option.some.inj (he.symm.trans hf)
      exact below
    rw [State.dropSpent_stop _ stop, State.takeFrom_head _ hq once rfl he, State.takeHead_eq _ hq once] at run
    refine run.trans (congrArg Host.Outcome.next ?_)
    rw [State.destination_taken, Destination.behind_one]
    exact s.fill_eq_replying slot _ _ _ rfl rfl rfl
  case lone =>
    subst hm
    replace hq : ((s.taken slot).destination n).queue = [x] := hq
    have length : (s.destination n).queue.length = 0 + 1 := congrArg List.length hq
    have cleared := (s.destination n).behind_all (Nat.le_of_eq length)
    obtain ⟨y, hy, other, out⟩ := waits
    have told := (s.taken slot).upTo_dropHead_of_waits (e := e) hq (fun _ hy => absurd hy List.not_mem_nil) hy other out
    rw [length, State.dropSpent_head 0 hq he used, State.dropSpent] at run
    generalize (s.taken slot).dropHead n x e = u at told run
    have vacant : (u.destination n).queue = [] := by
      rw [told.destination]
      exact (congrArg Destination.queue ((State.destination_setDestination_same _ n _).trans cleared)).trans rfl
    rw [u.takeFrom_empty vacant] at run
    have answered := s.upTo_answer (r.reply .empty [word n]) (by rfl) told
    rw [State.destination_taken, cleared] at answered
    exact ⟨_, run, answered.1, answered.2⟩
  case spent =>
    have lined : (s.taken slot).Lined n (spent ++ rest) := hq ▸ State.QueueSound.lined (s := s.taken slot) sound
    have length : (s.destination n).queue.length = spent.length + rest.length :=
      (congrArg List.length hq).trans List.length_append
    have gives := lined.dropSpent (fuel := (s.destination n).queue.length) (by omega) used below
    have first (x : QueueItem) (e : Entry) (a : Nat) (hx : spent.head? = some x)
        (he : (s.document x.handle.index).entry x.position = some e) :=
      lined.got_dropSpent (fuel := (s.destination n).queue.length) (a := a) hx (by omega) he
        (used x (List.mem_of_head? hx) e he)
    generalize State.dropSpent n (s.destination n).queue.length (s.taken slot) = v at run gives first
    have behind := lined.behind gives
    obtain ⟨status, words, z, taken, out, vacant, atHead⟩ := behind.takeFrom slot
    rw [taken] at run
    have steady (x : Reply) := (((s.steady_taken slot).trans gives.steady).trans out.steady).trans (z.steady_fillReservation slot x)
    refine ⟨_, run, fun m hm => (out.destinations m hm).trans (gives.destinations m hm), out.iu.trans gives.iu,
      out.te.trans gives.te, (steady _).config, ?_, fun x hx e he => ?_, fun j hj => ?_,
      fun x e a hx he ha admin reset room => ?_, fun empty => ?_, fun x left e m hrest hm he => ?_⟩
    · have store := gives.store.trans (.of_eq (t := z) (by rw [out.bsm]) (by rw [out.bsm]))
      exact ⟨store.bytes, store.links⟩
    · have same : z.document x.handle.index = v.document x.handle.index :=
        out.documents _ fun y hy => (lined.disjoint x hx y (List.mem_of_mem_take hy)).symm
      have settled := gives.settled x hx e he
      rw [← same] at settled
      exact settled
    · exact (out.documents j fun y hy => hj y (List.mem_append_right _ hy)).trans
        (gives.documents j fun y hy => hj y (List.mem_append_left _ hy))
    · have got := first x e a hx he reset ha (by rwa [State.rights_taken]) room
      have listed : x ∈ spent := List.mem_of_head? hx
      obtain ⟨generation, -⟩ := sound.2 x (hq ▸ List.mem_append_left _ listed)
      have told : s.Got v a _ := got.of_replies (s.replies_taken slot a)
      rw [State.undeliverableNote, State.document_taken, ← generation] at told
      have same : z.station a = v.station a := by rw [State.station, out.spu, State.station]
      exact (State.Got.fillReservation (t := z) ⟨told.choose, by rw [same]; exact told.choose_spec⟩ slot _)
    · obtain ⟨kept, rfl, rfl⟩ := vacant empty
      refine ⟨kept.trans (gives.destination.trans ((s.destination n).behind_all ?_)), State.getLast_fill slot _ _⟩
      rw [length, empty]
      exact Nat.le_refl _
    · have mine : v.document x.handle.index = s.document x.handle.index :=
        gives.document_behind lined (hrest ▸ List.mem_cons_self)
      obtain ⟨document, destination, rfl, rfl⟩ := atHead x left e m hrest (hm.trans mine.symm) he
      have now : v.destination n = (s.destination n).behind spent.length := gives.destination
      have uptime : v.tb.uptime = s.tb.uptime := congrArg (fun x => x.tb.uptime) gives.steady.config.settings
      rw [now, Destination.behind_behind] at destination
      rw [now, uptime] at document
      refine ⟨document, destination, (State.getLast_fill slot _ _).trans ?_⟩
      rw [← State.documentBytes_of_pages out.pages]
      rfl
end
